-- ==== Sys2Proof/Word.lean ====
section
/-! DEFINITION. The words of the WF-316: bytes of its links, 16-bit check values and 64-bit zone sets. -/

namespace Sys2Proof

/-- One byte of the host link or of the zone link (R134, R186). -/
abbrev Byte := BitVec 8

/-- A 16-bit value sent high byte first, such as a CRC (R186). -/
abbrev Word16 := BitVec 16

/-- A zone set: zone `z` is bit `z` (R186, R108). -/
abbrev ZoneSet := BitVec 64

end Sys2Proof
end

