-- ==== Sys2Proof/Config.lean ====
section
/-! DEFINITION. What the part fixes: table sizes and limits, the time base, and the one value the manual leaves open. -/

namespace Sys2Proof.Config

/-- Call contexts in the Call Table (R11). -/
def callContexts : Nat := 256
/-- General page records (R104). -/
def generalRecords : Nat := 24
/-- Places of the output queue (R190). -/
def outputPlaces : Nat := 48
/-- Directives and notices that may stand in the output queue at once (R190). -/
def unsolicitedPlaces : Nat := 40
/-- A request is taken only while the output queue holds fewer frames than this (R188). -/
def takeBelow : Nat := 40
/-- Places of the request queue (R188). -/
def requestPlaces : Nat := 4
/-- Memberships of the shared pool (R23). -/
def poolSize : Nat := 1024
/-- Memberships of one group (R24). -/
def membersPerGroup : Nat := 32
/-- Memberships of one extension (R4, R24). -/
def membershipsPerExtension : Nat := 4
/-- The overflow depth at which a further overflow becomes a divert (R60). -/
def maximumDepth : Nat := 3
/-- The end of the time base, in units of 100 ms (R4). -/
def timeBaseEnd : Nat := 4294967295
/-- The largest elapsed count (R177). -/
def elapsedEnd : Nat := 131071
/-- The idle clock's end of 65,535 s, in the 100 ms units it accumulates (R1, R28). -/
def idleTenthsEnd : Nat := 655350
/-- Debounce of an alarm input, in ms (R1, R157). -/
def debounceMs : Nat := 50
/-- Duration of a map write, in ms (R1, R168). -/
def mapWriteMs : Nat := 60
/-- Reply timeout of the zone link, in ms (R1, R140). -/
def replyTimeoutMs : Nat := 4
/-- Receive gap of the host link, in ms (R1, R187). -/
def receiveGapMs : Nat := 20
/-- The first of the four prompt codes that name the site's alert messages (R159). -/
def alertPrompt : Nat := 65280

/-- FREE VALUE (log entry 1): whether a remaining time of this many milliseconds, which is no whole number of 100 ms
units, is reported in the next unit up. R19 gives the field in 100 ms units and states no rounding. -/
opaque roundsUp : Nat → Bool

end Sys2Proof.Config
end

