-- ==== Sys2Proof/Syntax.lean ====
section
/-! DEFINITION. The commands of the WF-316: one constructor for each row of spec/opcode_table.json.

A request row carries the tag and the payload bytes of the request frame that the Link Controller takes (R186, R188);
the three rows that sample the map-write enable line carry its level too (R164, R166). An expiry names what its timer
belongs to. A start-up row carries what the part samples when it starts (R156, R163, R194). -/

namespace Sys2Proof

/-- What a start-up finds at the pins and in the map store (R156, R163, R194). -/
structure StartSample where
  /-- the two baud straps, BAUD1 the high bit (R186) -/
  straps : BitVec 2
  /-- the alarm contacts, bit `i` set while contact `i` is closed (R156) -/
  closed : BitVec 4
  /-- whether the non-volatile store still holds what was left in it (R163) -/
  storeHolds : Bool
deriving DecidableEq, Repr

/-- The commands, in the order of the table. -/
inductive Instr where
  | powerOn (sample : StartSample)
  | pinReset (sample : StartSample)
  | linkReset (sample : StartSample)
  | frameReceive (kind tag : Byte) (payload : List Byte)
  | frameError (bytes : List Byte)
  | receiveGapTimeout
  | outputDepart
  | unknownKind (kind tag : Byte) (payload : List Byte)
  | lineReport (tag : Byte) (payload : List Byte)
  | directRing (tag : Byte) (payload : List Byte)
  | callAnswer (tag : Byte) (payload : List Byte)
  | callGone (tag : Byte) (payload : List Byte)
  | callQuery (tag : Byte) (payload : List Byte)
  | groupSet (tag : Byte) (payload : List Byte)
  | membersSet (tag : Byte) (payload : List Byte)
  | presenceStage (tag : Byte) (payload : List Byte)
  | rosterCommit (tag : Byte) (payload : List Byte)
  | rosterQuery (tag : Byte) (payload : List Byte)
  | callArrive (tag : Byte) (payload : List Byte)
  | noAnswerExpiry (call : Nat)
  | maximumWaitExpiry (call : Nat)
  | fallbackSet (tag : Byte) (payload : List Byte)
  | autoPageDue (group : Nat)
  | pickupAsk (tag : Byte) (payload : List Byte)
  | pickgroupSet (tag : Byte) (payload : List Byte)
  | extSet (tag : Byte) (payload : List Byte)
  | parkAsk (tag : Byte) (payload : List Byte)
  | orbitSet (tag : Byte) (payload : List Byte)
  | parkTimerExpiry (orbit : Nat)
  | recallRingExpiry (orbit : Nat)
  | retrieveAsk (tag : Byte) (payload : List Byte)
  | pageAsk (tag : Byte) (payload : List Byte)
  | pageStop (tag : Byte) (payload : List Byte)
  | zonesetSet (tag : Byte) (payload : List Byte)
  | pagingSet (tag : Byte) (payload : List Byte)
  | chimeTimerExpiry (zone : Nat)
  | hangTimerExpiry (zone : Nat)
  | suspensionTimerExpiry (page : Nat)
  | durationExpiry (page : Nat)
  | zoneReply (address reading status applied check : Byte)
  | zoneReplyTimeout
  | staleTimeExpiry (zone : Nat)
  | zoneSet (tag : Byte) (payload : List Byte)
  | levelQuery (tag : Byte) (payload : List Byte)
  | alarmLevelChange (input : Nat) (closed : Bool)
  | debounceExpiry (input : Nat)
  | mapRead (enableLine : Bool) (tag : Byte) (payload : List Byte)
  | mapArm (tag : Byte) (payload : List Byte)
  | mapWrite (enableLine : Bool) (tag : Byte) (payload : List Byte)
  | mapProtect (enableLine : Bool) (tag : Byte) (payload : List Byte)
  | mapWriteComplete (verifies : Bool)
  | excludeSet (tag : Byte) (payload : List Byte)
  | rangeHold (tag : Byte) (payload : List Byte)
  | traceSet (tag : Byte) (payload : List Byte)
  | traceClear (tag : Byte) (payload : List Byte)
  | traceRead (tag : Byte) (payload : List Byte)
  | statusQuery (tag : Byte) (payload : List Byte)
  | resetPrepare (tag : Byte) (payload : List Byte)
  | resetNow (tag : Byte) (payload : List Byte)
  | resetLineAsserted
  | powerLoss
deriving DecidableEq, Repr

end Sys2Proof
end

