-- ==== Sys2Proof/Machine/State.lean ====
section
/-! DEFINITION. The state of the WF-316 as plain data, block by block in the order of 00_scope.md, and the state after
power-on. -/

namespace Sys2Proof.Machine

/-! ## Lines and calls (R4 to R19) -/

/-- Line states (R4, R7). -/
inductive LineState where
  | unknown | idle | offhook | inCall | out
deriving DecidableEq, Repr

/-- One extension record (R4). -/
structure ExtRecord where
  line : LineState
  /-- the call whose ringing mark the extension holds -/
  ringing : Option Nat
  /-- a point on the time base, meaningful while `ringing` is present -/
  ringStart : Nat
  pickupGroup : Option Nat
  /-- the hunt groups the extension holds a membership in -/
  memberOf : List Nat
deriving DecidableEq, Repr

/-- An extension record after every reset (R4). The ring start time means nothing then (log entry 3). -/
def ExtRecord.atReset : ExtRecord :=
  { line := .unknown, ringing := none, ringStart := 0, pickupGroup := none, memberOf := [] }

/-- How the call became the part's concern (R11, R12). -/
inductive CallKind where
  | hunt | direct | recalled
deriving DecidableEq, Repr

/-- Where the call is in its life; WAITING is QUEUED or RINGING by its ringing extensions (R12). -/
inductive CallState where
  | waiting | ringingDirect | recallRinging | connected | parked
deriving DecidableEq, Repr

/-- One call context (R11). A timer is the instant at which it falls due, in ms since the last reset. -/
structure CallContext where
  ref : Nat
  kind : CallKind
  state : CallState
  group : Option Nat
  priority : Nat
  /-- a point on the time base -/
  waitingSince : Nat
  /-- the tried memberships of the group by extension, in ascending order -/
  tried : List Nat
  passCount : Nat
  depth : Nat
  /-- in the order rung -/
  ringing : List Nat
  noAnswerDue : Option Nat
  maxWaitDue : Option Nat
  connected : Option Nat
  orbit : Option Nat
deriving DecidableEq, Repr

/-! ## Hunt groups and rosters (R20 to R38) -/

inductive Discipline where
  | linear | circular | longestIdle | weighted | ringAll
deriving DecidableEq, Repr

inductive OverflowTarget where
  | group (n : Nat)
  | external (code : Nat)
deriving DecidableEq, Repr

inductive Presence where
  | available | standby | paused | signedOff
deriving DecidableEq, Repr

/-- One membership of the pool; its group and list position are those of the list it stands in (R23). -/
structure Membership where
  ext : Nat
  weight : Nat
  credit : Int
  programmed : Presence
  effective : Presence
  staged : Option Presence
  pending : Bool
  /-- the idle clock's accumulated counting time, in 100 ms units (R28) -/
  idleTenths : Nat
deriving DecidableEq, Repr

/-- One group record with its waiting list (R20, R39). -/
structure GroupRecord where
  configured : Bool
  discipline : Discipline
  members : List Membership
  cursor : Nat
  noAnswerTime : Nat
  passLimit : Nat
  waitingDepth : Nat
  maximumWait : Nat
  overflow : Option OverflowTarget
  traceEnable : Bool
  traceAccept : Bool
  traceThrough : Bool
  pickable : Bool
  safety : Bool
  emergencyHold : Bool
  homeSet : Option Nat
  autoSet : Option Nat
  autoThreshold : Nat
  liveAutoPage : Option Nat
  /-- a point on the time base -/
  rearm : Nat
  commitInProgress : Bool
  rosterChanged : Bool
  /-- the waiting list by call reference, first call first -/
  waiting : List Nat
deriving DecidableEq, Repr

/-- A group record after every reset (R20). -/
def GroupRecord.atReset : GroupRecord :=
  { configured := false, discipline := .linear, members := [], cursor := 0, noAnswerTime := 150, passLimit := 2,
    waitingDepth := 8, maximumWait := 0, overflow := none, traceEnable := false, traceAccept := false,
    traceThrough := false, pickable := true, safety := false, emergencyHold := false, homeSet := none,
    autoSet := none, autoThreshold := 600, liveAutoPage := none, rearm := 0, commitInProgress := false,
    rosterChanged := false, waiting := [] }

/-! ## Call pickup (R70) -/

/-- One pickup-group record (R70). -/
structure PickupGroup where
  configured : Bool
  assist : List Nat
  directedOpen : Bool
deriving DecidableEq, Repr

/-- A pickup-group record after every reset (R70). -/
def PickupGroup.atReset : PickupGroup := { configured := false, assist := [], directedOpen := false }

/-! ## Park orbits (R87) -/

inductive OrbitState where
  | free | held | recalling
deriving DecidableEq, Repr

inductive RecallMode where
  | parkerThenGroup | groupOnly
deriving DecidableEq, Repr

/-- One orbit record (R87). -/
structure OrbitRecord where
  state : OrbitState
  call : Option Nat
  parker : Option Nat
  parkTime : Nat
  recallRingTime : Nat
  recallMode : RecallMode
  recallGroup : Option Nat
  announceSet : Option Nat
  announcePage : Option Nat
  parkDue : Option Nat
  recallDue : Option Nat
deriving DecidableEq, Repr

/-- An orbit record after every reset (R87). -/
def OrbitRecord.atReset : OrbitRecord :=
  { state := .free, call := none, parker := none, parkTime := 600, recallRingTime := 200,
    recallMode := .parkerThenGroup, recallGroup := none, announceSet := none, announcePage := none,
    parkDue := none, recallDue := none }

/-! ## Page scheduling (R103 to R133) -/

inductive PageClass where
  | emergency | urgent | normal | background
deriving DecidableEq, Repr

inductive PageSource where
  | ext (extension : Nat)
  | prompt (code : Nat)
  | alarm (input : Nat)
deriving DecidableEq, Repr

inductive Requester where
  | host
  | hunt (group : Nat)
  | orbit (orbit : Nat)
  | alarm (input : Nat)
deriving DecidableEq, Repr

inductive PageMode where
  | allOrWait | partially
deriving DecidableEq, Repr

inductive PageState where
  | queued | opening | live | closing | suspended
deriving DecidableEq, Repr

/-- The end reasons of R107, in its order. -/
inductive EndReason where
  | stopped | duration | sourceGone | alarmCleared | released | preempted | suspendTimeout | allExcluded | uninstalled
deriving DecidableEq, Repr

/-- One page record in use (R105). Its owned zones are those whose state names it; channel 6 is EC. -/
structure PageRecord where
  id : Nat
  /-- the alarm record it stands in; none for a general record (R104) -/
  alarm : Option Nat
  cls : PageClass
  source : PageSource
  requester : Requester
  target : ZoneSet
  mode : PageMode
  suspendAllowed : Bool
  maxDuration : Nat
  arrival : Nat
  state : PageState
  channel : Option Nat
  audioSent : Bool
  /-- the duration timer has been started once in the page's life (R115) -/
  durationStarted : Bool
  durationDue : Option Nat
  suspensionDue : Option Nat
  /-- the end's reason, kept while the page is CLOSING (R107) -/
  endReason : Option EndReason
deriving DecidableEq, Repr

/-- A zone's state with its owning page, and the reservation of a CLOSING zone (R113). -/
inductive ZoneState where
  | idle
  | opening (page : Nat)
  | live (page : Nat)
  | closing (page : Nat) (reservedFor : Option Nat)
deriving DecidableEq, Repr

/-- What the Page Scheduler keeps for one zone (R113, R114). -/
structure PageZone where
  state : ZoneState
  chimeDue : Option Nat
  hangDue : Option Nat
deriving DecidableEq, Repr

/-- A zone after every reset (R113). -/
def PageZone.atReset : PageZone := { state := .idle, chimeDue := none, hangDue := none }

/-- A value for each page class (R109). -/
structure PerClass (α : Type) where
  emergency : α
  urgent : α
  normal : α
  background : α
deriving DecidableEq, Repr

/-- The PAGING-SET fields; times in 100 ms units, margins in 0.5 dB steps (R109). -/
structure PagingParams where
  chime : PerClass Nat
  hangTime : Nat
  suspensionLimit : Nat
  margin : PerClass Int
deriving DecidableEq, Repr

/-- The PAGING-SET defaults (R109). -/
def PagingParams.atReset : PagingParams :=
  { chime := { emergency := 0, urgent := 10, normal := 15, background := 5 }, hangTime := 5, suspensionLimit := 300,
    margin := { emergency := 30, urgent := 24, normal := 18, background := -12 } }

/-! ## Zone link and levels (R134 to R155) -/

/-- A commanded state; channel 7 is none and gain 255 is mute (R136, R137). -/
structure Commanded where
  channel : Nat
  gain : Nat
  ramp : Nat
  chime : Bool
deriving DecidableEq, Repr

/-- The commanded state of an IDLE zone (R138). -/
def Commanded.idle : Commanded := { channel := 7, gain := 255, ramp := 0, chime := false }

inductive FaultCause where
  | noReply | amplifier | lineOpen | overtemperature
deriving DecidableEq, Repr

/-- What the Zone Link Controller holds for one zone; it is faulted while a cause is present (R137). -/
structure AmpState where
  commanded : Commanded
  deliveryPending : Bool
  emergencyMark : Bool
  missCount : Nat
  fault : Option FaultCause
deriving DecidableEq, Repr

/-- A zone of the zone link after a reset (R137). -/
def AmpState.atReset (installed : Bool) : AmpState :=
  { commanded := .idle, deliveryPending := installed, emergencyMark := false, missCount := 0, fault := none }

/-- The exchange in flight (R135, R140). -/
structure Exchange where
  zone : Nat
  /-- the commanded state that the state frame carried -/
  sent : Commanded
  /-- the six bytes of the state frame sent on ZTX, check byte included (R136) -/
  frame : List Byte
  /-- a hand-over has changed the zone's commanded state since (R140) -/
  superseded : Bool
  /-- the instant of the reply timeout -/
  deadline : Nat
deriving DecidableEq, Repr

/-- What the Level Unit holds for one zone: `noise` in 1/16 dB, the levels in 0.5 dB steps (R147). -/
structure LevelState where
  noise : Int
  seeded : Bool
  stale : Bool
  /-- a point on the time base -/
  lastReading : Option Nat
  limited : Bool
  initialNoise : Nat
  floor : Nat
  ceiling : Nat
  minCode : Nat
  maxCode : Nat
  riseFactor : Nat
  fallFactor : Nat
  staleTime : Nat
deriving DecidableEq, Repr

/-- A zone of the Level Unit after every reset (R147). -/
def LevelState.atReset : LevelState :=
  { noise := 1120, seeded := false, stale := false, lastReading := none, limited := false, initialNoise := 140,
    floor := 130, ceiling := 200, minCode := 40, maxCode := 120, riseFactor := 16, fallFactor := 2, staleTime := 300 }

/-! ## Alarm inputs and the emergency map (R156 to R171) -/

inductive AlarmMode where
  | unused | evacuate | muster | alert
deriving DecidableEq, Repr

/-- One alarm input (R156). -/
structure AlarmInput where
  /-- the contact as last seen is closed -/
  closed : Bool
  active : Bool
  debounceDue : Option Nat
  latchedMode : AlarmMode
  latchedSet : ZoneSet
  page : Option Nat
  placementPending : Bool
deriving DecidableEq, Repr

/-- An input sampled at start-up: its debounce runs when the contact is closed (R156). -/
def AlarmInput.sampled (closed : Bool) (now : Nat) : AlarmInput :=
  { closed := closed, active := false, debounceDue := if closed then some (now + Config.debounceMs) else none,
    latchedMode := .unused, latchedSet := 0, page := none, placementPending := false }

inductive Protection where
  | anyone | line | permanent
deriving DecidableEq, Repr

/-- An exclusion range (R162, R170). -/
structure ExclusionRange where
  enabled : Bool
  lower : Nat
  upper : Nat
  invert : Bool
deriving DecidableEq, Repr

/-- What the map says of one alarm input (R162). -/
structure InputMeaning where
  mode : AlarmMode
  zones : ZoneSet
deriving DecidableEq, Repr

/-- The emergency map; sensitivities and the emergency ceiling in 0.5 dB steps (R162). -/
structure EmergencyMap where
  installed : ZoneSet
  sensitivity : Vector Nat 64
  inputs : Vector InputMeaning 4
  ceiling : Nat
  range : ExclusionRange
  protection : Protection
deriving DecidableEq, Repr

/-- The default map (R163). -/
def EmergencyMap.default : EmergencyMap :=
  { installed := BitVec.allOnes 64, sensitivity := Vector.replicate 64 190,
    inputs := Vector.replicate 4 { mode := .evacuate, zones := BitVec.allOnes 64 }, ceiling := 230,
    range := { enabled := false, lower := 0, upper := 63, invert := false }, protection := .anyone }

/-- The stored copy with its CRC, or a store that cannot pass its check (R162, R163, R168, R169). -/
inductive StoredCopy where
  | copy (contents : EmergencyMap) (crc : Word16)
  | damaged
deriving DecidableEq, Repr

inductive MapStatus where
  | valid | default | writing | storeInvalid
deriving DecidableEq, Repr

/-- The write in flight (R168). -/
structure MapWriting where
  contents : EmergencyMap
  /-- begun by a MAP-WRITE, not by a MAP-PROTECT (R169) -/
  byMapWrite : Bool
  due : Nat
deriving DecidableEq, Repr

/-- The map's copies, its status and its protection (R162 to R171). -/
structure MapUnit where
  store : StoredCopy
  copy : EmergencyMap
  status : MapStatus
  writing : Option MapWriting
  armed : Bool
  locked : Bool
  rangeHeld : Bool
  activeRange : ExclusionRange
  /-- the map-write enable line as last sampled (R164, R166) -/
  enableLine : Bool
deriving DecidableEq, Repr

/-! ## Disposition trace (R172 to R185) -/

/-- Record kinds; their codes are 1 to 14 in this order (R172, R184). -/
inductive TraceKind where
  | offer | answer | noAnswer | wait | abandon | overflow | divert | pickup | park | retrieve | recall
  | pageStart | pageSuspend | pageEnd
deriving DecidableEq, Repr

/-- One trace record, laid out by the encodings of R184 but for the absent fields (R172). -/
structure TraceRecord where
  kind : TraceKind
  call : Option Nat
  group : Option Nat
  target : Option Nat
  ext : Option Nat
  orbit : Option Nat
  page : Option Nat
  /-- a call's priority, or a page's class code of R184 -/
  level : Nat
  detail : Nat
  exponent : Nat
  mantissa : Nat
  valid : Bool
deriving DecidableEq, Repr

/-- The Trace Unit (R173, R174, R177, R179). -/
structure TraceUnit where
  depth : Nat
  /-- the non-empty entries, logical entry 0 first -/
  records : List TraceRecord
  sequence : Nat
  elapsed : Nat
  /-- the next-record flag: the next kept record's valid flag (R177) -/
  nextValid : Bool
  frozen : Bool
  filter : Word16
  ungrouped : Bool
  freezeOnAlarm : Bool
deriving DecidableEq, Repr

/-- The default filter of R174: ANSWER, WAIT, ABANDON, OVERFLOW, DIVERT, PICKUP, PARK, RETRIEVE and RECALL. -/
def TraceUnit.defaultFilter : Word16 := 0x0FF4#16

/-- The Trace Unit after every reset (R173). -/
def TraceUnit.atReset : TraceUnit :=
  { depth := 64, records := [], sequence := 0, elapsed := 0, nextValid := false, frozen := false,
    filter := TraceUnit.defaultFilter, ungrouped := false, freezeOnAlarm := true }

/-! ## Serial link and message set (R186 to R194) -/

inductive ResetCause where
  | powerOn | pin | link
deriving DecidableEq, Repr

/-- Refusal reasons; their codes are 1 to 18 in this order (R189). -/
inductive Reason where
  | unknownKind | badLength | outOfRange | notConfigured | tableFull | duplicate | noSuchCall | wrongState | tooLate
  | nothingToPick | notPermitted | empty | limit | commitPending | notArmed | protectedMap | held | allExcluded
deriving DecidableEq, Repr

/-- The outcome of a reply with its reason (R189). -/
inductive Verdict where
  | ok | pending | busy
  | refused (reason : Reason)
deriving DecidableEq, Repr

inductive Cadence where
  | hunt | recall | direct
deriving DecidableEq, Repr

/-- STOP-RING reasons; their codes are 0 to 6 in this order (R191). -/
inductive StopReason where
  | answeredElsewhere | noAnswer | pickedUp | callerGone | withdrawn | overflowed | retrieved
deriving DecidableEq, Repr

/-- PAGE-STATE values; their codes are 0 to 5 in this order (R191). -/
inductive PageReport where
  | queued | opening | live | closing | suspended | freed
deriving DecidableEq, Repr

/-- TRACE-FROZEN causes; their codes are 0 to 2 in this order (R191). -/
inductive FreezeCause where
  | emergencyPage | muster | host
deriving DecidableEq, Repr

/-- Dispositions of an arrival (R40). -/
inductive Disposition where
  | offered | waiting | diverted
deriving DecidableEq, Repr

/-- What became of a park's announcement (R91). -/
inductive Announcement where
  | placed | notAsked | noZoneSet | notPlaced
deriving DecidableEq, Repr

/-- The state value of a CALL-QUERY reply (R19). -/
inductive QueriedState where
  | waitingQueued | waitingRinging | ringingDirect | recallRinging | connected | parked
deriving DecidableEq, Repr

/-- The fields of a CALL-QUERY reply (R19). -/
structure CallReport where
  ref : Nat
  kind : CallKind
  state : QueriedState
  group : Option Nat
  priority : Nat
  waited : Nat
  passCount : Nat
  depth : Nat
  noAnswerLeft : Option Nat
  maxWaitLeft : Option Nat
  connected : Option Nat
  orbit : Option Nat
  ringing : List Nat
  tried : List Nat
deriving DecidableEq, Repr

/-- One membership of a ROSTER-QUERY reply (R34). -/
structure MemberReport where
  ext : Nat
  weight : Nat
  programmed : Presence
  effective : Presence
  staged : Option Presence
  pending : Bool
  idleSeconds : Nat
  credit : Int
deriving DecidableEq, Repr

/-- The fields of a ROSTER-QUERY reply (R34). -/
structure RosterReport where
  group : Nat
  configured : Bool
  commitInProgress : Bool
  rosterChanged : Bool
  forcing : Bool
  memberCount : Nat
  first : Nat
  members : List MemberReport
deriving DecidableEq, Repr

/-- The fields of a LEVEL-QUERY reply (R155). -/
structure LevelReport where
  zone : Nat
  installed : Bool
  noise : Int
  seeded : Bool
  stale : Bool
  sinceReading : Option Nat
  limited : Bool
  gain : Nat
  deliveryPending : Bool
  faulted : Bool
  fault : Option FaultCause
deriving DecidableEq, Repr

/-- The fields of a MAP-READ reply (R164). -/
structure MapReport where
  contents : EmergencyMap
  status : MapStatus
  locked : Bool
  rangeHeld : Bool
  activeRange : ExclusionRange
  enableLine : Bool
deriving DecidableEq, Repr

/-- One alarm input of a STATUS-QUERY reply (R192). -/
structure InputReport where
  active : Bool
  mode : Option AlarmMode
  page : Option Nat
deriving DecidableEq, Repr

/-- The fields of a STATUS-QUERY reply (R192). -/
structure StatusReport where
  cause : ResetCause
  mapStatus : MapStatus
  protection : Protection
  locked : Bool
  rangeHeld : Bool
  armed : Bool
  inputs : List InputReport
  override : Bool
  frozen : Bool
  calls : Nat
  generalPages : Nat
  alarmPages : Nat
  lost : Nat
deriving DecidableEq, Repr

/-- The fields that follow the outcome and reason of a reply. -/
inductive ReplyBody where
  | nothing
  | call (r : CallReport)
  | roster (r : RosterReport)
  | arrival (disposition : Disposition) (group : Option Nat)
  | picked (call : Nat) (kind : CallKind) (pickedFrom : Nat) (group orbit : Option Nat)
  | parked (orbit : Nat) (announcement : Announcement) (page : Option Nat)
  | retrieved (call orbit : Nat) (kind : CallKind) (group : Option Nat)
  | page (page : Nat) (state : PageState) (zones : Nat)
  | level (r : LevelReport)
  | map (r : MapReport)
  | traceDepth (depth : Nat) (frozen : Bool)
  | traceEntries (start count depth held : Nat) (frozen : Bool) (sequence : Nat) (entries : List (Option TraceRecord))
  | status (r : StatusReport)
deriving DecidableEq, Repr

/-- Directives (R191). -/
inductive Directive where
  | ring (ext call : Nat) (cadence : Cadence)
  | stopRing (ext call : Nat) (reason : StopReason)
  | connect (ext call : Nat)
  | waitHold (call : Nat)
  | divert (call : Nat) (code : Option Nat)
  | parkHold (call orbit : Nat)
  | pageAudio (page channel : Nat) (source : PageSource) (on : Bool)
  | pageState (page : Nat) (state : PageReport) (reason : Option EndReason)
deriving DecidableEq, Repr

/-- Notices (R191, R194). -/
inductive Notice where
  | startUp (cause : ResetCause) (status : MapStatus) (protection : Protection) (locked rangeHeld : Bool) (straps : BitVec 2)
  | rosterDone (group : Nat)
  | overrideAltered (group count : Nat)
  | overrideReleased
  | alarmChange (input : Nat) (active : Bool) (mode : AlarmMode)
  | zoneFault (zone : Nat) (cause : FaultCause)
  | zoneRestored (zone : Nat)
  | mapDone (ok : Bool)
  | traceFrozen (cause : FreezeCause)
  | outputLost (count : Nat)
deriving DecidableEq, Repr

/-- A frame of the output queue: a reply carries its whole kind code (R189). -/
inductive OutFrame where
  | reply (kind tag : Byte) (verdict : Verdict) (body : ReplyBody)
  | frameError (badLength : Bool)
  | directive (d : Directive)
  | notice (n : Notice)
deriving DecidableEq, Repr

/-- A request frame of the request queue (R186, R188). -/
structure Frame where
  kind : Byte
  tag : Byte
  payload : List Byte
deriving DecidableEq, Repr

/-- The receiver of the host link (R187, R194). -/
inductive Receiver where
  /-- idle until the START-UP notice has been queued -/
  | disabled
  /-- waiting for a start byte -/
  | hunting
  /-- within a frame: the bytes read after the start byte, and the instant of the last of them -/
  | inFrame (bytes : List Byte) (lastAt : Nat)
deriving DecidableEq, Repr

/-- The Link Controller (R186 to R193). -/
structure LinkUnit where
  output : List OutFrame
  lost : Nat
  requests : List Frame
  prepared : Bool
  /-- present once a RESET-NOW was answered OK: the departures still to come until its reply has left (R193) -/
  resetAfter : Option Nat
  receiver : Receiver
  /-- the baud straps sampled at the last start-up (R186) -/
  straps : BitVec 2
  /-- the reset cause recorded at the last start-up (R194) -/
  cause : ResetCause
  /-- the MODEL's own: the bytes of the frame that last left on HTX (log entry 4) -/
  sentBytes : List Byte
deriving DecidableEq, Repr

/-- The supply and the reset line (R193, R194). -/
structure Supply where
  powered : Bool
  /-- RST# is held low -/
  resetLow : Bool
  /-- power has been applied since the last start-up -/
  freshPower : Bool
deriving DecidableEq, Repr

/-- The whole machine. -/
structure State where
  /-- the commands that are waiting, first in, first out -/
  pending : List Instr
  supply : Supply
  /-- milliseconds since the end of the most recent reset; the time base is its whole tenths of a second (R1, R4) -/
  clock : Nat
  link : LinkUnit
  exts : Vector ExtRecord 1024
  calls : List CallContext
  groups : Vector GroupRecord 64
  /-- the fallback destination's code (R63) -/
  fallback : Option Nat
  /-- each zone's EMERGENCY coverage as last signalled (R68) -/
  covered : ZoneSet
  /-- the muster override is active (R35) -/
  override : Bool
  pickups : Vector PickupGroup 128
  orbits : Vector OrbitRecord 32
  pages : List PageRecord
  /-- the last page id assigned; 0 after a reset (R106) -/
  lastPageId : Nat
  /-- the next arrival sequence (R106) -/
  nextArrival : Nat
  zones : Vector PageZone 64
  zoneSets : Vector ZoneSet 32
  paging : PagingParams
  amps : Vector AmpState 64
  exchange : Option Exchange
  /-- the rotation position of the zone link (R137) -/
  rotation : Nat
  levels : Vector LevelState 64
  inputs : Vector AlarmInput 4
  map : MapUnit
  trace : TraceUnit
deriving DecidableEq, Repr

/-- Faults: the manual gives every command an effect in every state, so no command raises one (safe). -/
inductive Fault where
deriving DecidableEq, Repr

/-- Refusals. -/
inductive Refusal where
  /-- raised by an arm of exec whose command has no meaning yet, and by nothing else (safe) -/
  | notModelled (mnemonic : String)
deriving DecidableEq, Repr

/-- The part right after a power-on start-up (R194) with every contact open, straps 0, RST# high and a store that
fails its check, so that the default map is active (log entry 3); the START-UP notice stands first in the output
queue, and polling has begun with zone 0 (R137, R139). -/
def State.reset : State :=
  { pending := []
    supply := { powered := true, resetLow := false, freshPower := false }
    clock := 0
    link :=
      { output := [.notice (.startUp .powerOn .default .anyone false false 0)], lost := 0, requests := [],
        prepared := false, resetAfter := none, receiver := .hunting, straps := 0, cause := .powerOn, sentBytes := [] }
    exts := Vector.replicate 1024 ExtRecord.atReset
    calls := []
    groups := Vector.replicate 64 GroupRecord.atReset
    fallback := none
    covered := 0
    override := false
    pickups := Vector.replicate 128 PickupGroup.atReset
    orbits := Vector.replicate 32 OrbitRecord.atReset
    pages := []
    lastPageId := 0
    nextArrival := 0
    zones := Vector.replicate 64 PageZone.atReset
    zoneSets := Vector.replicate 32 0
    paging := PagingParams.atReset
    amps := Vector.replicate 64 (AmpState.atReset true)
    exchange := some
      { zone := 0, sent := .idle, frame := [1#8, 7#8, 255#8, 0#8, 0#8, 249#8], superseded := false
        deadline := Config.replyTimeoutMs }
    rotation := 63
    levels := Vector.replicate 64 LevelState.atReset
    inputs := Vector.replicate 4 (AlarmInput.sampled false 0)
    map :=
      { store := .damaged, copy := EmergencyMap.default, status := .default, writing := none, armed := false,
        locked := false, rangeHeld := false, activeRange := EmergencyMap.default.range, enableLine := false }
    trace := TraceUnit.atReset }

end Sys2Proof.Machine
end

