-- ==== Sys2Proof/Machine/Ops.lean ====
section
/-! DEFINITION. Operations over the tables, the time base and the output queue, shared by every block. -/

namespace Sys2Proof.Machine

/-! ## Tables of a fixed size -/

/-- Entry `i` of a table, or `d` past its end. -/
def tabGet {α : Type} {n : Nat} (v : Vector α n) (i : Nat) (d : α) : α := if h : i < n then v[i] else d

/-- The table with entry `i` changed by `f`; nothing past its end. -/
def tabModify {α : Type} {n : Nat} (v : Vector α n) (i : Nat) (f : α → α) : Vector α n :=
  if h : i < n then v.set i (f v[i]) h else v

/-- Every entry changed by `f`. -/
def tabMap {α β : Type} {n : Nat} (f : α → β) (v : Vector α n) : Vector β n :=
  ⟨⟨v.toArray.toList.map f⟩, by simp⟩

/-- The table whose entry `i` is `f i`. -/
def tabBuild {α : Type} (n : Nat) (f : Nat → α) : Vector α n := ⟨⟨(List.range n).map f⟩, by simp⟩

/-- Keep a number within a range (R3). -/
def clamp (low high x : Nat) : Nat := min (max x low) high

/-- Keep an integer within a range. -/
def clampInt (low high x : Int) : Int := min (max x low) high

/-- The first element that no later element is better than. -/
def firstBest {α : Type} (better : α → α → Bool) : List α → Option α
  | [] => none
  | a :: rest => some (rest.foldl (fun best b => if better b best then b else best) a)

/-- A number put in its place of an ascending list without repeats. -/
def insertAscending (x : Nat) : List Nat → List Nat
  | [] => [x]
  | y :: ys => if x < y then x :: y :: ys else if x = y then y :: ys else y :: insertAscending x ys

/-- An element put before the first one it precedes. -/
def insertBefore {α : Type} (precedes : α → α → Bool) (x : α) : List α → List α
  | [] => [x]
  | y :: ys => if precedes x y then x :: y :: ys else y :: insertBefore precedes x ys

/-- The list in the order of `precedes`, equals in their present order. -/
def sortBy {α : Type} (precedes : α → α → Bool) (l : List α) : List α :=
  l.reverse.foldl (fun acc x => insertBefore (fun a b => !precedes b a) x acc) []

/-! ## Zone sets -/

/-- The zone stands in the set. -/
def zoneIn (s : ZoneSet) (z : Nat) : Bool := s.getLsbD z

/-- The set of one zone; no zone past 63. -/
def zoneOne (z : Nat) : ZoneSet := 1#64 <<< z

/-- The set without the zone. -/
def zoneRemove (s : ZoneSet) (z : Nat) : ZoneSet := s &&& ~~~(zoneOne z)

/-- The zones of the set in ascending order. -/
def zonesOf (s : ZoneSet) : List Nat := (List.range 64).filter (zoneIn s)

/-- The set of the zones that satisfy the condition. -/
def zonesWhere (p : Nat → Bool) : ZoneSet :=
  (List.range 64).foldl (fun acc z => if p z then acc ||| zoneOne z else acc) 0

/-- The zone is one the range excludes (R170). -/
def ExclusionRange.excludes (r : ExclusionRange) (z : Nat) : Bool :=
  r.enabled && (if r.invert then z < r.lower || r.upper < z else r.lower ≤ z && z ≤ r.upper)

/-! ## Access to the tables of State -/

/-- The part is powered and not held in reset (R193, R194). -/
def State.running (s : State) : Bool := s.supply.powered && !s.supply.resetLow

def State.ext (s : State) (x : Nat) : ExtRecord := tabGet s.exts x ExtRecord.atReset
def State.modExt (s : State) (x : Nat) (f : ExtRecord → ExtRecord) : State := { s with exts := tabModify s.exts x f }

def State.group (s : State) (g : Nat) : GroupRecord := tabGet s.groups g GroupRecord.atReset
def State.modGroup (s : State) (g : Nat) (f : GroupRecord → GroupRecord) : State :=
  { s with groups := tabModify s.groups g f }

def State.pickup (s : State) (p : Nat) : PickupGroup := tabGet s.pickups p PickupGroup.atReset

def State.orbit (s : State) (o : Nat) : OrbitRecord := tabGet s.orbits o OrbitRecord.atReset
def State.modOrbit (s : State) (o : Nat) (f : OrbitRecord → OrbitRecord) : State :=
  { s with orbits := tabModify s.orbits o f }

/-- The call context a reference names (R13). -/
def State.call? (s : State) (c : Nat) : Option CallContext := s.calls.find? (fun k => k.ref == c)
def State.modCall (s : State) (c : Nat) (f : CallContext → CallContext) : State :=
  { s with calls := s.calls.map (fun k => if k.ref == c then f k else k) }
/-- A context is taken (R11). -/
def State.addCall (s : State) (k : CallContext) : State := { s with calls := s.calls ++ [k] }
/-- A context is freed, and its timers with it (R13). -/
def State.freeCall (s : State) (c : Nat) : State := { s with calls := s.calls.filter (fun k => k.ref != c) }

/-- The page record that holds an id (R106). -/
def State.page? (s : State) (p : Nat) : Option PageRecord := s.pages.find? (fun r => r.id == p)
def State.modPage (s : State) (p : Nat) (f : PageRecord → PageRecord) : State :=
  { s with pages := s.pages.map (fun r => if r.id == p then f r else r) }
def State.dropPage (s : State) (p : Nat) : State := { s with pages := s.pages.filter (fun r => r.id != p) }

def State.zone (s : State) (z : Nat) : PageZone := tabGet s.zones z PageZone.atReset
def State.modZone (s : State) (z : Nat) (f : PageZone → PageZone) : State := { s with zones := tabModify s.zones z f }

/-- The contents of a zone set (R108). -/
def State.zoneSet (s : State) (n : Nat) : ZoneSet := tabGet s.zoneSets n 0

def State.amp (s : State) (z : Nat) : AmpState := tabGet s.amps z (AmpState.atReset false)
def State.modAmp (s : State) (z : Nat) (f : AmpState → AmpState) : State := { s with amps := tabModify s.amps z f }

def State.level (s : State) (z : Nat) : LevelState := tabGet s.levels z LevelState.atReset
def State.modLevel (s : State) (z : Nat) (f : LevelState → LevelState) : State :=
  { s with levels := tabModify s.levels z f }

def State.input (s : State) (i : Nat) : AlarmInput := tabGet s.inputs i (AlarmInput.sampled false 0)
def State.modInput (s : State) (i : Nat) (f : AlarmInput → AlarmInput) : State :=
  { s with inputs := tabModify s.inputs i f }

/-- The zone is installed by the active map (R135). -/
def State.installed (s : State) (z : Nat) : Bool := zoneIn s.map.copy.installed z

/-! ## Time (R1, R4) -/

/-- The present point on the time base, which stops at its end (R4). -/
def State.now (s : State) : Nat := min (s.clock / 100) Config.timeBaseEnd

/-- The instant at which a duration of 100 ms units from now has elapsed (R1). -/
def State.after (s : State) (units : Nat) : Nat := s.clock + 100 * units

/-- The whole 100 ms units that a stretch of time from `clock` on crosses. -/
def unitsCrossed (clock ms : Nat) : Nat := (clock + ms) / 100 - clock / 100

/-- A membership's idle clock after `k` units of its extension being IDLE or not (R28). -/
def Membership.runClock (k : Nat) (lineIdle : Bool) (m : Membership) : Membership :=
  if m.effective = .available && lineIdle then { m with idleTenths := min (m.idleTenths + k) Config.idleTenthsEnd }
  else m

/-- The idle clock in whole seconds, the fraction dropped (R28). -/
def Membership.idleSeconds (m : Membership) : Nat := m.idleTenths / 10

/-- `ms` milliseconds pass: the time base moves, idle clocks count (R28) and the trace's elapsed counter rises while
the trace is not frozen (R177). Timers only come nearer to their instants. -/
def elapse (ms : Nat) (s : State) : State :=
  let k := unitsCrossed s.clock ms
  if k = 0 then { s with clock := s.clock + ms }
  else
    { s with
      clock := s.clock + ms
      groups := tabMap (fun g =>
        { g with members := g.members.map (fun m => m.runClock k ((s.ext m.ext).line = .idle)) }) s.groups
      trace := if s.trace.frozen then s.trace
        else { s.trace with elapsed := min (s.trace.elapsed + k) Config.elapsedEnd } }

/-- Time passes until an instant, when it has not come yet (log entry 5). -/
def elapseTo (instant : Nat) (s : State) : State := elapse (instant - s.clock) s

/-- An expiry: nothing when the timer is stopped (R1); otherwise its instant comes and `k` is taken (log entry 5). -/
def atExpiry (due : Option Nat) (k : State → State) (s : State) : State :=
  match due with
  | none => s
  | some t => k (elapseTo t s)

/-- A remaining time in 100 ms units (R19); a part of a unit is rounded by the free value (log entry 1). -/
def State.unitsLeft (s : State) (due : Option Nat) : Option Nat :=
  due.map (fun t =>
    let ms := t - s.clock
    if ms % 100 = 0 then ms / 100 else if Config.roundsUp ms then ms / 100 + 1 else ms / 100)

/-! ## The output queue (R190) -/

/-- Directives and notices are unsolicited; replies and FRAME-ERROR are not (R190). -/
def OutFrame.unsolicited : OutFrame → Bool
  | .reply _ _ _ _ => false
  | .frameError _ => false
  | .directive _ => true
  | .notice _ => true

/-- How many unsolicited frames stand in the queue. -/
def unsolicitedCount (q : List OutFrame) : Nat := (q.filter OutFrame.unsolicited).length

/-- The frame may join the queue (R190). -/
def mayJoin (q : List OutFrame) (f : OutFrame) : Bool :=
  q.length < Config.outputPlaces && (!f.unsolicited || unsolicitedCount q < Config.unsolicitedPlaces)

/-- A frame joins the queue, or is dropped and counted up to 255 (R190). -/
def LinkUnit.put (l : LinkUnit) (f : OutFrame) : LinkUnit :=
  if mayJoin l.output f then { l with output := l.output ++ [f] } else { l with lost := min (l.lost + 1) 255 }

/-- A block produces a frame. -/
def emit (f : OutFrame) (s : State) : State := { s with link := s.link.put f }

/-- A directive is queued. -/
def direct (d : Directive) (s : State) : State := emit (.directive d) s

/-- A notice is queued. -/
def notify (n : Notice) (s : State) : State := emit (.notice n) s

/-- A command that only a running part takes (R193: a part held in reset, or without power, does nothing). -/
def whenRunning (k : State → State) (s : State) : State := if s.running then k s else s

end Sys2Proof.Machine
end

