-- ==== Sys2Proof/Machine/Flags.lean ====
section
/-! DEFINITION. The two latches that the request just handled leaves behind: the arm latch (R165) and the link-reset
preparation flag (R193). -/

namespace Sys2Proof.Machine

/-- The arm latch after a request was handled: set by a MAP-ARM (1Ah) answered OK, cleared by every other (R165). -/
def armedAfter (kind : Byte) (v : Verdict) : Bool := kind = 0x1A && v = .ok

/-- The preparation flag after a request was handled: set by a RESET-PREPARE (23h) answered OK, cleared by every other
(R188, R193). -/
def preparedAfter (kind : Byte) (v : Verdict) : Bool := kind = 0x23 && v = .ok

end Sys2Proof.Machine
end

