-- ==== Sys2Proof/Machine/Operands.lean ====
section
/-! DEFINITION. The payloads of the requests: what each carries, read from its bytes and written to them by the field
encodings of R186. A reading answers none when the length is not the one the fields, or a list's count, require (R188). -/

namespace Sys2Proof.Machine

/-! ## Fields -/

/-- A one-byte number. -/
def num1 (b : Byte) : Nat := b.toNat
/-- A two-byte number, high byte first. -/
def num2 (high low : Byte) : Nat := high.toNat * 256 + low.toNat
/-- A one-byte field that may be absent (R2). -/
def opt1 (b : Byte) : Option Nat := if b = 0xFF then none else some b.toNat
/-- A two-byte field that may be absent (R2). -/
def opt2 (high low : Byte) : Option Nat := if high = 0xFF ∧ low = 0xFF then none else some (num2 high low)
/-- A two-byte signed field. -/
def signed2 (high low : Byte) : Int := (high ++ low).toInt
/-- An 8-byte zone set, read high byte first. -/
def zones8 (b7 b6 b5 b4 b3 b2 b1 b0 : Byte) : ZoneSet := b7 ++ b6 ++ b5 ++ b4 ++ b3 ++ b2 ++ b1 ++ b0

/-- The byte of a number. -/
def put1 (n : Nat) : List Byte := [BitVec.ofNat 8 n]
/-- The two bytes of a number. -/
def put2 (n : Nat) : List Byte := [BitVec.ofNat 8 (n / 256), BitVec.ofNat 8 n]
def putOpt1 (n : Option Nat) : List Byte := n.elim [0xFF] put1
def putOpt2 (n : Option Nat) : List Byte := n.elim [0xFF, 0xFF] put2
def putSigned2 (i : Int) : List Byte := [(BitVec.ofInt 16 i).extractLsb' 8 8, (BitVec.ofInt 16 i).extractLsb' 0 8]
/-- Yes is 1 and no is 0. -/
def putFlag (b : Bool) : List Byte := [if b then 1 else 0]
def putZones (z : ZoneSet) : List Byte := (List.range 8).map fun i => z.extractLsb' (8 * (7 - i)) 8

/-- A field with several forms: the form code and a two-byte value (R186). -/
structure Form where
  code : Nat
  value : Nat
deriving DecidableEq, Repr

def readForm (f high low : Byte) : Form := { code := num1 f, value := num2 high low }
def putForm (f : Form) : List Byte := put1 f.code ++ put2 f.value
/-- The absent form (R186). -/
def Form.absent : Form := { code := 255, value := 65535 }

/-! ## Requests with fields of fixed length -/

structure LineReportOp where
  ext : Nat
  state : Nat
deriving DecidableEq, Repr

def LineReportOp.read : List Byte → Option LineReportOp
  | [e1, e0, st] => some { ext := num2 e1 e0, state := num1 st }
  | _ => none
def LineReportOp.bytes (o : LineReportOp) : List Byte := put2 o.ext ++ put1 o.state

structure DirectRingOp where
  call : Nat
  ext : Nat
  priority : Option Nat
deriving DecidableEq, Repr

def DirectRingOp.read : List Byte → Option DirectRingOp
  | [c1, c0, e1, e0, p] => some { call := num2 c1 c0, ext := num2 e1 e0, priority := opt1 p }
  | _ => none
def DirectRingOp.bytes (o : DirectRingOp) : List Byte := put2 o.call ++ put2 o.ext ++ putOpt1 o.priority

structure CallAnswerOp where
  call : Nat
  ext : Nat
deriving DecidableEq, Repr

def CallAnswerOp.read : List Byte → Option CallAnswerOp
  | [c1, c0, e1, e0] => some { call := num2 c1 c0, ext := num2 e1 e0 }
  | _ => none
def CallAnswerOp.bytes (o : CallAnswerOp) : List Byte := put2 o.call ++ put2 o.ext

/-- A request of one two-byte number: CALL-GONE, CALL-QUERY, PAGE-STOP. -/
def readNumber2 : List Byte → Option Nat
  | [a, b] => some (num2 a b)
  | _ => none

/-- A request of one one-byte number: ROSTER-COMMIT, LEVEL-QUERY, MAP-PROTECT. -/
def readNumber1 : List Byte → Option Nat
  | [a] => some (num1 a)
  | _ => none

/-- A request without fields. -/
def readNothing : List Byte → Option Unit
  | [] => some ()
  | _ => none

structure GroupSetOp where
  group : Nat
  configured : Nat
  discipline : Nat
  noAnswerTime : Nat
  passLimit : Nat
  waitingDepth : Nat
  maximumWait : Nat
  overflow : Form
  traceEnable : Nat
  traceAccept : Nat
  traceThrough : Nat
  pickable : Nat
  safety : Nat
  emergencyHold : Nat
  homeSet : Option Nat
  autoSet : Option Nat
  autoThreshold : Nat
deriving DecidableEq, Repr

def GroupSetOp.read : List Byte → Option GroupSetOp
  | [g, cf, d, n1, n0, pl, wd, m1, m0, f, v1, v0, te, ta, tt, pk, sf, eh, hs, as, t1, t0] =>
    some
      { group := num1 g, configured := num1 cf, discipline := num1 d, noAnswerTime := num2 n1 n0, passLimit := num1 pl
        waitingDepth := num1 wd, maximumWait := num2 m1 m0, overflow := readForm f v1 v0, traceEnable := num1 te
        traceAccept := num1 ta, traceThrough := num1 tt, pickable := num1 pk, safety := num1 sf
        emergencyHold := num1 eh, homeSet := opt1 hs, autoSet := opt1 as, autoThreshold := num2 t1 t0 }
  | _ => none
def GroupSetOp.bytes (o : GroupSetOp) : List Byte :=
  put1 o.group ++ put1 o.configured ++ put1 o.discipline ++ put2 o.noAnswerTime ++ put1 o.passLimit
    ++ put1 o.waitingDepth ++ put2 o.maximumWait ++ putForm o.overflow ++ put1 o.traceEnable ++ put1 o.traceAccept
    ++ put1 o.traceThrough ++ put1 o.pickable ++ put1 o.safety ++ put1 o.emergencyHold ++ putOpt1 o.homeSet
    ++ putOpt1 o.autoSet ++ put2 o.autoThreshold

structure RosterQueryOp where
  group : Nat
  first : Nat
deriving DecidableEq, Repr

def RosterQueryOp.read : List Byte → Option RosterQueryOp
  | [g, f] => some { group := num1 g, first := num1 f }
  | _ => none
def RosterQueryOp.bytes (o : RosterQueryOp) : List Byte := put1 o.group ++ put1 o.first

structure CallArriveOp where
  call : Nat
  group : Nat
  priority : Nat
  callerClass : Nat
deriving DecidableEq, Repr

def CallArriveOp.read : List Byte → Option CallArriveOp
  | [c1, c0, g, p, k] => some { call := num2 c1 c0, group := num1 g, priority := num1 p, callerClass := num1 k }
  | _ => none
def CallArriveOp.bytes (o : CallArriveOp) : List Byte :=
  put2 o.call ++ put1 o.group ++ put1 o.priority ++ put1 o.callerClass

/-- FALLBACK-SET's code (R63). -/
def readFallback : List Byte → Option (Option Nat)
  | [a, b] => some (opt2 a b)
  | _ => none

structure PickupAskOp where
  picker : Nat
  mode : Nat
  target : Option Nat
  expected : Option Nat
deriving DecidableEq, Repr

def PickupAskOp.read : List Byte → Option PickupAskOp
  | [p1, p0, m, t1, t0, e1, e0] =>
    some { picker := num2 p1 p0, mode := num1 m, target := opt2 t1 t0, expected := opt2 e1 e0 }
  | _ => none
def PickupAskOp.bytes (o : PickupAskOp) : List Byte :=
  put2 o.picker ++ put1 o.mode ++ putOpt2 o.target ++ putOpt2 o.expected

structure ExtSetOp where
  ext : Nat
  pickupGroup : Option Nat
deriving DecidableEq, Repr

def ExtSetOp.read : List Byte → Option ExtSetOp
  | [e1, e0, p] => some { ext := num2 e1 e0, pickupGroup := opt1 p }
  | _ => none
def ExtSetOp.bytes (o : ExtSetOp) : List Byte := put2 o.ext ++ putOpt1 o.pickupGroup

structure ParkAskOp where
  call : Nat
  parker : Nat
  orbit : Option Nat
  announce : Nat
deriving DecidableEq, Repr

def ParkAskOp.read : List Byte → Option ParkAskOp
  | [c1, c0, p1, p0, o, a] => some { call := num2 c1 c0, parker := num2 p1 p0, orbit := opt1 o, announce := num1 a }
  | _ => none
def ParkAskOp.bytes (o : ParkAskOp) : List Byte :=
  put2 o.call ++ put2 o.parker ++ putOpt1 o.orbit ++ put1 o.announce

structure OrbitSetOp where
  orbit : Nat
  parkTime : Nat
  recallRingTime : Nat
  recallMode : Nat
  recallGroup : Option Nat
  announceSet : Option Nat
deriving DecidableEq, Repr

def OrbitSetOp.read : List Byte → Option OrbitSetOp
  | [o, p1, p0, r1, r0, m, g, a] =>
    some
      { orbit := num1 o, parkTime := num2 p1 p0, recallRingTime := num2 r1 r0, recallMode := num1 m
        recallGroup := opt1 g, announceSet := opt1 a }
  | _ => none
def OrbitSetOp.bytes (o : OrbitSetOp) : List Byte :=
  put1 o.orbit ++ put2 o.parkTime ++ put2 o.recallRingTime ++ put1 o.recallMode ++ putOpt1 o.recallGroup
    ++ putOpt1 o.announceSet

structure RetrieveAskOp where
  orbit : Nat
  ext : Nat
  expected : Option Nat
deriving DecidableEq, Repr

def RetrieveAskOp.read : List Byte → Option RetrieveAskOp
  | [o, e1, e0, c1, c0] => some { orbit := num1 o, ext := num2 e1 e0, expected := opt2 c1 c0 }
  | _ => none
def RetrieveAskOp.bytes (o : RetrieveAskOp) : List Byte := put1 o.orbit ++ put2 o.ext ++ putOpt2 o.expected

structure PageAskOp where
  source : Form
  cls : Nat
  target : Form
  mode : Nat
  suspendAllowed : Nat
  maxDuration : Nat
deriving DecidableEq, Repr

def PageAskOp.read : List Byte → Option PageAskOp
  | [s, s1, s0, c, t, t1, t0, m, a, d1, d0] =>
    some
      { source := readForm s s1 s0, cls := num1 c, target := readForm t t1 t0, mode := num1 m
        suspendAllowed := num1 a, maxDuration := num2 d1 d0 }
  | _ => none
def PageAskOp.bytes (o : PageAskOp) : List Byte :=
  putForm o.source ++ put1 o.cls ++ putForm o.target ++ put1 o.mode ++ put1 o.suspendAllowed ++ put2 o.maxDuration

structure ZoneSetSetOp where
  number : Nat
  zones : ZoneSet
deriving DecidableEq, Repr

def ZoneSetSetOp.read : List Byte → Option ZoneSetSetOp
  | [n, a, b, c, d, e, f, g, h] => some { number := num1 n, zones := zones8 a b c d e f g h }
  | _ => none
def ZoneSetSetOp.bytes (o : ZoneSetSetOp) : List Byte := put1 o.number ++ putZones o.zones

structure PagingSetOp where
  chime : PerClass Nat
  hangTime : Nat
  suspensionLimit : Nat
  /-- in 0.5 dB steps -/
  margin : PerClass Int
deriving DecidableEq, Repr

def PagingSetOp.read : List Byte → Option PagingSetOp
  | [c0, c1, c2, c3, h, s1, s0, a1, a0, b1, b0, n1, n0, k1, k0] =>
    some
      { chime := { emergency := num1 c0, urgent := num1 c1, normal := num1 c2, background := num1 c3 }
        hangTime := num1 h, suspensionLimit := num2 s1 s0
        margin :=
          { emergency := signed2 a1 a0, urgent := signed2 b1 b0, normal := signed2 n1 n0, background := signed2 k1 k0 } }
  | _ => none
def PagingSetOp.bytes (o : PagingSetOp) : List Byte :=
  put1 o.chime.emergency ++ put1 o.chime.urgent ++ put1 o.chime.normal ++ put1 o.chime.background ++ put1 o.hangTime
    ++ put2 o.suspensionLimit ++ putSigned2 o.margin.emergency ++ putSigned2 o.margin.urgent
    ++ putSigned2 o.margin.normal ++ putSigned2 o.margin.background

structure ZoneSetOp where
  zone : Nat
  initialNoise : Nat
  floor : Nat
  ceiling : Nat
  minCode : Nat
  maxCode : Nat
  riseFactor : Nat
  fallFactor : Nat
  staleTime : Nat
  reseed : Nat
deriving DecidableEq, Repr

def ZoneSetOp.read : List Byte → Option ZoneSetOp
  | [z, i1, i0, f, c, n, m, kr, kf, s1, s0, r] =>
    some
      { zone := num1 z, initialNoise := num2 i1 i0, floor := num1 f, ceiling := num1 c, minCode := num1 n
        maxCode := num1 m, riseFactor := num1 kr, fallFactor := num1 kf, staleTime := num2 s1 s0, reseed := num1 r }
  | _ => none
def ZoneSetOp.bytes (o : ZoneSetOp) : List Byte :=
  put1 o.zone ++ put2 o.initialNoise ++ put1 o.floor ++ put1 o.ceiling ++ put1 o.minCode ++ put1 o.maxCode
    ++ put1 o.riseFactor ++ put1 o.fallFactor ++ put2 o.staleTime ++ put1 o.reseed

structure ExcludeSetOp where
  enabled : Nat
  lower : Nat
  upper : Nat
  invert : Nat
deriving DecidableEq, Repr

def ExcludeSetOp.read : List Byte → Option ExcludeSetOp
  | [e, l, u, i] => some { enabled := num1 e, lower := num1 l, upper := num1 u, invert := num1 i }
  | _ => none
def ExcludeSetOp.bytes (o : ExcludeSetOp) : List Byte :=
  put1 o.enabled ++ put1 o.lower ++ put1 o.upper ++ put1 o.invert

structure TraceSetOp where
  depth : Nat
  filter : Word16
  ungrouped : Nat
  freezeOnAlarm : Nat
  control : Option Nat
deriving DecidableEq, Repr

def TraceSetOp.read : List Byte → Option TraceSetOp
  | [d1, d0, f1, f0, u, a, c] =>
    some { depth := num2 d1 d0, filter := f1 ++ f0, ungrouped := num1 u, freezeOnAlarm := num1 a, control := opt1 c }
  | _ => none
def TraceSetOp.bytes (o : TraceSetOp) : List Byte :=
  put2 o.depth ++ [o.filter.extractLsb' 8 8, o.filter.extractLsb' 0 8] ++ put1 o.ungrouped ++ put1 o.freezeOnAlarm
    ++ putOpt1 o.control

structure TraceReadOp where
  start : Nat
  count : Nat
deriving DecidableEq, Repr

def TraceReadOp.read : List Byte → Option TraceReadOp
  | [s, c] => some { start := num1 s, count := num1 c }
  | _ => none
def TraceReadOp.bytes (o : TraceReadOp) : List Byte := put1 o.start ++ put1 o.count

/-! ## Requests that carry a list -/

structure MemberEntry where
  ext : Nat
  weight : Nat
  /-- 255 is absent -/
  presence : Nat
deriving DecidableEq, Repr

def readMemberEntries : List Byte → Option (List MemberEntry)
  | [] => some []
  | e1 :: e0 :: w :: p :: rest =>
    (readMemberEntries rest).map fun l => { ext := num2 e1 e0, weight := num1 w, presence := num1 p } :: l
  | _ => none

structure MembersSetOp where
  group : Nat
  entries : List MemberEntry
deriving DecidableEq, Repr

def MembersSetOp.read : List Byte → Option MembersSetOp
  | g :: n :: rest =>
    if rest.length = 4 * num1 n then (readMemberEntries rest).map fun l => { group := num1 g, entries := l } else none
  | _ => none
def MemberEntry.bytes (e : MemberEntry) : List Byte := put2 e.ext ++ put1 e.weight ++ put1 e.presence
def MembersSetOp.bytes (o : MembersSetOp) : List Byte :=
  put1 o.group ++ put1 o.entries.length ++ o.entries.flatMap MemberEntry.bytes

structure StageEntry where
  ext : Nat
  /-- 255 is absent -/
  presence : Nat
deriving DecidableEq, Repr

def readStageEntries : List Byte → Option (List StageEntry)
  | [] => some []
  | e1 :: e0 :: p :: rest => (readStageEntries rest).map fun l => { ext := num2 e1 e0, presence := num1 p } :: l
  | _ => none

structure PresenceStageOp where
  group : Nat
  entries : List StageEntry
deriving DecidableEq, Repr

def PresenceStageOp.read : List Byte → Option PresenceStageOp
  | g :: n :: rest =>
    if rest.length = 3 * num1 n then (readStageEntries rest).map fun l => { group := num1 g, entries := l } else none
  | _ => none
def StageEntry.bytes (e : StageEntry) : List Byte := put2 e.ext ++ put1 e.presence
def PresenceStageOp.bytes (o : PresenceStageOp) : List Byte :=
  put1 o.group ++ put1 o.entries.length ++ o.entries.flatMap StageEntry.bytes

structure PickgroupSetOp where
  group : Nat
  configured : Nat
  directedOpen : Nat
  assist : List Nat
deriving DecidableEq, Repr

def PickgroupSetOp.read : List Byte → Option PickgroupSetOp
  | g :: c :: d :: n :: rest =>
    if rest.length = num1 n then
      some { group := num1 g, configured := num1 c, directedOpen := num1 d, assist := rest.map num1 }
    else none
  | _ => none
def PickgroupSetOp.bytes (o : PickgroupSetOp) : List Byte :=
  put1 o.group ++ put1 o.configured ++ put1 o.directedOpen ++ put1 o.assist.length ++ o.assist.flatMap put1

/-! ## MAP-WRITE -/

structure MapInputOp where
  mode : Nat
  zones : ZoneSet
deriving DecidableEq, Repr

structure MapWriteOp where
  installed : ZoneSet
  /-- counts of 0.5 dB steps above 70.0 dB -/
  sensitivity : List Nat
  inputs : List MapInputOp
  /-- a count of 0.5 dB steps above 80.0 dB -/
  ceiling : Nat
  enabled : Nat
  lower : Nat
  upper : Nat
  invert : Nat
  protection : Nat
deriving DecidableEq, Repr

/-- The length of a MAP-WRITE payload. -/
def mapLength : Nat := 114

/-- A zone set at the front of a list of bytes. -/
def readZones : List Byte → ZoneSet
  | a :: b :: c :: d :: e :: f :: g :: h :: _ => zones8 a b c d e f g h
  | _ => 0

def readMapInputs : Nat → List Byte → List MapInputOp
  | 0, _ => []
  | n + 1, m :: rest => { mode := num1 m, zones := readZones rest } :: readMapInputs n (rest.drop 8)
  | _ + 1, [] => []

def MapWriteOp.read (p : List Byte) : Option MapWriteOp :=
  if p.length = mapLength then
    match p.drop 108 with
    | [c, e, l, u, i, m] =>
      some
        { installed := readZones p, sensitivity := ((p.drop 8).take 64).map num1
          inputs := readMapInputs 4 (p.drop 72), ceiling := num1 c, enabled := num1 e, lower := num1 l
          upper := num1 u, invert := num1 i, protection := num1 m }
    | _ => none
  else none
def MapWriteOp.bytes (o : MapWriteOp) : List Byte :=
  putZones o.installed ++ o.sensitivity.flatMap put1 ++ o.inputs.flatMap (fun i => put1 i.mode ++ putZones i.zones)
    ++ put1 o.ceiling ++ put1 o.enabled ++ put1 o.lower ++ put1 o.upper ++ put1 o.invert ++ put1 o.protection

/-! ## Named values, numbered from 0 in the order their tables list them (R186) -/

def readLine : Nat → Option LineState
  | 0 => some .idle
  | 1 => some .offhook
  | 2 => some .inCall
  | 3 => some .out
  | _ => none

def readFlag : Nat → Option Bool
  | 0 => some false
  | 1 => some true
  | _ => none

def readDiscipline : Nat → Option Discipline
  | 0 => some .linear
  | 1 => some .circular
  | 2 => some .longestIdle
  | 3 => some .weighted
  | 4 => some .ringAll
  | _ => none

def readPresence : Nat → Option Presence
  | 0 => some .available
  | 1 => some .standby
  | 2 => some .paused
  | 3 => some .signedOff
  | _ => none

def readClass : Nat → Option PageClass
  | 0 => some .emergency
  | 1 => some .urgent
  | 2 => some .normal
  | 3 => some .background
  | _ => none

def readMode : Nat → Option PageMode
  | 0 => some .allOrWait
  | 1 => some .partially
  | _ => none

def readRecallMode : Nat → Option RecallMode
  | 0 => some .parkerThenGroup
  | 1 => some .groupOnly
  | _ => none

def readAlarmMode : Nat → Option AlarmMode
  | 0 => some .unused
  | 1 => some .evacuate
  | 2 => some .muster
  | 3 => some .alert
  | _ => none

def readProtection : Nat → Option Protection
  | 0 => some .anyone
  | 1 => some .line
  | 2 => some .permanent
  | _ => none

/-- An overflow target: absent, GROUP(n) or EXTERNAL(code), the present forms numbered from 0 (R186, log entry 7);
none for a form or value outside those of R21. The absent form is FFh followed by FFFFh, all ones in every byte (R2,
R186). MODEL'S CHOICE: FFh with another value, which no rule speaks of, is no form and so OUT-OF-RANGE (log entry 30). -/
def readOverflow (f : Form) : Option (Option OverflowTarget) :=
  if f.code = 255 then (if f.value = 65535 then some none else none)
  else if f.code = 0 then (if f.value < 64 then some (some (.group f.value)) else none)
  else if f.code = 1 then
    (if 1 ≤ f.value ∧ f.value ≤ 65534 then some (some (.external f.value)) else none)
  else none

/-- A page source that the host may ask for (R110). -/
def readSource (f : Form) : Option PageSource :=
  if f.code = 0 then (if f.value ≤ 1023 then some (.ext f.value) else none)
  else if f.code = 1 then (if f.value ≤ 65534 then some (.prompt f.value) else none)
  else none

/-- A call reference lies outside 1 to 65,534 (R13). -/
def badRef (c : Nat) : Bool := c = 0 || 65534 < c

end Sys2Proof.Machine
end

