-- ==== Sys2Proof/Machine/Trace.lean ====
section
/-! DEFINITION. The Trace Unit: qualification, the ring, elapsed times and freezing (R172 to R183). -/

namespace Sys2Proof.Machine

/-- Kind codes (R184). -/
def TraceKind.code : TraceKind → Nat
  | .offer => 1 | .answer => 2 | .noAnswer => 3 | .wait => 4 | .abandon => 5 | .overflow => 6 | .divert => 7
  | .pickup => 8 | .park => 9 | .retrieve => 10 | .recall => 11 | .pageStart => 12 | .pageSuspend => 13 | .pageEnd => 14

/-- Class codes of a trace record (R184). -/
def PageClass.traceCode : PageClass → Nat
  | .background => 0 | .normal => 1 | .urgent => 2 | .emergency => 3

/-- PAGE-END details (R184). -/
def EndReason.traceCode : EndReason → Nat
  | .stopped => 1 | .duration => 2 | .sourceGone => 3 | .alarmCleared => 4 | .released => 5 | .preempted => 6
  | .suspendTimeout => 7 | .allExcluded => 8 | .uninstalled => 9

/-- A record as it is offered: the elapsed field is filled in when it is kept (R172). -/
def TraceRecord.offered (kind : TraceKind) (level : Nat) : TraceRecord :=
  { kind := kind, call := none, group := none, target := none, ext := none, orbit := none, page := none,
    level := level, detail := 0, exponent := 0, mantissa := 0, valid := false }

/-- The exponent of an elapsed count (R178). -/
def elapsedExponent (c : Nat) : Nat := if c < 1024 then 0 else Nat.log2 c - 9

/-- The mantissa of an elapsed count (R178). -/
def elapsedMantissa (c : Nat) : Nat := if c < 1024 then c else c / 2 ^ (elapsedExponent c - 1) - 1024

/-- What the host decodes from an exponent and a mantissa (R178). -/
def elapsedDecoded (e m : Nat) : Nat := if e = 0 then m else (1024 + m) * 2 ^ (e - 1)

/-- The form in which an OVERFLOW record is kept, by the trace flags of its ends (R175). -/
def qualifyOverflow (s : State) (r : TraceRecord) (through : List Nat) : Option TraceRecord :=
  let source := (r.group.map fun g => (s.group g).traceEnable).getD false
  let target := (r.target.map fun g => (s.group g).traceEnable).getD false
  let accepts := (r.target.map fun g => (s.group g).traceAccept).getD false
  match source, target with
  | true, true => some r
  | false, true => some { r with group := none }
  | true, false =>
    if accepts && through.all (fun g => (s.group g).traceThrough) then some { r with target := none } else none
  | false, false => none

/-- The form in which an offered record is kept, if it is (R174, R175). -/
def qualify (s : State) (r : TraceRecord) (through : List Nat) : Option TraceRecord :=
  if s.trace.frozen || !s.trace.filter.getLsbD r.kind.code then none
  else if r.kind = .overflow then qualifyOverflow s r through
  else
    match r.group with
    | some g => if (s.group g).traceEnable then some r else none
    | none => if s.trace.ungrouped then some r else none

/-- A record is kept (R173, R177). -/
def TraceUnit.keep (t : TraceUnit) (r : TraceRecord) : TraceUnit :=
  let kept := { r with
    exponent := elapsedExponent t.elapsed, mantissa := elapsedMantissa t.elapsed, valid := t.nextValid }
  { t with
    records := (kept :: t.records).take t.depth, nextValid := true, elapsed := 0
    sequence := (t.sequence + 1) % 65536 }

/-- A record is offered with the groups its call passed straight through (R64, R174). -/
def offerThrough (r : TraceRecord) (through : List Nat) (s : State) : State :=
  match qualify s r through with
  | none => s
  | some kept => { s with trace := s.trace.keep kept }

/-- A record is offered (R174). -/
def offerRecord (r : TraceRecord) (s : State) : State := offerThrough r [] s

/-- The trace freezes, when it is not frozen, and TRACE-FROZEN is queued (R179). -/
def freeze (cause : FreezeCause) (s : State) : State :=
  if s.trace.frozen then s
  else notify (.traceFrozen cause) { s with trace := { s.trace with frozen := true } }

/-- The source extension of a page's record (R133). -/
def PageRecord.traceExt (p : PageRecord) : Option Nat :=
  match p.source with
  | .ext x => some x
  | .prompt _ => none
  | .alarm _ => none

/-- A page's record (R133, R172). -/
def PageRecord.traceRecord (p : PageRecord) (kind : TraceKind) (detail : Nat) : TraceRecord :=
  { TraceRecord.offered kind p.cls.traceCode with page := some p.id, ext := p.traceExt, detail := detail }

/-- PAGE-START is offered; the start of an EMERGENCY page freezes the trace instead while freeze-on-alarm is set
(R133, R179). -/
def offerPageStart (p : PageRecord) (resumed : Bool) (s : State) : State :=
  if p.cls = .emergency && s.trace.freezeOnAlarm then freeze .emergencyPage s
  else offerRecord (p.traceRecord .pageStart (if resumed then 1 else 0)) s

/-- The Trace Unit is told of a muster activation (R179). -/
def musterActivation (s : State) : State := if s.trace.freezeOnAlarm then freeze .muster s else s

/-- The largest supported depth not above a number; 16 below that (R181). -/
def supportedDepth (n : Nat) : Nat :=
  if n < 32 then 16 else if n < 64 then 32 else if n < 128 then 64 else if n < 256 then 128 else 256

/-- The trace is cleared (R183). -/
def TraceUnit.clear (t : TraceUnit) : TraceUnit :=
  { t with records := [], sequence := 0, elapsed := 0, nextValid := false }

end Sys2Proof.Machine
end

