-- ==== Sys2Proof/Machine/Wire.lean ====
section
/-! DEFINITION. The frames of the host link as bytes: the CRC, the kind codes and the payload of every reply, directive
and notice (R184, R186, R189, R191). -/

namespace Sys2Proof.Machine

/-! ## CRC and framing (R186) -/

/-- One bit is shifted into the CRC: polynomial x^16 + x^12 + x^5 + 1. -/
def crcBit (crc : Word16) (bit : Bool) : Word16 := if crc.msb != bit then (crc <<< 1) ^^^ 0x1021#16 else crc <<< 1

/-- One byte is shifted in, most significant bit first. -/
def crcByte (crc : Word16) (b : Byte) : Word16 :=
  [7, 6, 5, 4, 3, 2, 1, 0].foldl (fun crc i => crcBit crc (b.getLsbD i)) crc

/-- The CRC of a list of bytes, from the initial value FFFFh. -/
def crc16 (l : List Byte) : Word16 := l.foldl crcByte 0xFFFF#16

def highByte (w : Word16) : Byte := w.extractLsb' 8 8
def lowByte (w : Word16) : Byte := w.extractLsb' 0 8

/-- The start byte. -/
def startByte : Byte := 0xA5

/-- A whole frame: start, length, kind, tag, payload and CRC. -/
def frameBytes (kind tag : Byte) (payload : List Byte) : List Byte :=
  let body := BitVec.ofNat 8 (payload.length + 2) :: kind :: tag :: payload
  startByte :: (body ++ [highByte (crc16 body), lowByte (crc16 body)])

/-! ## Named values, numbered from 0 in the order their tables list them (R186, R191; log entry 7) -/

def LineState.code : LineState → Nat
  | .idle => 0 | .offhook => 1 | .inCall => 2 | .out => 3 | .unknown => 255
def CallKind.code : CallKind → Nat
  | .hunt => 0 | .direct => 1 | .recalled => 2
def QueriedState.code : QueriedState → Nat
  | .waitingQueued => 0 | .waitingRinging => 1 | .ringingDirect => 2 | .recallRinging => 3 | .connected => 4 | .parked => 5
def Presence.code : Presence → Nat
  | .available => 0 | .standby => 1 | .paused => 2 | .signedOff => 3
def Disposition.code : Disposition → Nat
  | .offered => 0 | .waiting => 1 | .diverted => 2
def Announcement.code : Announcement → Nat
  | .placed => 0 | .notAsked => 1 | .noZoneSet => 2 | .notPlaced => 3
def PageState.code : PageState → Nat
  | .queued => 0 | .opening => 1 | .live => 2 | .closing => 3 | .suspended => 4
def PageReport.code : PageReport → Nat
  | .queued => 0 | .opening => 1 | .live => 2 | .closing => 3 | .suspended => 4 | .freed => 5
def EndReason.code : EndReason → Nat
  | .stopped => 0 | .duration => 1 | .sourceGone => 2 | .alarmCleared => 3 | .released => 4 | .preempted => 5
  | .suspendTimeout => 6 | .allExcluded => 7 | .uninstalled => 8
def FaultCause.code : FaultCause → Nat
  | .noReply => 0 | .amplifier => 1 | .lineOpen => 2 | .overtemperature => 3
def AlarmMode.code : AlarmMode → Nat
  | .unused => 0 | .evacuate => 1 | .muster => 2 | .alert => 3
def Protection.code : Protection → Nat
  | .anyone => 0 | .line => 1 | .permanent => 2
def MapStatus.code : MapStatus → Nat
  | .valid => 0 | .default => 1 | .writing => 2 | .storeInvalid => 3
def ResetCause.code : ResetCause → Nat
  | .powerOn => 0 | .pin => 1 | .link => 2
def Cadence.code : Cadence → Nat
  | .hunt => 0 | .recall => 1 | .direct => 2
def StopReason.code : StopReason → Nat
  | .answeredElsewhere => 0 | .noAnswer => 1 | .pickedUp => 2 | .callerGone => 3 | .withdrawn => 4 | .overflowed => 5
  | .retrieved => 6
def FreezeCause.code : FreezeCause → Nat
  | .emergencyPage => 0 | .muster => 1 | .host => 2
def Reason.code : Reason → Nat
  | .unknownKind => 1 | .badLength => 2 | .outOfRange => 3 | .notConfigured => 4 | .tableFull => 5 | .duplicate => 6
  | .noSuchCall => 7 | .wrongState => 8 | .tooLate => 9 | .nothingToPick => 10 | .notPermitted => 11 | .empty => 12
  | .limit => 13 | .commitPending => 14 | .notArmed => 15 | .protectedMap => 16 | .held => 17 | .allExcluded => 18
def Verdict.code : Verdict → Nat
  | .ok => 0 | .pending => 1 | .busy => 2 | .refused _ => 3
def Verdict.reasonByte : Verdict → List Byte
  | .ok => [0xFF]
  | .pending => [0xFF]
  | .busy => [0xFF]
  | .refused r => put1 r.code

def PageSource.form : PageSource → Form
  | .ext x => { code := 0, value := x }
  | .prompt c => { code := 1, value := c }
  | .alarm i => { code := 2, value := i }

/-- A range's four fields (R162, R170). -/
def ExclusionRange.bytes (r : ExclusionRange) : List Byte :=
  putFlag r.enabled ++ put1 r.lower ++ put1 r.upper ++ putFlag r.invert

/-- The map's fields in the order of R162, encoded as a MAP-WRITE carries them; the stored CRC is taken over these
(log entry 8). -/
def EmergencyMap.bytes (m : EmergencyMap) : List Byte :=
  putZones m.installed ++ m.sensitivity.toList.flatMap (fun n => put1 (n - 140))
    ++ m.inputs.toList.flatMap (fun i => put1 i.mode.code ++ putZones i.zones)
    ++ put1 (m.ceiling - 160) ++ m.range.bytes ++ put1 m.protection.code

/-- The elapsed field of a trace entry (R184). -/
def TraceRecord.elapsedWord (r : TraceRecord) : Nat :=
  (if r.valid then 32768 else 0) + r.exponent * 1024 + r.mantissa

/-- A trace entry of 14 bytes, or the empty marker (R184). -/
def traceEntryBytes : Option TraceRecord → List Byte
  | none => 0 :: List.replicate 13 0xFF
  | some r =>
    put1 r.kind.code ++ putOpt2 r.call ++ putOpt1 r.group ++ putOpt1 r.target ++ putOpt2 r.ext ++ putOpt1 r.orbit
      ++ putOpt2 r.page ++ put1 r.level ++ put1 r.detail ++ put2 r.elapsedWord

def MemberReport.bytes (m : MemberReport) : List Byte :=
  put2 m.ext ++ put1 m.weight ++ put1 m.programmed.code ++ put1 m.effective.code
    ++ putOpt1 (m.staged.map Presence.code) ++ putFlag m.pending ++ put2 m.idleSeconds ++ putSigned2 m.credit

/-- STATUS-QUERY's table lists the debounced state as ACTIVE or INACTIVE, so ACTIVE is 0 (R186, R192). -/
def InputReport.bytes (i : InputReport) : List Byte :=
  putFlag (!i.active) ++ putOpt1 (i.mode.map AlarmMode.code) ++ putOpt2 i.page

/-- The fields that follow the outcome and reason bytes. MODEL'S CHOICE: the level of the enable line in the MAP-READ
reply is one byte, low 0 and high 1 (log entry 13). -/
def ReplyBody.bytes : ReplyBody → List Byte
  | .nothing => []
  | .call r =>
    put2 r.ref ++ put1 r.kind.code ++ put1 r.state.code ++ putOpt1 r.group ++ put1 r.priority ++ put2 r.waited
      ++ put1 r.passCount ++ put1 r.depth ++ putOpt2 r.noAnswerLeft ++ putOpt2 r.maxWaitLeft ++ putOpt2 r.connected
      ++ putOpt1 r.orbit ++ put1 r.ringing.length ++ r.ringing.flatMap put2 ++ put1 r.tried.length
      ++ r.tried.flatMap put2
  | .roster r =>
    put1 r.group ++ putFlag r.configured ++ putFlag r.commitInProgress ++ putFlag r.rosterChanged
      ++ putFlag r.forcing ++ put1 r.memberCount ++ put1 r.first ++ put1 r.members.length
      ++ r.members.flatMap MemberReport.bytes
  | .arrival d g => put1 d.code ++ putOpt1 g
  | .picked c k x g o => put2 c ++ put1 k.code ++ put2 x ++ putOpt1 g ++ putOpt1 o
  | .parked o a p => put1 o ++ put1 a.code ++ putOpt2 p
  | .retrieved c o k g => put2 c ++ put1 o ++ put1 k.code ++ putOpt1 g
  | .page p st n => put2 p ++ put1 st.code ++ put1 n
  | .level r =>
    put1 r.zone ++ putFlag r.installed ++ put2 r.noise.toNat ++ putFlag r.seeded ++ putFlag r.stale
      ++ putOpt2 r.sinceReading ++ putFlag r.limited ++ put1 r.gain ++ putFlag r.deliveryPending ++ putFlag r.faulted
      ++ putOpt1 (r.fault.map FaultCause.code)
  | .map r =>
    r.contents.bytes ++ put1 r.status.code ++ putFlag r.locked ++ putFlag r.rangeHeld ++ r.activeRange.bytes
      ++ putFlag r.enableLine
  | .traceDepth d f => put2 d ++ putFlag f
  | .traceEntries st n d h f q es =>
    put1 st ++ put1 n ++ put2 d ++ put2 h ++ putFlag f ++ put2 q ++ es.flatMap traceEntryBytes
  | .status r =>
    put1 r.cause.code ++ put1 r.mapStatus.code ++ put1 r.protection.code ++ putFlag r.locked ++ putFlag r.rangeHeld
      ++ putFlag r.armed ++ r.inputs.flatMap InputReport.bytes ++ putFlag (!r.override) ++ putFlag r.frozen
      ++ put2 r.calls ++ put1 r.generalPages ++ put1 r.alarmPages ++ put1 r.lost

/-- Directive codes and fields (R191). -/
def Directive.frame : Directive → Byte × List Byte
  | .ring x c k => (0x40, put2 x ++ put2 c ++ put1 k.code)
  | .stopRing x c r => (0x41, put2 x ++ put2 c ++ put1 r.code)
  | .connect x c => (0x42, put2 x ++ put2 c)
  | .waitHold c => (0x43, put2 c)
  | .divert c d => (0x44, put2 c ++ putOpt2 d)
  | .parkHold c o => (0x45, put2 c ++ put1 o)
  | .pageAudio p ch src on => (0x46, put2 p ++ put1 ch ++ putForm src.form ++ putFlag (!on))
  | .pageState p st r => (0x47, put2 p ++ put1 st.code ++ putOpt1 (r.map EndReason.code))

/-- Notice codes and fields (R191, R194). -/
def Notice.frame : Notice → Byte × List Byte
  | .startUp c st p l h b =>
    (0x60, put1 c.code ++ put1 st.code ++ put1 p.code ++ putFlag l ++ putFlag h ++ put1 b.toNat)
  | .rosterDone g => (0x61, put1 g)
  | .overrideAltered g n => (0x62, put1 g ++ put1 n)
  | .overrideReleased => (0x63, [])
  | .alarmChange i a m => (0x64, put1 i ++ putFlag a ++ put1 m.code)
  | .zoneFault z c => (0x65, put1 z ++ put1 c.code)
  | .zoneRestored z => (0x66, put1 z)
  | .mapDone ok => (0x67, putFlag (!ok))
  | .traceFrozen c => (0x68, put1 c.code)
  | .outputLost n => (0x69, put1 n)

/-- The bytes of a frame of the output queue (R186, R187, R189, R191). -/
def OutFrame.bytes : OutFrame → List Byte
  | .reply k t v b => frameBytes k t (put1 v.code ++ v.reasonByte ++ b.bytes)
  | .frameError badLength => frameBytes 0x80 0 (if badLength then [1] else [0])
  | .directive d => frameBytes d.frame.1 0 d.frame.2
  | .notice n => frameBytes n.frame.1 0 n.frame.2

end Sys2Proof.Machine
end

