-- ==== Sys2Proof/Machine/Link.lean ====
section
/-! DEFINITION. The Link Controller: the receiver, the request queue, taking a request and replying (R187 to R189). -/

namespace Sys2Proof.Machine

/-- The kind is a request kind of R191: codes 01h to 24h. -/
def isRequestKind (k : Byte) : Bool := 1 ≤ k.toNat && k.toNat ≤ 0x24

/-- The kind code of a reply to a frame (R189). -/
def replyKind (k : Byte) : Byte := if isRequestKind k then k + 0x80 else 0xFF

/-- A well-formed frame goes to the request queue, or is answered BUSY when the queue is full (R188); once a link
reset is due it is discarded without a reply (R193). -/
def acceptFrame (f : Frame) (s : State) : State :=
  if s.link.resetAfter.isSome then s
  else if Config.requestPlaces ≤ s.link.requests.length then
    emit (.reply (replyKind f.kind) f.tag .busy .nothing) s
  else { s with link := { s.link with requests := s.link.requests ++ [f] } }

/-- A damaged frame is discarded and FRAME-ERROR is queued (R187), unless a link reset is due (R193). -/
def rejectFrame (badLength : Bool) (s : State) : State :=
  if s.link.resetAfter.isSome then s else emit (.frameError badLength) s

/-- The receiver's next condition. -/
def setReceiver (r : Receiver) (s : State) : State := { s with link := { s.link with receiver := r } }

/-- A byte meets a receiver that waits for a start byte (R187). -/
def seekStart (b : Byte) (s : State) : State :=
  if b = startByte then setReceiver (.inFrame [] s.clock) s else setReceiver .hunting s

/-- A frame whose last byte has come is judged by its CRC; `bytes` runs from its length byte (R187). -/
def judgeFrame (bytes : List Byte) (s : State) : State :=
  let body := bytes.take (bytes.length - 2)
  if bytes.drop (bytes.length - 2) = [highByte (crc16 body), lowByte (crc16 body)] then
    match body with
    | _ :: kind :: tag :: payload => acceptFrame { kind := kind, tag := tag, payload := payload } s
    | _ => rejectFrame true s
  else rejectFrame false s

/-- One byte arrives on HRX (R187). A byte after more than 20 ms is taken as a possible start. -/
def receiveByte (b : Byte) (s : State) : State :=
  match s.link.receiver with
  | .disabled => s
  | .hunting => seekStart b s
  | .inFrame bytes lastAt =>
    if lastAt + Config.receiveGapMs < s.clock then seekStart b s
    else
      let bytes := bytes ++ [b]
      let length := (bytes.headD 0).toNat
      if length < 2 || 248 < length then rejectFrame true (setReceiver .hunting s)
      else if bytes.length = length + 3 then judgeFrame bytes (setReceiver .hunting s)
      else setReceiver (.inFrame bytes s.clock) s

/-- Bytes arrive on HRX with no gap between them. -/
def receiveBytes (l : List Byte) (s : State) : State := l.foldl (fun s b => receiveByte b s) s

/-- The outcome of a request: its verdict, and the fields of its reply. -/
structure Answer where
  verdict : Verdict
  body : ReplyBody
deriving DecidableEq, Repr

def Answer.ok : Answer := { verdict := .ok, body := .nothing }
def Answer.okWith (b : ReplyBody) : Answer := { verdict := .ok, body := b }
def Answer.pending : Answer := { verdict := .pending, body := .nothing }
def Answer.busy : Answer := { verdict := .busy, body := .nothing }
def Answer.refused (r : Reason) : Answer := { verdict := .refused r, body := .nothing }

/-- The request at the front of the queue is handled by its owner: the reply follows the frames it produced, it leaves
the queue, and the two latches become what it leaves (R165, R188, R189, R193). -/
def serve (f : Frame) (owner : State → State × Answer) (s : State) : State :=
  let r := owner s
  let t := emit (.reply (replyKind f.kind) f.tag r.2.verdict r.2.body) r.1
  { t with
    link := { t.link with requests := t.link.requests.drop 1, prepared := preparedAfter f.kind r.2.verdict }
    map := { t.map with armed := armedAfter f.kind r.2.verdict } }

/-- The Link Controller takes no request: the part does not run, or a link reset is due (R193). -/
def State.takesNone (s : State) : Bool := !s.running || s.link.resetAfter.isSome

/-- A request that finds the queue empty stands in it (R188). -/
def standInQueue (f : Frame) (s : State) : State :=
  if s.link.requests.isEmpty then { s with link := { s.link with requests := [f] } } else s

/-- The Link Controller takes the oldest request, which this is, while the output queue holds fewer than 40 frames;
otherwise the request waits (R188; log entry 9). -/
def takeRequest (f : Frame) (owner : State → State × Answer) (s : State) : State :=
  if s.takesNone then s
  else
    let s := standInQueue f s
    if s.link.requests.head? = some f && s.link.output.length < Config.takeBelow then serve f owner s else s

/-- A request of a kind: a payload that cannot be read is refused with BAD-LENGTH, any other goes to its owner
(R188). -/
def takeKind {α : Type} (kind tag : Byte) (payload : List Byte) (read : List Byte → Option α)
    (owner : α → State → State × Answer) (s : State) : State :=
  takeRequest { kind := kind, tag := tag, payload := payload } (fun s =>
    match read payload with
    | none => (s, .refused .badLength)
    | some o => owner o s) s

end Sys2Proof.Machine
end

