-- ==== Sys2Proof/Machine/Roster.lean ====
section
/-! DEFINITION. The Roster Controller: effective presence, staged values, the ends of offers and the muster override's
effect on presence (R27 to R38). -/

namespace Sys2Proof.Machine

/-- The effective presence a membership should have (R27). -/
def effectivePresence (override safety : Bool) (programmed : Presence) : Presence :=
  if override && safety then .available else programmed

/-- An effective presence is taken; the idle clock is cleared and held at 0 in STANDBY and SIGNED-OFF (R28). -/
def Membership.takeEffective (m : Membership) (e : Presence) : Membership :=
  { m with effective := e, idleTenths := if e = .standby || e = .signedOff then 0 else m.idleTenths }

/-- The effective presence is recomputed (R27). -/
def Membership.recompute (override safety : Bool) (m : Membership) : Membership :=
  m.takeEffective (effectivePresence override safety m.programmed)

/-- AVAILABLE or STANDBY: a presence that is offered calls. -/
def Presence.offered : Presence → Bool
  | .available => true
  | .standby => true
  | .paused => false
  | .signedOff => false

/-- The membership of an extension in a group. -/
def State.member? (s : State) (g x : Nat) : Option Membership := (s.group g).members.find? fun m => m.ext == x

/-- A membership is changed in its place of the list. -/
def State.modMember (s : State) (g x : Nat) (f : Membership → Membership) : State :=
  s.modGroup g fun r => { r with members := r.members.map fun m => if m.ext == x then f m else m }

/-- Every membership of a group is recomputed under the override as it stands (R27). -/
def recomputeGroup (g : Nat) (s : State) : State :=
  s.modGroup g fun r => { r with members := r.members.map (Membership.recompute s.override r.safety) }

/-- A staged value is applied to a membership (R31). -/
def applyStaged (g x : Nat) (s : State) : State :=
  match s.member? g x with
  | none => s
  | some m =>
    match m.staged with
    | none => s
    | some v =>
      let changed := m.programmed ≠ v
      let safety := (s.group g).safety
      let s := s.modMember g x fun m =>
        ({ m with programmed := v, staged := none, pending := false } : Membership).recompute s.override safety
      let s := if changed then s.modGroup g fun r => { r with rosterChanged := true } else s
      if s.override && safety && changed && v ≠ .available then notify (.overrideAltered g 1) s else s

/-- The end of a membership's offer is reported: a pending value applies, and ROSTER-DONE follows the last of the
group (R32). -/
def offerEnded (g x : Nat) (s : State) : State :=
  if ((s.member? g x).map Membership.pending).getD false then
    let s := applyStaged g x s
    if (s.group g).members.any Membership.pending then s
    else notify (.rosterDone g) (s.modGroup g fun r => { r with commitInProgress := false })
  else s

/-- The ends of several offers of one group's call are reported in order (R32). -/
def offersEnded (g : Nat) (xs : List Nat) (s : State) : State := xs.foldl (fun s x => offerEnded g x s) s

/-- How many memberships of the group the override forces (R35). -/
def GroupRecord.forcedCount (r : GroupRecord) : Nat :=
  (r.members.filter fun m => m.programmed ≠ .available).length

/-- The group's memberships are forced while the override is active; OVERRIDE-ALTERED carries a count that is not 0
(R35, R37). -/
def forceGroup (g : Nat) (s : State) : State :=
  let n := (s.group g).forcedCount
  let s := recomputeGroup g s
  if n = 0 then s else notify (.overrideAltered g n) s

/-- The safety groups in ascending number (R35). -/
def State.safetyGroups (s : State) : List Nat := (List.range 64).filter fun g => (s.group g).safety

/-- The override ends: programmed presence returns and OVERRIDE-RELEASED is queued (R38). -/
def endOverride (s : State) : State :=
  let s := { s with override := false }
  notify .overrideReleased (s.safetyGroups.foldl (fun s g => recomputeGroup g s) s)

end Sys2Proof.Machine
end

