-- ==== Sys2Proof/Machine/Hunt.lean ====
section
/-! DEFINITION. Ringing marks and the Hunt Engine: eligibility, disciplines, offers, advance, passes, overflow, the
freed extension, servicing and emergency hold (R5, R6, R39 to R69). -/

namespace Sys2Proof.Machine

/-! ## Ringing marks -/

/-- A ringing mark is placed when the extension holds none, and RING is queued (R5). -/
def placeMark (x c : Nat) (cadence : Cadence) (s : State) : State :=
  if (s.ext x).ringing.isSome then s
  else
    let s := s.modExt x fun r => { r with ringing := some c, ringStart := s.now }
    let s := s.modCall c fun k => { k with ringing := k.ringing ++ [x] }
    direct (.ring x c cadence) s

/-- A ringing mark is cleared; STOP-RING is queued unless the extension itself has answered (R6). The hand-over of a
freed extension is the caller's, since it comes after every other effect of the event. -/
def clearMark (x c : Nat) (reason : Option StopReason) (s : State) : State :=
  let s := s.modExt x fun r => { r with ringing := none }
  let s := s.modCall c fun k => { k with ringing := k.ringing.filter (· != x) }
  match reason with
  | none => s
  | some r => direct (.stopRing x c r) s

/-- Several marks of one call are cleared in order with one reason (R6). -/
def clearMarks (xs : List Nat) (c : Nat) (reason : StopReason) (s : State) : State :=
  xs.foldl (fun s x => clearMark x c (some reason) s) s

/-! ## Eligibility and choice -/

/-- The group is under emergency hold (R68). -/
def State.held (s : State) (g : Nat) : Bool :=
  let r := s.group g
  r.emergencyHold && (match r.homeSet with
    | none => false
    | some n => (s.zoneSet n &&& s.covered) != 0)

/-- The conditions of R43 but for the presence. -/
def State.reachable (s : State) (g : Nat) (k : CallContext) (m : Membership) : Bool :=
  (s.group g).configured && !s.held g && (s.ext m.ext).line = .idle && (s.ext m.ext).ringing.isNone
    && !k.tried.contains m.ext

/-- The eligible set E with list positions, in list order (R43, R44). -/
def State.eligible (s : State) (g : Nat) (k : CallContext) : List (Membership × Nat) :=
  let reachable := ((s.group g).members.zipIdx).filter fun m => s.reachable g k m.1
  let available := reachable.filter fun m => m.1.effective = .available
  if available.isEmpty then reachable.filter fun m => m.1.effective = .standby else available

/-- The memberships that the discipline chooses from E, in the order chosen; the credits are those after the additions
of a WEIGHTED selection (R45 to R48). -/
def chosenFrom (discipline : Discipline) (cursor : Nat) (e : List (Membership × Nat)) : List (Membership × Nat) :=
  match discipline with
  | .linear => e.head?.toList
  | .circular => ((e.find? fun m => cursor < m.2).or e.head?).toList
  | .longestIdle => (firstBest (fun a b => b.1.idleSeconds < a.1.idleSeconds) e).toList
  | .weighted => (firstBest (fun a b => b.1.credit < a.1.credit) e).toList
  | .ringAll => e.take 8

/-- A credit after an addition, saturating (R47). -/
def addCredit (credit d : Int) : Int := clampInt (-1024) 1023 (credit + d)

/-- E with every weight added to its member's credit (R47, step 1). -/
def creditedSet (e : List (Membership × Nat)) : List (Membership × Nat) :=
  e.map fun m => ({ m.1 with credit := addCredit m.1.credit m.1.weight }, m.2)

/-- The credits of the group after a WEIGHTED selection of `chosen` from E (R47). -/
def settleCredits (e : List (Membership × Nat)) (chosen : List Nat) (members : List Membership) : List Membership :=
  let total : Int := (e.map fun m => (m.1.weight : Int)).sum
  members.map fun m =>
    if e.any (fun n => n.1.ext == m.ext) then
      let credit := addCredit m.credit m.weight
      { m with credit := if chosen.contains m.ext then addCredit credit (-total) else credit }
    else m

/-- The discipline's choice for a call: the extensions to ring, and the group with its cursor or credits moved
(R45 to R48). -/
def chooseFrom (r : GroupRecord) (e : List (Membership × Nat)) : List Nat × GroupRecord :=
  match r.discipline with
  | .linear => ((chosenFrom .linear r.cursor e).map (·.1.ext), r)
  | .circular =>
    let chosen := chosenFrom .circular r.cursor e
    (chosen.map (·.1.ext), { r with cursor := (chosen.head?.map (·.2)).getD r.cursor })
  | .longestIdle => ((chosenFrom .longestIdle r.cursor e).map (·.1.ext), r)
  | .weighted =>
    let chosen := (chosenFrom .weighted r.cursor (creditedSet e)).map (·.1.ext)
    (chosen, { r with members := settleCredits e chosen r.members })
  | .ringAll => ((chosenFrom .ringAll r.cursor e).map (·.1.ext), r)

/-! ## Offers -/

/-- One membership is rung for an offer: mark, tried set, OFFER record (R49). -/
def ringForOffer (g c x : Nat) (s : State) : State :=
  let s := placeMark x c .hunt s
  let s := s.modCall c fun k => { k with tried := insertAscending x k.tried }
  match s.call? c with
  | none => s
  | some k =>
    offerRecord { TraceRecord.offered .offer k.priority with call := some c, group := some g, ext := some x } s

/-- An offer of a call to chosen extensions (R49). -/
def makeOffer (g c : Nat) (xs : List Nat) (s : State) : State :=
  let s := xs.foldl (fun s x => ringForOffer g c x s) s
  s.modCall c fun k => { k with noAnswerDue := some (s.after (s.group g).noAnswerTime) }

/-- The group's discipline chooses from the call's eligible set, and the choice is offered (R44). -/
def offerCall (g c : Nat) (s : State) : State :=
  match s.call? c with
  | none => s
  | some k =>
    let e := s.eligible g k
    if e.isEmpty then s
    else
      let choice := chooseFrom (s.group g) e
      makeOffer g c choice.1 (s.modGroup g fun _ => choice.2)

/-! ## The freed extension and servicing -/

/-- The first QUEUED call of the group for which the extension's membership is eligible (R55). -/
def State.firstFor (s : State) (g x : Nat) : Option CallContext :=
  ((s.group g).waiting.filterMap s.call?).find? fun k =>
    k.ringing.isEmpty && (s.eligible g k).any fun m => m.1.ext == x

/-- The candidates of the arbitration over an extension: at most one call per group (R55). -/
def State.candidatesFor (s : State) (x : Nat) : List (Nat × CallContext) :=
  ((s.ext x).memberOf.filter fun g => (s.group g).configured && !s.held g).filterMap fun g =>
    (s.firstFor g x).map fun k => (g, k)

/-- Priority, then waiting-since, then group number (R55). -/
def betterCandidate (a b : Nat × CallContext) : Bool :=
  b.2.priority < a.2.priority
    || (a.2.priority = b.2.priority && (a.2.waitingSince < b.2.waitingSince
      || (a.2.waitingSince = b.2.waitingSince && a.1 < b.1)))

/-- The cursor after an arbitration offer: the list position of the member in a CIRCULAR group (R56). -/
def moveCursorTo (g x : Nat) (s : State) : State :=
  s.modGroup g fun r =>
    if r.discipline = .circular then { r with cursor := r.members.findIdx fun m => m.ext == x } else r

/-- The arbitration over a freed extension (R55, R56). -/
def arbitrate (x : Nat) (s : State) : State :=
  if (s.ext x).line = .idle && (s.ext x).ringing.isNone then
    match firstBest betterCandidate (s.candidatesFor x) with
    | none => s
    | some w => makeOffer w.1 w.2.ref [x] (moveCursorTo w.1 x s)
  else s

/-- Freed extensions are handed to the Hunt Engine in order (R6). -/
def arbitrateAll (xs : List Nat) (s : State) : State := xs.foldl (fun s x => arbitrate x s) s

/-- A group is serviced: one walk over its waiting list (R57). -/
def service (g : Nat) (s : State) : State :=
  if (s.group g).configured && !s.held g then
    (s.group g).waiting.foldl (fun s c =>
      if ((s.call? c).map fun k => k.ringing.isEmpty).getD false then offerCall g c s else s) s
  else s

/-- Groups are serviced in order. -/
def serviceAll (gs : List Nat) (s : State) : State := gs.foldl (fun s g => service g s) s

/-- The override starts: every safety group is forced, then each group with a forced membership is serviced (R35). -/
def startOverride (s : State) : State :=
  let s := { s with override := true }
  let forced := s.safetyGroups.filter fun g => (s.group g).forcedCount ≠ 0
  serviceAll forced (s.safetyGroups.foldl (fun s g => forceGroup g s) s)

/-! ## Waiting lists, advance, overflow and divert -/

/-- The order of a waiting list: priority, then waiting-since (R39). -/
def waitsBefore (a b : CallContext) : Bool :=
  b.priority < a.priority || (a.priority = b.priority && a.waitingSince < b.waitingSince)

/-- A call is inserted in a waiting list at the place R39 gives. -/
def insertWaiting (g c : Nat) (s : State) : State :=
  match s.call? c with
  | none => s
  | some k =>
    s.modGroup g fun r =>
      { r with waiting := insertBefore (fun _ b =>
          match s.call? b with
          | none => false
          | some kb => waitsBefore k kb) c r.waiting }

/-- A call leaves its group's waiting list, if it is in it. -/
def leaveList (c : Nat) (s : State) : State :=
  match (s.call? c).bind (·.group) with
  | none => s
  | some g => s.modGroup g fun r => { r with waiting := r.waiting.filter (· != c) }

/-- The call becomes QUEUED: WAIT-HOLD and a WAIT record (R54). -/
def becomeQueued (g c : Nat) (s : State) : State :=
  match s.call? c with
  | none => s
  | some k =>
    offerRecord { TraceRecord.offered .wait k.priority with call := some c, group := some g }
      (direct (.waitHold c) s)

/-- A call is diverted and its context freed; the DIVERT record names the last group passed through (R62, R64,
R176). -/
def divertCall (c : Nat) (code : Option Nat) (source : Nat) (through : List Nat) (s : State) : State :=
  match s.call? c with
  | none => s
  | some k =>
    let s := direct (.divert c code) s
    let s := offerThrough
      { TraceRecord.offered .divert k.priority with
        call := some c, group := some source, target := through.getLast?, detail := k.depth } through s
    s.freeCall c

/-- No membership is untried and AVAILABLE or STANDBY (R52, second case). -/
def State.passOver (s : State) (g : Nat) (k : CallContext) : Bool :=
  !(s.group g).members.any fun m => m.effective.offered && !k.tried.contains m.ext

/-- An advance that cannot complete a pass: offer, or queue (R53). -/
def offerOrQueue (g c : Nat) (s : State) : State :=
  match s.call? c with
  | none => s
  | some k => if (s.eligible g k).isEmpty then becomeQueued g c s else offerCall g c s

/-- A call of a group advances; `overflow` carries it on when its passes are spent (R52, R53). -/
def advanceWith (overflow : State → State) (g c : Nat) (s : State) : State :=
  match s.call? c with
  | none => s
  | some k =>
    if !(s.eligible g k).isEmpty then offerCall g c s
    else if s.passOver g k then
      let s := s.modCall c fun k => { k with passCount := k.passCount + 1, tried := [] }
      if (s.group g).passLimit ≤ k.passCount + 1 then
        if (s.group g).overflow.isSome then overflow s
        else offerOrQueue g c (s.modCall c fun k => { k with passCount := 0 })
      else offerOrQueue g c s
    else becomeQueued g c s

/-- A call enters a group's waiting list and advances (R42). -/
def enterWith (overflow : State → State) (g c : Nat) (s : State) : State :=
  let wait := (s.group g).maximumWait
  let s := s.modCall c fun k =>
    { k with
      group := some g, waitingSince := s.now, tried := [], passCount := 0, state := .waiting
      maxWaitDue := if wait = 0 then none else some (s.after wait) }
  advanceWith overflow g c (insertWaiting g c s)

/-- The call leaves its list for an overflow or a divert: timer stopped, tried set and passes emptied (R60). -/
def leaveForOverflow (c : Nat) (s : State) : State :=
  (leaveList c s).modCall c fun k => { k with maxWaitDue := none, tried := [], passCount := 0 }

/-- The waiting list has room for one more call (R39). -/
def State.hasRoom (s : State) (g : Nat) : Bool := (s.group g).waiting.length < (s.group g).waitingDepth

/-- An OVERFLOW record: a call enters `target` by overflow from `source` (R64). -/
def offerOverflow (c source target : Nat) (through : List Nat) (s : State) : State :=
  match s.call? c with
  | none => s
  | some k =>
    offerThrough { TraceRecord.offered .overflow k.priority with
      call := some c, group := some source, target := some target, detail := k.depth } through s

/-- An overflow of a call from group `g` with so many hops left before the depth limit (R60, R61). `source` and
`through` are those of its next record (R64). -/
def overflowHops : Nat → Nat → Nat → Nat → List Nat → State → State
  | 0, c, source, _, through, s => divertCall c s.fallback source through (leaveForOverflow c s)
  | hops + 1, c, source, g, through, s =>
    let s := leaveForOverflow c s
    match (s.group g).overflow with
    | none => divertCall c s.fallback source through s
    | some (.external code) =>
      divertCall c (some code) source through (s.modCall c fun k => { k with depth := k.depth + 1 })
    | some (.group n) =>
      let s := s.modCall c fun k => { k with depth := k.depth + 1 }
      if !(s.group n).configured then divertCall c s.fallback source through s
      else if s.hasRoom n then
        enterWith (fun s => overflowHops hops c n n [] s) n c (offerOverflow c source n through s)
      else overflowHops hops c source n (through ++ [n]) s

/-- The hops a call has left (R60). -/
def State.hopsLeft (s : State) (c : Nat) : Nat := Config.maximumDepth - ((s.call? c).map (·.depth)).getD 0

/-- A call overflows from the group it stands in (R60). -/
def overflowFrom (g c : Nat) (s : State) : State := overflowHops (s.hopsLeft c) c g g [] s

/-- A call of a group advances (R52). -/
def advance (g c : Nat) (s : State) : State := advanceWith (overflowFrom g c) g c s

/-- A call enters a group's waiting list on arrival or on recall (R42). -/
def enterGroup (g c : Nat) (s : State) : State := enterWith (overflowFrom g c) g c s

/-! ## Emergency hold -/

/-- The groups under emergency hold, in ascending number. -/
def State.heldGroups (s : State) : List Nat := (List.range 64).filter s.held

/-- A change that may release holds, be it a request's or all that one event does in the Page Scheduler: the groups it
releases are serviced after it, in ascending number (R69, R132). -/
def releasingHolds (change : State → State) (s : State) : State :=
  let before := s.heldGroups
  let s := change s
  serviceAll (before.filter fun g => !s.held g) s

end Sys2Proof.Machine
end

