-- ==== Sys2Proof/Machine/Level.lean ====
section
/-! DEFINITION. The Level Unit: readings, the noise estimate and the gain computation (R147 to R154). -/

namespace Sys2Proof.Machine

/-- The value of a class (R109). -/
def PerClass.of {α : Type} (v : PerClass α) : PageClass → α
  | .emergency => v.emergency
  | .urgent => v.urgent
  | .normal => v.normal
  | .background => v.background

/-- The level of a valid reading in 1/16 dB (R149). -/
def readingLevel (q : Nat) : Int := if q ≤ 201 then 480 + ((q : Int) - 1) * 8 else 2080

/-- The step that a reading of level `r` moves the estimate by (R150). -/
def noiseStep (rise fall : Nat) (noise r : Int) : Int :=
  let d := r - noise
  let k : Int := if 0 < d then rise else fall
  let step := Int.tdiv (d * k) 64
  if step = 0 && d ≠ 0 then (if 0 < d then 1 else -1) else step

/-- The estimate after a valid reading of level `r` (R150). -/
def LevelState.learn (l : LevelState) (r : Int) : LevelState :=
  if l.seeded then { l with noise := clampInt 480 2080 (l.noise + noiseStep l.riseFactor l.fallFactor l.noise r) }
  else { l with noise := r, seeded := true }

/-- A reading is handed over: 0 is discarded; a valid one is recorded, clears STALE and moves the estimate (R149). -/
def takeReading (z q : Nat) (s : State) : State :=
  if q = 0 then s
  else s.modLevel z fun l => ({ l with lastReading := some s.now, stale := false } : LevelState).learn (readingLevel q)

/-- The target level in 1/16 dB: margin, floor, then ceiling (R152). -/
def targetLevel (noise marginHalves : Int) (floorHalves ceilingHalves : Nat) : Int :=
  min (max (noise + 8 * marginHalves) (8 * (floorHalves : Int))) (8 * (ceilingHalves : Int))

/-- The code for a gain in 1/16 dB, kept within 0 to 144 (R153, steps 2 and 3). -/
def rawGainCode (gain : Int) : Nat := (clampInt 0 144 (Int.fdiv (gain + 960 + 4) 8)).toNat

/-- A code kept within the zone's limits; the maximum governs (R153, step 4). -/
def limitCode (minCode maxCode code : Nat) : Nat := min (max code minCode) maxCode

/-- The ceiling that a class meets in a zone, in 0.5 dB steps (R152). -/
def State.ceilingFor (s : State) (z : Nat) (cls : PageClass) : Nat :=
  if cls = .emergency then s.map.copy.ceiling else (s.level z).ceiling

/-- The gain code of a zone for a class before the zone's own limits (R152, R153). -/
def State.unlimitedCode (s : State) (z : Nat) (cls : PageClass) : Nat :=
  let l := s.level z
  let t := targetLevel l.noise (s.paging.margin.of cls) l.floor (s.ceilingFor z cls)
  rawGainCode (t - 8 * ((tabGet s.map.copy.sensitivity z 190 : Nat) : Int))

/-- The gain code of a zone for a class (R153). -/
def State.gainCode (s : State) (z : Nat) (cls : PageClass) : Nat :=
  if cls = .emergency then s.unlimitedCode z cls
  else limitCode (s.level z).minCode (s.level z).maxCode (s.unlimitedCode z cls)

/-- A computation sets level-limited when the zone's limits changed the code (R153, R154). -/
def noteLimited (z : Nat) (cls : PageClass) (s : State) : State :=
  if s.gainCode z cls = s.unlimitedCode z cls then s else s.modLevel z fun l => { l with limited := true }

/-- The stale time has passed since the last valid reading, or since the reset (R151). -/
def LevelState.staleAt (l : LevelState) (now : Nat) : Bool := l.lastReading.getD 0 + l.staleTime ≤ now

end Sys2Proof.Machine
end

