-- ==== Sys2Proof/Machine/ZoneLink.lean ====
section
/-! DEFINITION. The Zone Link Controller: commanded states, the order of exchanges and the zone-link frames
(R135 to R140, R146). -/

namespace Sys2Proof.Machine

/-- The sum of bytes modulo 256 (R136). -/
def byteSum (l : List Byte) : Byte := l.foldl (· + ·) 0

/-- The state frame of a zone: address, channel, gain, ramp, chime and the check byte (R136). -/
def stateFrame (z : Nat) (c : Commanded) : List Byte :=
  let body : List Byte :=
    [BitVec.ofNat 8 (z + 1), BitVec.ofNat 8 c.channel, BitVec.ofNat 8 c.gain, BitVec.ofNat 8 c.ramp,
      if c.chime then 1 else 0]
  body ++ [0 - byteSum body]

/-- The Page Scheduler hands over a zone's new commanded state; `emergency` when the owner before or after is an
EMERGENCY page (R138). An exchange in flight with the zone no longer carries its current state (R140, R145). -/
def handOver (z : Nat) (c : Commanded) (emergency : Bool) (s : State) : State :=
  if c = (s.amp z).commanded then s
  else
    let s := s.modAmp z fun a =>
      { a with commanded := c, deliveryPending := true, emergencyMark := a.emergencyMark || emergency }
    { s with exchange := s.exchange.map fun e => if e.zone = z then { e with superseded := true } else e }

/-- The zone of the next change exchange: emergency changes first, then other changes (R139). -/
def State.nextChange (s : State) : Option Nat :=
  let waiting := (List.range 64).filter fun z => s.installed z && (s.amp z).deliveryPending
  (waiting.find? fun z => (s.amp z).emergencyMark).or waiting.head?

/-- The next zone of the rotation (R139). -/
def State.nextPoll (s : State) : Option Nat :=
  let zs := (List.range 64).filter s.installed
  (zs.find? fun z => s.rotation < z).or zs.head?

/-- An exchange with a zone begins: the state frame goes out with the commanded state as it stands, and the exchange
holds its bytes (R135, R136, R140). -/
def beginExchange (z : Nat) (s : State) : State :=
  let c := (s.amp z).commanded
  let e : Exchange :=
    { zone := z, sent := c, frame := stateFrame z c, superseded := false
      deadline := s.clock + Config.replyTimeoutMs }
  { s with exchange := some e }

/-- When no exchange is in flight, the next one is chosen and begins (R135, R139). -/
def startExchange (s : State) : State :=
  match s.exchange with
  | some _ => s
  | none =>
    match s.nextChange with
    | some z => beginExchange z s
    | none =>
      match s.nextPoll with
      | some z => beginExchange z { s with rotation := z }
      | none => s

/-- The Zone Link Controller's part of a change of the installed set from `old` (R146). -/
def zoneLinkSetChange (old : ZoneSet) (s : State) : State :=
  (List.range 64).foldl (fun s z =>
    if zoneIn old z && !s.installed z then
      s.modAmp z fun a => { a with deliveryPending := false, emergencyMark := false, missCount := 0, fault := none }
    else if !zoneIn old z && s.installed z then
      s.modAmp z fun _ => AmpState.atReset true
    else s) s

end Sys2Proof.Machine
end

