-- ==== Sys2Proof/Machine/Pages.lean ====
section
/-! DEFINITION. The Page Scheduler: precedence, zones, channels, the scheduling pass, victims, late joins, page ends,
admission, and the placing of alarm pages (R103 to R133, R158 to R160). -/

namespace Sys2Proof.Machine

/-! ## Precedence and views of the page table -/

/-- A class's place in the order of classes (R103). -/
def PageClass.order : PageClass → Nat
  | .emergency => 0 | .urgent => 1 | .normal => 2 | .background => 3

/-- A page's rank within the EMERGENCY class: its input, or 4 for a page of the host (R103). -/
def PageRecord.rank (p : PageRecord) : Nat := if p.cls = .emergency then p.alarm.getD 4 else 0

/-- A page outranks another (R103). -/
def outranks (p q : PageRecord) : Bool :=
  p.cls.order < q.cls.order || (p.cls = .emergency && q.cls = .emergency && p.rank < q.rank)

/-- Class order, EMERGENCY rank, then arrival sequence (R119). -/
def pagePrecedes (p q : PageRecord) : Bool :=
  p.cls.order < q.cls.order
    || (p.cls.order = q.cls.order && (p.rank < q.rank || (p.rank = q.rank && p.arrival < q.arrival)))

/-- The page is OPENING or LIVE (R105). -/
def PageRecord.started (p : PageRecord) : Bool := p.state = .opening || p.state = .live

/-- The page's class ignores the exclusion range (R120). -/
def PageClass.ignoresRange (c : PageClass) : Bool := c = .urgent || c = .emergency

/-- The pages that satisfy a condition, in precedence order (R119). -/
def State.pagesInOrder (s : State) (p : PageRecord → Bool) : List PageRecord := sortBy pagePrecedes (s.pages.filter p)

/-- The page that owns a zone state (R113). -/
def ZoneState.owner : ZoneState → Option Nat
  | .idle => none
  | .opening p => some p
  | .live p => some p
  | .closing p _ => some p

/-- The page that has the zone reserved (R113). -/
def ZoneState.reservation : ZoneState → Option Nat
  | .idle => none
  | .opening _ => none
  | .live _ => none
  | .closing _ r => r

/-- OPENING or LIVE for the page (R105). -/
def ZoneState.sounds (p : Nat) : ZoneState → Bool
  | .idle => false
  | .opening q => q = p
  | .live q => q = p
  | .closing _ _ => false

/-- The zones whose state satisfies a condition, in ascending order. -/
def State.zonesWith (s : State) (p : ZoneState → Bool) : List Nat := (List.range 64).filter fun z => p (s.zone z).state

/-- The page owns some zone (R113). -/
def State.ownsZone (s : State) (p : Nat) : Bool := !(s.zonesWith fun st => st.owner = some p).isEmpty

/-- A started page holds something: a zone OPENING or LIVE, or a reservation (R105). -/
def State.holdsSomething (s : State) (p : Nat) : Bool :=
  !(s.zonesWith fun st => st.sounds p || st.reservation = some p).isEmpty

/-- The holder of a channel (R117). -/
def State.holder (s : State) (ch : Nat) : Option PageRecord := s.pages.find? fun p => p.channel = some ch

/-- The zone is OPENING or LIVE for an EMERGENCY page (R68, R132). -/
def State.emergencyCovers (s : State) (z : Nat) : Bool :=
  match (s.zone z).state with
  | .idle => false
  | .opening p => ((s.page? p).map fun r => decide (r.cls = .emergency)).getD false
  | .live p => ((s.page? p).map fun r => decide (r.cls = .emergency)).getD false
  | .closing _ _ => false

/-! ## Zone transitions (R113, R114, R138) -/

/-- The zone's owner is an EMERGENCY page. -/
def State.emergencyOwned (s : State) (z : Nat) : Bool :=
  (((s.zone z).state.owner.bind s.page?).map fun p => decide (p.cls = .emergency)).getD false

/-- A zone takes a new state with its timers, and its commanded state is handed over (R113, R138). -/
def putZone (z : Nat) (pz : PageZone) (c : Commanded) (s : State) : State :=
  let before := s.emergencyOwned z
  let s := s.modZone z fun _ => pz
  handOver z c (before || s.emergencyOwned z) s

/-- The zone goes IDLE; any reservation and timer is gone (R114; for the page that reserved it, log entry 22). -/
def zoneToIdle (z : Nat) (s : State) : State := putZone z PageZone.atReset .idle s

/-- The zone goes to CLOSING for its page, with the hang time (R114). -/
def zoneToClosing (z p : Nat) (s : State) : State :=
  putZone z { state := .closing p none, chimeDue := none, hangDue := some (s.after s.paging.hangTime) }
    { (s.amp z).commanded with gain := 255, ramp := s.paging.hangTime, chime := false } s

/-- The zone enters OPENING for a page, with a gain code computed for it and the chime time (R113, R114, R154). -/
def zoneToOpening (z : Nat) (p : PageRecord) (s : State) : State :=
  let code := s.gainCode z p.cls
  let s := noteLimited z p.cls s
  let chime := s.paging.chime.of p.cls
  putZone z { state := .opening p.id, chimeDue := some (s.after chime), hangDue := none }
    { channel := p.channel.getD 7, gain := code, ramp := chime, chime := true } s

/-- A directive PAGE-STATE (R107). -/
def pageState (p : Nat) (st : PageReport) (reason : Option EndReason) (s : State) : State :=
  direct (.pageState p st reason) s

/-- PAGE-AUDIO on, unless the evacuation player feeds EC (R115, R118). -/
def audioOn (p : PageRecord) (s : State) : State :=
  let silent := (match p.source with
    | .alarm _ => true
    | .ext _ => false
    | .prompt _ => false) && p.channel = some 6
  if silent then s
  else
    (direct (.pageAudio p.id (p.channel.getD 7) p.source true) s).modPage p.id fun r => { r with audioSent := true }

/-- The page gives up its channel, with PAGE-AUDIO off when its audio was sent (R118). -/
def giveUpChannel (p : Nat) (s : State) : State :=
  match s.page? p with
  | none => s
  | some r =>
    let s := if r.audioSent then direct (.pageAudio p (r.channel.getD 7) r.source false) s else s
    s.modPage p fun r => { r with channel := none, audioSent := false }

/-- The page's first LIVE zone of its current start makes it LIVE (R115). -/
def pageGoesLive (p : Nat) (s : State) : State :=
  match s.page? p with
  | none => s
  | some r =>
    if r.state = .opening then
      let s := audioOn r (s.modPage p fun r => { r with state := .live })
      let s := pageState p .live none s
      if !r.durationStarted && r.maxDuration ≠ 0 then
        s.modPage p fun q => { q with durationStarted := true, durationDue := some (s.after r.maxDuration) }
      else s
    else s

/-- A zone in OPENING goes LIVE (R115). -/
def zoneToLive (z : Nat) (s : State) : State :=
  match (s.zone z).state with
  | .idle => s
  | .live _ => s
  | .closing _ _ => s
  | .opening p =>
    pageGoesLive p
      (putZone z { state := .live p, chimeDue := none, hangDue := none }
        { (s.amp z).commanded with ramp := 0, chime := false } s)

/-- With a chime time of 0 the zone reaches LIVE in the event that opened it (R114). -/
def liveAtOnce (z : Nat) (cls : PageClass) (s : State) : State :=
  if s.paging.chime.of cls = 0 then zoneToLive z s else s

/-! ## Page ends, as far as they need no scheduling pass (R128, R129) -/

/-- The end of a page is reported to its requester (R67, R92, R129, R160). -/
def reportEnd (p : PageRecord) (s : State) : State :=
  match p.requester with
  | .host => s
  | .hunt g =>
    s.modGroup g fun r =>
      if r.liveAutoPage = some p.id then { r with liveAutoPage := none, rearm := s.now + r.autoThreshold } else r
  | .orbit o => s.modOrbit o fun r => if r.announcePage = some p.id then { r with announcePage := none } else r
  | .alarm i => s.modInput i fun r => if r.page = some p.id then { r with page := none } else r

/-- A page's end takes effect: the PAGE-END record and the report to the requester (R129, R133). -/
def pageEnds (p : Nat) (reason : EndReason) (s : State) : State :=
  match s.page? p with
  | none => s
  | some r => reportEnd r (offerRecord (r.traceRecord .pageEnd reason.traceCode) s)

/-- Every reservation the page holds is dropped (R123, R128). -/
def dropReservations (p : Nat) (s : State) : State :=
  (s.zonesWith fun st => st.reservation = some p).foldl (fun s z =>
    s.modZone z fun pz =>
      match pz.state with
      | .idle => pz
      | .opening _ => pz
      | .live _ => pz
      | .closing q _ => { pz with state := .closing q none }) s

/-- The page's zones go IDLE at once and its reservations are dropped (R123). -/
def releaseAtOnce (p : Nat) (s : State) : State :=
  dropReservations p ((s.zonesWith fun st => st.owner = some p).foldl (fun s z => zoneToIdle z s) s)

/-- A page without its channel is suspended; `due` is its suspension timer (R123, R124). -/
def suspendPage (p : Nat) (due : Option Nat) (s : State) : State :=
  let s := giveUpChannel p (releaseAtOnce p s)
  let s := s.modPage p fun r => { r with state := .suspended, suspensionDue := due }
  let s := pageState p .suspended (some .preempted) s
  match s.page? p with
  | none => s
  | some r => offerRecord (r.traceRecord .pageSuspend 0) s

/-- A page ends by preemption (R123). -/
def preemptPage (p : Nat) (s : State) : State :=
  let s := giveUpChannel p (releaseAtOnce p s)
  let s := pageState p .freed (some .preempted) s
  (pageEnds p .preempted s).dropPage p

/-- A victim is suspended, or ends by preemption (R123, R124). -/
def handleVictim (p : Nat) (s : State) : State :=
  match s.page? p with
  | none => s
  | some r =>
    let limit := s.paging.suspensionLimit
    if r.cls = .emergency then
      suspendPage p (if r.alarm.isSome || limit = 0 then none else some (s.after limit)) s
    else if r.suspendAllowed && (r.cls = .background || r.alarm.isSome || limit ≠ 0) then
      suspendPage p (if r.cls = .background || r.alarm.isSome then none else some (s.after limit)) s
    else preemptPage p s

/-! ## The scheduling pass (R119 to R122, R126) -/

/-- The conditions of R120 on the zone alone: installed, not faulted, not excluded. -/
def State.usableBase (s : State) (p : PageRecord) (z : Nat) : Bool :=
  s.installed z && ((s.amp z).fault.isNone || p.cls = .emergency)
    && (p.cls.ignoresRange || !s.map.activeRange.excludes z)

/-- The page an id names is outranked by `p`. -/
def State.outranked (s : State) (p : PageRecord) (q : Nat) : Bool := ((s.page? q).map (outranks p)).getD false

/-- A zone of the target is usable for a candidate (R120). -/
def State.usable (s : State) (p : PageRecord) (z : Nat) : Bool :=
  s.usableBase p z && (match (s.zone z).state with
    | .idle => true
    | .opening q => s.outranked p q
    | .live q => s.outranked p q
    | .closing _ none => true
    | .closing _ (some q) => s.outranked p q)

/-- The lowest-numbered free general channel (R117). -/
def State.freeChannel (s : State) : Option Nat := (List.range 6).find? fun ch => (s.holder ch).isNone

/-- The holder that gives up a general channel: lowest class, then latest arrival (R121). -/
def State.expendable (s : State) : Option PageRecord :=
  firstBest (fun p q => q.cls.order < p.cls.order || (p.cls.order = q.cls.order && q.arrival < p.arrival))
    ((List.range 6).filterMap s.holder)

/-- The channel a candidate can obtain, with the holder that gives it up (R121). -/
def State.channelFor (s : State) (p : PageRecord) : Option (Nat × Option Nat) :=
  match p.cls with
  | .emergency =>
    match s.holder 6 with
    | none => some (6, none)
    | some q => if outranks p q then some (6, some q.id) else none
  | .urgent | .normal =>
    match s.freeChannel with
    | some ch => some (ch, none)
    | none =>
      match s.expendable with
      | none => none
      | some q => if p.cls.order < q.cls.order then q.channel.map fun ch => (ch, some q.id) else none
  | .background => s.freeChannel.map fun ch => (ch, none)

/-- The candidate can start (R122); no page starts with an empty target (R105). -/
def State.canStart (s : State) (p : PageRecord) : Bool :=
  let zs := zonesOf p.target
  (s.channelFor p).isSome && !zs.isEmpty
    && (match p.mode with
      | .allOrWait => zs.all (s.usable p)
      | .partially => zs.any (s.usable p))

/-- A starting page takes one usable zone; the pages that lose it or its reservation are added to `lost` (R122). -/
def takeZone (p : PageRecord) (acc : State × List Nat) (z : Nat) : State × List Nat :=
  let s := acc.1
  match (s.zone z).state with
  | .idle => (zoneToOpening z p s, acc.2)
  | .opening q => (zoneToOpening z p s, acc.2 ++ [q])
  | .live q => (zoneToOpening z p s, acc.2 ++ [q])
  | .closing q none => (s.modZone z fun pz => { pz with state := .closing q (some p.id) }, acc.2)
  | .closing q (some r) => (s.modZone z fun pz => { pz with state := .closing q (some p.id) }, acc.2 ++ [r])

/-- The list without its later repeats. -/
def withoutRepeats : List Nat → List Nat
  | [] => []
  | x :: xs => x :: (withoutRepeats xs).filter (· != x)

/-- A candidate starts, or resumes (R122, R126). The victims are fixed before any of them is handled. MODEL'S CHOICE: a
started page, the starter too, whose last reservation goes in step 3 because a victim's CLOSING zone goes IDLE is no
victim: it keeps its channel and stays as it is, holding nothing, until a cause of R128 ends it (log entry 22). -/
def startPage (p : Nat) (s : State) : State :=
  match s.page? p with
  | none => s
  | some r =>
    match s.channelFor r with
    | none => s
    | some (ch, loser) =>
      let zs := (zonesOf r.target).filter (s.usable r)
      let s := s.modPage p fun r => { r with channel := some ch }
      let taken := zs.foldl (takeZone { r with channel := some ch }) (s, loser.toList)
      let s := taken.1
      let lost := withoutRepeats taken.2
      let victims := lost.filter fun q => loser = some q || !s.holdsSomething q
      let s := victims.foldl (fun s q => handleVictim q s) s
      let s := s.modPage p fun r => { r with state := .opening, suspensionDue := none }
      let s := pageState p .opening none s
      let s := offerPageStart r (r.state = .suspended) s
      (zs.filter fun z => (s.zone z).state = .opening p).foldl (fun s z => liveAtOnce z r.cls s) s

/-- The QUEUED and SUSPENDED pages in the order of the walk (R119). -/
def State.candidates (s : State) : List PageRecord :=
  s.pagesInOrder fun p => p.state = .queued || p.state = .suspended

/-- The scheduling pass: after any start the walk begins again (R119). Each start of a pass has a later place in the
order than the one before, so the number of walks allowed is never reached (log entry 6). -/
def passWalks : Nat → State → State
  | 0, s => s
  | n + 1, s =>
    match s.candidates.find? s.canStart with
    | none => s
    | some p => passWalks n (startPage p.id s)

/-- The late joins made after a pass (R127). -/
def lateJoins (s : State) : State :=
  (List.range 64).foldl (fun s z =>
    if (s.zone z).state = .idle then
      match (s.pagesInOrder fun p => p.state = .live && p.mode = .partially && zoneIn p.target z
          && s.usableBase p z).head? with
      | none => s
      | some p => liveAtOnce z p.cls (zoneToOpening z p s)
    else s) s

/-- The coverage signals reach the Hunt Engine (R68, R132). The servicing of the groups they release is left to the
event, which makes its changes under `releasingHolds`, since it follows every frame of the scheduler (R132). -/
def signalCoverage (s : State) : State := { s with covered := zonesWhere s.emergencyCovers }

/-- A scheduling pass, its late joins, and the coverage signals (R119, R127, R132). -/
def schedule (s : State) : State := signalCoverage (lateJoins (passWalks 1024 s))

/-! ## Admission (R106, R110, R111) -/

/-- The next page id above the last one, skipping every id held by a record (R106). -/
def State.nextPageId (s : State) : Nat :=
  let ids := (List.range 255).map fun k => (s.lastPageId + k) % 255 + 1
  (ids.find? fun i => (s.page? i).isNone).getD 1

/-- The general records in use (R104). -/
def State.generalPages (s : State) : Nat := (s.pages.filter fun p => p.alarm.isNone).length

/-- A page request (R110, R111). -/
structure PageRequest where
  cls : PageClass
  source : PageSource
  requester : Requester
  /-- the alarm record it uses; none for a general record -/
  alarm : Option Nat
  zones : ZoneSet
  mode : PageMode
  suspendAllowed : Bool
  maxDuration : Nat
deriving DecidableEq, Repr

/-- The target a request forms: uninstalled zones are dropped, and excluded ones for NORMAL and BACKGROUND (R111). -/
def State.targetOf (s : State) (cls : PageClass) (zones : ZoneSet) : ZoneSet :=
  zonesWhere fun z => zoneIn zones z && s.installed z && (cls.ignoresRange || !s.map.activeRange.excludes z)

/-- Why a request is refused, if it is (R111). -/
def State.admissionRefusal (s : State) (q : PageRequest) : Option Reason :=
  if s.targetOf q.cls q.zones = 0 then some .allExcluded
  else if q.alarm.isNone && Config.generalRecords ≤ s.generalPages then some .tableFull
  else none

/-- The page id is returned to a requester inside the part (R111). -/
def linkRequester (q : Requester) (p : Nat) (s : State) : State :=
  match q with
  | .host => s
  | .hunt g => s.modGroup g fun r => { r with liveAutoPage := some p }
  | .orbit o => s.modOrbit o fun r => { r with announcePage := some p }
  | .alarm i => s.modInput i fun r => { r with page := some p }

/-- An admissible request becomes a QUEUED page, and a scheduling pass is run (R111). -/
def admitPage (q : PageRequest) (s : State) : State :=
  let id := s.nextPageId
  let page : PageRecord :=
    { id := id, alarm := q.alarm, cls := q.cls, source := q.source, requester := q.requester
      target := s.targetOf q.cls q.zones, mode := q.mode, suspendAllowed := q.suspendAllowed
      maxDuration := q.maxDuration, arrival := s.nextArrival, state := .queued, channel := none, audioSent := false
      durationStarted := false, durationDue := none, suspensionDue := none, endReason := none }
  let s := { s with pages := s.pages ++ [page], lastPageId := id, nextArrival := s.nextArrival + 1 }
  schedule (pageState id .queued none (linkRequester q.requester id s))

/-- A request of a block: admitted, or refused with nothing placed (R111). -/
def requestPage (q : PageRequest) (s : State) : State :=
  match s.admissionRefusal q with
  | some _ => s
  | none => admitPage q s

/-! ## Alarm pages (R159) and the freeing of records -/

/-- The page that stands in an alarm record (R104). -/
def State.alarmPage (s : State) (i : Nat) : Option PageRecord := s.pages.find? fun p => p.alarm = some i

/-- The request for an input's alarm page (R159). -/
def alarmRequest (i : Nat) (r : AlarmInput) : PageRequest :=
  let evacuate := r.latchedMode = .evacuate
  { cls := if evacuate then .emergency else .urgent
    source := if evacuate then .alarm i else .prompt (Config.alertPrompt + i)
    requester := .alarm i, alarm := some i, zones := r.latchedSet, mode := .partially, suspendAllowed := true
    maxDuration := 0 }

/-- An input's alarm page is placed, or its placement waits for the record (R159). -/
def placeAlarmPage (i : Nat) (s : State) : State :=
  match s.alarmPage i with
  | some _ => s.modInput i fun r => { r with placementPending := true }
  | none => requestPage (alarmRequest i (s.input i)) s

/-- The freeing of an alarm record's page is reported to the Alarm and Map Unit (R129, R159). -/
def alarmRecordFreed (i : Nat) (s : State) : State :=
  if (s.input i).placementPending then placeAlarmPage i (s.modInput i fun r => { r with placementPending := false })
  else s

/-- The record is emptied with PAGE-STATE FREED (R107, R116). -/
def freePage (p : Nat) (reason : Option EndReason) (s : State) : State :=
  (pageState p .freed reason s).dropPage p

/-- The freeing of a page, by its record as it was, is reported when it stood in an alarm record (R129). -/
def reportFreed (r : PageRecord) (s : State) : State :=
  match r.alarm with
  | none => s
  | some i => alarmRecordFreed i s

/-- A CLOSING page that owns no zone is freed (R107, R116, R128, R131). -/
def freeIfDone (p : Nat) (s : State) : State :=
  match s.page? p with
  | none => s
  | some r => if r.state = .closing && !s.ownsZone p then reportFreed r (freePage p r.endReason s) else s

/-- Zones just sent to CLOSING leave it in the same event when the hang time is 0 (R128). -/
def skipHang (zs : List Nat) (s : State) : State :=
  if s.paging.hangTime = 0 then zs.foldl (fun s z => zoneToIdle z s) s else s

/-- A started page closes (R128). -/
def closePage (p : Nat) (reason : EndReason) (s : State) : State :=
  let zs := s.zonesWith (ZoneState.sounds p)
  let s := zs.foldl (fun s z => zoneToClosing z p s) s
  let s := giveUpChannel p (dropReservations p s)
  let s := s.modPage p fun r => { r with durationDue := none, state := .closing, endReason := some reason }
  let s := pageEnds p reason (pageState p .closing (some reason) s)
  freeIfDone p (skipHang zs s)

/-- A QUEUED or SUSPENDED page is removed (R129). -/
def removePage (p : Nat) (reason : EndReason) (s : State) : State :=
  match s.page? p with
  | none => s
  | some r => reportFreed r ((pageEnds p reason (pageState p .freed (some reason) s)).dropPage p)

/-- A page ends by a cause other than preemption, without the scheduling pass (R128, R129). -/
def endWithoutPass (p : Nat) (reason : EndReason) (s : State) : State :=
  match s.page? p with
  | none => s
  | some r =>
    match r.state with
    | .queued => removePage p reason s
    | .suspended => removePage p reason s
    | .opening => closePage p reason s
    | .live => closePage p reason s
    | .closing => s

/-- A page ends, and a scheduling pass runs; a CLOSING page is already ending (R112, R128, R129). -/
def endPage (p : Nat) (reason : EndReason) (s : State) : State :=
  match s.page? p with
  | none => s
  | some r => if r.state = .closing then s else schedule (endWithoutPass p reason s)

/-- The pages whose source is an extension end, in precedence order (R10). -/
def endPagesOf (x : Nat) (s : State) : State :=
  (s.pagesInOrder fun p => p.source = .ext x && p.state ≠ .closing).foldl
    (fun s p => endPage p.id .sourceGone s) s

/-! ## The end of a hang (R116) -/

/-- The reserving page that a zone opens for at the end of its hang (R116). -/
def State.opensFor (s : State) (z : Nat) (reservation : Option Nat) : Option PageRecord :=
  match reservation.bind s.page? with
  | none => none
  | some p => if p.started && s.usableBase p z then some p else none

/-- A zone's hang ends (R116). MODEL'S CHOICE: with a chime time of 0 the reserving page's PAGE-AUDIO and PAGE-STATE (LIVE)
precede PAGE-STATE (FREED) of the page that owned the zone (log entry 32). -/
def endHang (z : Nat) (s : State) : State :=
  match (s.zone z).state with
  | .idle => s
  | .opening _ => s
  | .live _ => s
  | .closing q r =>
    match s.opensFor z r with
    | some p => signalCoverage (freeIfDone q (liveAtOnce z p.cls (zoneToOpening z p s)))
    | none => schedule (freeIfDone q (zoneToIdle z s))

/-! ## Changes of the exclusion range and of the installed set (R130, R131) -/

/-- One started page meets a new exclusion range (R130). -/
def excludeStarted (p : Nat) (s : State) : State :=
  let out := (s.zonesWith (ZoneState.sounds p)).filter s.map.activeRange.excludes
  let s := out.foldl (fun s z => zoneToClosing z p s) s
  let s := ((s.zonesWith fun st => st.reservation = some p).filter s.map.activeRange.excludes).foldl (fun s z =>
    s.modZone z fun pz => { pz with state := match pz.state.owner with
      | none => .idle
      | some q => .closing q none }) s
  let s := skipHang out s
  if s.holdsSomething p then s else closePage p .allExcluded s

/-- One waiting page meets a new exclusion range (R130). -/
def excludeWaiting (p : Nat) (s : State) : State :=
  let range := s.map.activeRange
  let s := s.modPage p fun r => { r with target := zonesWhere fun z => zoneIn r.target z && !range.excludes z }
  match s.page? p with
  | none => s
  | some r => if r.target = 0 then removePage p .allExcluded s else s

/-- One page meets a new exclusion range (R130). -/
def excludeFrom (p : Nat) (s : State) : State :=
  match s.page? p with
  | none => s
  | some r =>
    match r.state with
    | .opening => excludeStarted p s
    | .live => excludeStarted p s
    | .queued => excludeWaiting p s
    | .suspended => excludeWaiting p s
    | .closing => s

/-- The Page Scheduler applies the active exclusion range to the NORMAL and BACKGROUND pages (R130). -/
def applyExclusion (s : State) : State :=
  schedule ((s.pagesInOrder fun p => !p.cls.ignoresRange).foldl (fun s p => excludeFrom p.id s) s)

/-- One page meets the loss of zones from the installed set (R131). -/
def uninstallFrom (p : Nat) (s : State) : State :=
  match s.page? p with
  | none => s
  | some r =>
    match r.state with
    | .opening => if s.holdsSomething p then s else closePage p .uninstalled s
    | .live => if s.holdsSomething p then s else closePage p .uninstalled s
    | .queued => if r.target = 0 then removePage p .uninstalled s else s
    | .suspended => if r.target = 0 then removePage p .uninstalled s else s
    | .closing => freeIfDone p s

/-- The installed set has changed from `old`: zones that left go IDLE and leave every target, the zone link follows
(R146), pages left with nothing end, and a scheduling pass runs (R131). -/
def installedSetChange (old : ZoneSet) (s : State) : State :=
  let gone := (zonesOf old).filter fun z => !s.installed z
  let s := gone.foldl (fun s z => zoneToIdle z s) s
  let s := { s with pages := s.pages.map fun p => { p with target := gone.foldl zoneRemove p.target } }
  let s := zoneLinkSetChange old s
  schedule ((s.pagesInOrder fun _ => true).foldl (fun s p => uninstallFrom p.id s) s)

end Sys2Proof.Machine
end

