-- ==== Sys2Proof/Machine/ExecAlarm.lean ====
section
/-! DEFINITION. The commands of the Alarm and Map Unit: the contacts and their debounce (R157 to R161), the map's
reading, arming, writing and protection (R164 to R169) and the exclusion range (R170, R171). -/

namespace Sys2Proof.Machine

/-! ## The contacts (R157) -/

/-- A contact takes a new level (R157). -/
def AlarmInput.change (r : AlarmInput) (closed : Bool) (now : Nat) : AlarmInput :=
  if closed = r.closed then r
  else { r with closed := closed, debounceDue := if closed = r.active then none else some (now + Config.debounceMs) }

/-- ALARM_LEVEL_CHANGE (R157). -/
def execAlarmLevelChange (input : Nat) (closed : Bool) (s : State) : Host.Outcome State Fault Refusal :=
  .next (whenRunning (fun s => s.modInput input fun r => r.change closed s.clock) s)

/-! ## Activation and clearing (R158 to R161) -/

/-- What the active map says of an input (R158). -/
def State.meaning (s : State) (i : Nat) : InputMeaning := tabGet s.map.copy.inputs i { mode := .unused, zones := 0 }

/-- An input becomes ACTIVE (R158, R161). -/
def activate (i : Nat) (s : State) : State :=
  let m := s.meaning i
  let s := s.modInput i fun r => { r with active := true, latchedMode := m.mode, latchedSet := m.zones }
  let s := notify (.alarmChange i true m.mode) s
  match m.mode with
  | .unused => s
  | .evacuate => releasingHolds (placeAlarmPage i) s
  | .alert => releasingHolds (placeAlarmPage i) s
  | .muster =>
    let s := musterActivation s
    releasingHolds (placeAlarmPage i) (if s.override then s else startOverride s)

/-- Some input is ACTIVE with latched mode MUSTER (R161). -/
def State.musterWanted (s : State) : Bool :=
  (List.range 4).any fun i => (s.input i).active && (s.input i).latchedMode = .muster

/-- An input becomes INACTIVE (R160, R161). -/
def clearAlarm (i : Nat) (s : State) : State :=
  let r := s.input i
  let s := s.modInput i fun r => { r with active := false, placementPending := false }
  let s := notify (.alarmChange i false r.latchedMode) s
  let s := match r.page with
    | none => s
    | some p => (releasingHolds (endPage p .alarmCleared) s).modInput i fun r => { r with page := none }
  if r.latchedMode = .muster && !s.musterWanted then endOverride s else s

/-- The debounced state of an input takes its level (R157). -/
def settle (i : Nat) (s : State) : State :=
  let s := s.modInput i fun r => { r with debounceDue := none }
  if (s.input i).closed then activate i s else clearAlarm i s

/-- DEBOUNCE_EXPIRY (R157). -/
def execDebounceExpiry (input : Nat) (s : State) : Host.Outcome State Fault Refusal :=
  .next (whenRunning (fun s => atExpiry (s.input input).debounceDue (settle input) s) s)

/-! ## MAP-READ and MAP-ARM (R164, R165) -/

/-- The map-write enable line is sampled. -/
def sampleEnable (level : Bool) (s : State) : State := { s with map := { s.map with enableLine := level } }

/-- The fields of a MAP-READ reply (R164). -/
def State.mapReport (s : State) : MapReport :=
  { contents := s.map.copy, status := s.map.status, locked := s.map.locked, rangeHeld := s.map.rangeHeld
    activeRange := s.map.activeRange, enableLine := s.map.enableLine }

/-- MAP-READ, with the level of the enable line as it is handled (R164). -/
def mapRead (level : Bool) (_ : Unit) (s : State) : State × Answer :=
  let s := sampleEnable level s
  (s, .okWith (.map s.mapReport))

/-- MAP_READ (R164). -/
def execMapRead (enableLine : Bool) (tag : Byte) (payload : List Byte) (s : State) : Host.Outcome State Fault Refusal :=
  .next (takeKind 0x1D tag payload readNothing (mapRead enableLine) s)

/-- MAP-ARM; the latch is set by what follows every request (R165). -/
def mapArm (_ : Unit) (s : State) : State × Answer := (s, if s.map.writing.isSome then .busy else .ok)

/-- MAP_ARM (R165). -/
def execMapArm (tag : Byte) (payload : List Byte) (s : State) : Host.Outcome State Fault Refusal :=
  .next (takeKind 0x1A tag payload readNothing mapArm s)

/-! ## MAP-WRITE and MAP-PROTECT (R166 to R168) -/

/-- The first five checks of R166; none when they pass. -/
def State.mapCheck (s : State) : Option Answer :=
  if s.map.writing.isSome then some .busy
  else if !s.map.armed then some (.refused .notArmed)
  else if s.map.copy.protection = .permanent then some (.refused .protectedMap)
  else if s.map.locked then some (.refused .protectedMap)
  else if s.map.copy.protection = .line && !s.map.enableLine then some (.refused .protectedMap)
  else none

/-- A write starts (R168). -/
def startWrite (m : EmergencyMap) (byMapWrite : Bool) (s : State) : State :=
  { s with map := { s.map with
      writing := some { contents := m, byMapWrite := byMapWrite, due := s.clock + Config.mapWriteMs }
      status := .writing } }

/-- An input's meaning, read from a MAP-WRITE (R166). -/
def MapInputOp.meaning (o : MapInputOp) : Option InputMeaning :=
  (readAlarmMode o.mode).map fun m => { mode := m, zones := o.zones }

/-- The contents that a MAP-WRITE carries, clamped as they are taken; none when a check of R166 fails. -/
def MapWriteOp.contents (o : MapWriteOp) : Option EmergencyMap :=
  match o.inputs.mapM MapInputOp.meaning, readProtection o.protection with
  | some inputs, some mode =>
    if 63 < o.lower || 63 < o.upper || o.upper < o.lower then none
    else
      some
        { installed := o.installed
          sensitivity := tabBuild 64 fun z => 140 + clamp 0 90 (o.sensitivity.getD z 0)
          inputs := tabBuild 4 fun i => inputs.getD i { mode := .unused, zones := 0 }
          ceiling := 160 + clamp 0 90 o.ceiling
          range := { enabled := o.enabled ≠ 0, lower := o.lower, upper := o.upper, invert := o.invert ≠ 0 }
          protection := mode }
  | _, _ => none

/-- MAP-WRITE, with the enable line sampled at the check (R166). -/
def mapWrite (level : Bool) (o : MapWriteOp) (s : State) : State × Answer :=
  let s := sampleEnable level s
  match s.mapCheck with
  | some a => (s, a)
  | none =>
    match o.contents with
    | none => (s, .refused .outOfRange)
    | some m => (startWrite m true s, .pending)

/-- MAP_WRITE (R166). -/
def execMapWrite (enableLine : Bool) (tag : Byte) (payload : List Byte) (s : State) :
    Host.Outcome State Fault Refusal :=
  .next (takeKind 0x1B tag payload MapWriteOp.read (mapWrite enableLine) s)

/-- MAP-PROTECT; its actions are OPEN, LINE, PERMANENT and LOCK-UNTIL-RESET (R166, R167). -/
def mapProtect (level : Bool) (action : Nat) (s : State) : State × Answer :=
  let s := sampleEnable level s
  match s.mapCheck with
  | some a => (s, a)
  | none =>
    match readProtection action with
    | some mode => (startWrite { s.map.copy with protection := mode } false s, .pending)
    | none =>
      if action = 3 then ({ s with map := { s.map with locked := true } }, .ok) else (s, .refused .outOfRange)

/-- MAP_PROTECT (R166). -/
def execMapProtect (enableLine : Bool) (tag : Byte) (payload : List Byte) (s : State) :
    Host.Outcome State Fault Refusal :=
  .next (takeKind 0x1C tag payload readNumber1 (mapProtect enableLine) s)

/-! ## The completion of a write (R169) -/

/-- A write that verified (R169). -/
def verified (w : MapWriting) (s : State) : State :=
  let old := s.map.copy.installed
  let s := { s with map := { s.map with
    store := .copy w.contents (crc16 w.contents.bytes), copy := w.contents, status := .valid, writing := none } }
  let s := notify (.mapDone true) s
  startExchange (releasingHolds (fun s =>
    let s := if old = w.contents.installed then s else installedSetChange old s
    if w.byMapWrite && !s.map.rangeHeld then
      applyExclusion { s with map := { s.map with activeRange := w.contents.range } }
    else s) s)

/-- A write that failed to verify (R169). -/
def unverified (s : State) : State :=
  notify (.mapDone false) { s with map := { s.map with store := .damaged, status := .storeInvalid, writing := none } }

/-- MAP_WRITE_COMPLETE; whether the store reads back as written is the store's (R169). -/
def execMapWriteComplete (verifies : Bool) (s : State) : Host.Outcome State Fault Refusal :=
  .next (whenRunning (fun s =>
    match s.map.writing with
    | none => s
    | some w => atExpiry (some w.due) (fun s => if verifies then verified w s else unverified s) s) s)

/-! ## The exclusion range (R170, R171) -/

/-- EXCLUDE-SET (R170). -/
def excludeSet (o : ExcludeSetOp) (s : State) : State × Answer :=
  if s.map.writing.isSome then (s, .busy)
  else if s.map.rangeHeld then (s, .refused .held)
  else
    match readFlag o.enabled, readFlag o.invert with
    | some enabled, some invert =>
      if 63 < o.lower || 63 < o.upper || o.upper < o.lower then (s, .refused .outOfRange)
      else
        let range : ExclusionRange := { enabled := enabled, lower := o.lower, upper := o.upper, invert := invert }
        (releasingHolds applyExclusion { s with map := { s.map with activeRange := range } }, .ok)
    | _, _ => (s, .refused .outOfRange)

/-- EXCLUDE_SET (R170). -/
def execExcludeSet (tag : Byte) (payload : List Byte) (s : State) : Host.Outcome State Fault Refusal :=
  .next (takeKind 0x18 tag payload ExcludeSetOp.read excludeSet s)

/-- RANGE-HOLD (R171). -/
def rangeHold (_ : Unit) (s : State) : State × Answer :=
  if s.map.writing.isSome then (s, .busy) else ({ s with map := { s.map with rangeHeld := true } }, .ok)

/-- RANGE_HOLD (R171). -/
def execRangeHold (tag : Byte) (payload : List Byte) (s : State) : Host.Outcome State Fault Refusal :=
  .next (takeKind 0x19 tag payload readNothing rangeHold s)

end Sys2Proof.Machine
end

