-- ==== Sys2Proof/Machine/Orbits.lean ====
section
/-! DEFINITION. The Orbit Table: release, recall and the announcement's request (R89 to R97). -/

namespace Sys2Proof.Machine

/-- An announcement that is still QUEUED or SUSPENDED is removed; one that has started continues (R93). -/
def removeAnnouncement (page : Option Nat) (s : State) : State :=
  match page with
  | none => s
  | some i =>
    match s.page? i with
    | none => s
    | some p => if p.state = .queued || p.state = .suspended then endPage i .released s else s

/-- The release of an orbit (R93). -/
def releaseOrbit (o : Nat) (s : State) : State :=
  let r := s.orbit o
  let s := s.modOrbit o fun r => { r with parkDue := none, recallDue := none }
  let s := removeAnnouncement r.announcePage s
  let s := s.modOrbit o fun r => { r with announcePage := none, state := .free, call := none, parker := none }
  match r.call with
  | none => s
  | some c => s.modCall c fun k => { k with orbit := none }

/-- A call released from an orbit is recalled into the orbit's recall group, or diverted (R95). -/
def recallToGroup (o c : Nat) (s : State) : State :=
  match s.call? c with
  | none => s
  | some k =>
    let divert (g : Option Nat) (s : State) : State :=
      let s := direct (.divert c s.fallback) s
      let s := offerRecord { TraceRecord.offered .divert k.priority with
        call := some c, group := g, orbit := some o, detail := k.depth } s
      s.freeCall c
    match (s.orbit o).recallGroup with
    | none => divert none s
    | some g =>
      if !(s.group g).configured || !s.hasRoom g then divert (some g) s
      else
        let priority := min (k.priority + 1) 3
        let s := s.modCall c fun k => { k with kind := .recalled, priority := priority }
        let s := offerRecord { TraceRecord.offered .recall priority with
          call := some c, group := some g, orbit := some o } s
        enterGroup g c s

/-- A recall ring that ended without a connection: the orbit is released and its call recalled into the group
(R94, R96, R97). -/
def sendToRecallGroup (o : Nat) (s : State) : State :=
  match (s.orbit o).call with
  | none => s
  | some c => recallToGroup o c (releaseOrbit o s)

/-- The request for a park's announcement (R92). -/
def announcementRequest (o parker : Nat) (zones : ZoneSet) : PageRequest :=
  { cls := .normal, source := .ext parker, requester := .orbit o, alarm := none, zones := zones, mode := .partially
    suspendAllowed := true, maxDuration := 100 }

end Sys2Proof.Machine
end

