-- ==== Sys2Proof/Machine/Connect.lean ====
section
/-! DEFINITION. The connect rule (R16, R17) and the handling of a ring that ends with or without its call
(R8, R18, R65, R100). -/

namespace Sys2Proof.Machine

/-- Why a call is connected (R16). -/
inductive ConnectCause where
  | answer | pickup | retrieve
deriving DecidableEq, Repr

/-- The STOP-RING reason of a connection (R16, step 1). -/
def ConnectCause.stopReason : ConnectCause → StopReason
  | .answer => .answeredElsewhere
  | .pickup => .pickedUp
  | .retrieve => .retrieved

/-- Step 1 of R16: every mark of the call is cleared; an answerer gets no STOP-RING. -/
def clearForConnect (c x : Nat) (cause : ConnectCause) (xs : List Nat) (s : State) : State :=
  xs.foldl (fun s y =>
    clearMark y c (if cause = .answer && y = x then none else some cause.stopReason) s) s

/-- Steps 2 to 4 of R16: timers stopped, out of the waiting list, CONNECTED. -/
def becomeConnected (c x : Nat) (k : CallContext) (s : State) : State :=
  let s := if k.state = .waiting then leaveList c s else s
  s.modCall c fun r =>
    { r with
      noAnswerDue := none, maxWaitDue := none, state := .connected, connected := some x
      tried := if k.state = .waiting then [] else r.tried
      passCount := if k.state = .waiting then 0 else r.passCount }

/-- Step 6 of R16: the connected extension's membership of the call's group starts its idle clock afresh. -/
def chargeIdleClock (group : Option Nat) (x : Nat) (s : State) : State :=
  match group with
  | none => s
  | some g => s.modMember g x fun m => { m with idleTenths := 0 }

/-- The connect rule, with the record that the asking block offers (R16, R17). MODEL'S CHOICE: the PICKUP or RETRIEVE
record follows the records of the orbit's release, the announcement's PAGE-END and those of its pass among them (log entry
31). -/
def connectCall (c x : Nat) (cause : ConnectCause) (record : Option TraceRecord) (s : State) : State :=
  match s.call? c with
  | none => s
  | some k =>
    let xs := k.ringing
    let s := becomeConnected c x k (clearForConnect c x cause xs s)
    let s := chargeIdleClock k.group x (s.modExt x fun r => { r with line := .inCall })
    let s := if cause = .answer then s else direct (.connect x c) s
    let s := if k.state = .waiting then offersEnded (k.group.getD 64) xs s else s
    let s := match k.orbit with
      | none => s
      | some o => releasingHolds (releaseOrbit o) s
    let s := match record with
      | none => s
      | some r => offerRecord r s
    arbitrateAll xs s

/-- The marks of a WAITING call are cleared with a reason, and the ends of its offers are reported (R32, R50, R59,
R65). -/
def clearOffer (k : CallContext) (reason : StopReason) (s : State) : State :=
  offersEnded (k.group.getD 64) k.ringing (clearMarks k.ringing k.ref reason s)

/-- An ABANDON record (R65, R100). -/
def offerAbandon (k : CallContext) (s : State) : State :=
  offerRecord { TraceRecord.offered .abandon k.priority with
    call := some k.ref, group := k.group, orbit := k.orbit, detail := k.depth } s

/-- A call is ended where it stands by CALL-GONE (R18, R65, R100). MODEL'S CHOICE: the ABANDON record follows the records
of the orbit's release (log entry 31). -/
def endCall (k : CallContext) (s : State) : State :=
  match k.state with
  | .connected => s.freeCall k.ref
  | .ringingDirect => arbitrateAll k.ringing ((clearMarks k.ringing k.ref .callerGone s).freeCall k.ref)
  | .waiting =>
    let s := leaveList k.ref (clearOffer k .callerGone s)
    arbitrateAll k.ringing ((offerAbandon k s).freeCall k.ref)
  | .parked =>
    let s := releasingHolds (releaseOrbit (k.orbit.getD 32)) s
    (offerAbandon k s).freeCall k.ref
  | .recallRinging =>
    let s := clearMarks k.ringing k.ref .callerGone s
    let s := releasingHolds (releaseOrbit (k.orbit.getD 32)) s
    arbitrateAll k.ringing ((offerAbandon k s).freeCall k.ref)

/-- An extension that is no longer IDLE loses its ring (R8). -/
def withdrawRing (x c : Nat) (s : State) : State :=
  match s.call? c with
  | none => clearMark x c (some .withdrawn) s
  | some k =>
    let s := clearMark x c (some .withdrawn) s
    match k.state with
    | .waiting =>
      let g := k.group.getD 64
      let s := offerEnded g x s
      if ((s.call? c).map fun k => k.ringing.isEmpty).getD false then
        advance g c (s.modCall c fun k => { k with noAnswerDue := none })
      else s
    | .recallRinging => sendToRecallGroup (k.orbit.getD 32) s
    | .ringingDirect => s
    | .connected => s
    | .parked => s

end Sys2Proof.Machine
end

