-- ==== Sys2Proof/Machine/ExecLines.lean ====
section
/-! DEFINITION. The commands of the Line Table and the Call Table: LINE_REPORT, DIRECT_RING, CALL_ANSWER, CALL_GONE and
CALL_QUERY (R7 to R19). -/

namespace Sys2Proof.Machine

/-- A newly taken context: empty tried set, no passes, depth 0, rings nothing, timers stopped (R11). -/
def CallContext.fresh (ref : Nat) (kind : CallKind) (state : CallState) (group : Option Nat) (priority now : Nat) :
    CallContext :=
  { ref := ref, kind := kind, state := state, group := group, priority := priority, waitingSince := now, tried := []
    passCount := 0, depth := 0, ringing := [], noAnswerDue := none, maxWaitDue := none, connected := none, orbit := none }

/-- A taken LINE-REPORT: the ring it withdraws, the pages it ends and the arbitration, in the order of R10 (R7 to
R10). -/
def applyLine (x : Nat) (st : LineState) (s : State) : State :=
  let ring := (s.ext x).ringing
  let s := s.modExt x fun r => { r with line := st }
  let s := releasingHolds (fun s =>
    let s := match ring with
      | none => s
      | some c => if st = .idle then s else withdrawRing x c s
    if st = .offhook then s else endPagesOf x s) s
  if st = .idle && ring.isNone then arbitrate x s else s

/-- LINE-REPORT (R7). -/
def lineReport (o : LineReportOp) (s : State) : State × Answer :=
  match readLine o.state with
  | none => (s, .refused .outOfRange)
  | some st => if 1023 < o.ext then (s, .refused .outOfRange) else (applyLine o.ext st s, .ok)

/-- LINE_REPORT (R7). -/
def execLineReport (tag : Byte) (payload : List Byte) (s : State) : Host.Outcome State Fault Refusal :=
  .next (takeKind 0x01 tag payload LineReportOp.read lineReport s)

/-- DIRECT-RING (R14). -/
def directRing (o : DirectRingOp) (s : State) : State × Answer :=
  let priority := o.priority.getD 0
  if badRef o.call || 1023 < o.ext || 3 < priority then (s, .refused .outOfRange)
  else if (s.call? o.call).isSome then (s, .refused .duplicate)
  else if (s.ext o.ext).line ≠ .idle || (s.ext o.ext).ringing.isSome then (s, .refused .wrongState)
  else if Config.callContexts ≤ s.calls.length then (s, .refused .tableFull)
  else
    (placeMark o.ext o.call .direct
      (s.addCall (CallContext.fresh o.call .direct .ringingDirect none priority s.now)), .ok)

/-- DIRECT_RING (R14). -/
def execDirectRing (tag : Byte) (payload : List Byte) (s : State) : Host.Outcome State Fault Refusal :=
  .next (takeKind 0x03 tag payload DirectRingOp.read directRing s)

/-- The ANSWER record, for a WAITING call alone (R17). -/
def answerRecord (k : CallContext) (x : Nat) : Option TraceRecord :=
  if k.state = .waiting then
    some { TraceRecord.offered .answer k.priority with call := some k.ref, group := k.group, ext := some x }
  else none

/-- CALL-ANSWER (R15). -/
def callAnswer (o : CallAnswerOp) (s : State) : State × Answer :=
  if badRef o.call || 1023 < o.ext then (s, .refused .outOfRange)
  else
    match s.call? o.call with
    | none => (s, .refused .noSuchCall)
    | some k =>
      if (s.ext o.ext).ringing ≠ some o.call then (s, .refused .tooLate)
      else (connectCall o.call o.ext .answer (answerRecord k o.ext) s, .ok)

/-- CALL_ANSWER (R15). -/
def execCallAnswer (tag : Byte) (payload : List Byte) (s : State) : Host.Outcome State Fault Refusal :=
  .next (takeKind 0x04 tag payload CallAnswerOp.read callAnswer s)

/-- CALL-GONE (R18). -/
def callGone (c : Nat) (s : State) : State × Answer :=
  if badRef c then (s, .refused .outOfRange)
  else
    match s.call? c with
    | none => (s, .refused .noSuchCall)
    | some k => (endCall k s, .ok)

/-- CALL_GONE (R18). -/
def execCallGone (tag : Byte) (payload : List Byte) (s : State) : Host.Outcome State Fault Refusal :=
  .next (takeKind 0x05 tag payload readNumber2 callGone s)

/-- The state value that CALL-QUERY reports (R19). -/
def CallContext.queriedState (k : CallContext) : QueriedState :=
  match k.state with
  | .waiting => if k.ringing.isEmpty then .waitingQueued else .waitingRinging
  | .ringingDirect => .ringingDirect
  | .recallRinging => .recallRinging
  | .connected => .connected
  | .parked => .parked

/-- The fields of a CALL-QUERY reply (R19). -/
def State.callReport (s : State) (k : CallContext) : CallReport :=
  { ref := k.ref, kind := k.kind, state := k.queriedState, group := k.group, priority := k.priority
    waited := min (s.now - k.waitingSince) 65535, passCount := k.passCount, depth := k.depth
    noAnswerLeft := s.unitsLeft k.noAnswerDue, maxWaitLeft := s.unitsLeft k.maxWaitDue, connected := k.connected
    orbit := k.orbit, ringing := k.ringing, tried := k.tried }

/-- CALL-QUERY (R19). -/
def callQuery (c : Nat) (s : State) : State × Answer :=
  if badRef c then (s, .refused .outOfRange)
  else
    match s.call? c with
    | none => (s, .refused .noSuchCall)
    | some k => (s, .okWith (.call (s.callReport k)))

/-- CALL_QUERY (R19). -/
def execCallQuery (tag : Byte) (payload : List Byte) (s : State) : Host.Outcome State Fault Refusal :=
  .next (takeKind 0x21 tag payload readNumber2 callQuery s)

end Sys2Proof.Machine
end

