-- ==== Sys2Proof/Machine/ExecHunt.lean ====
section
/-! DEFINITION. The commands of the Hunt Engine: CALL_ARRIVE, NO_ANSWER_EXPIRY, MAXIMUM_WAIT_EXPIRY, FALLBACK_SET and
AUTO_PAGE_DUE (R40 to R67). -/

namespace Sys2Proof.Machine

/-! ## CALL-ARRIVE (R40, R41) -/

/-- Where a taken arrival goes (R41). -/
def placeArrival (c g : Nat) (s : State) : State :=
  if !(s.group g).configured then divertCall c s.fallback g [] s
  else if s.hasRoom g then enterGroup g c s
  else overflowFrom g c s

/-- The disposition of an arrival that has been handled in full (R40). -/
def State.arrivalReply (s : State) (c : Nat) : ReplyBody :=
  match s.call? c with
  | none => .arrival .diverted none
  | some k => .arrival (if k.ringing.isEmpty then .waiting else .offered) k.group

/-- CALL-ARRIVE (R40). -/
def callArrive (o : CallArriveOp) (s : State) : State × Answer :=
  if badRef o.call || 63 < o.group || 3 < o.priority then (s, .refused .outOfRange)
  else if (s.call? o.call).isSome then (s, .refused .duplicate)
  else if Config.callContexts ≤ s.calls.length then (s, .refused .tableFull)
  else
    let t := placeArrival o.call o.group
      (s.addCall (CallContext.fresh o.call .hunt .waiting (some o.group) o.priority s.now))
    (t, .okWith (t.arrivalReply o.call))

/-- CALL_ARRIVE (R40). -/
def execCallArrive (tag : Byte) (payload : List Byte) (s : State) : Host.Outcome State Fault Refusal :=
  .next (takeKind 0x02 tag payload CallArriveOp.read callArrive s)

/-! ## Timers of a call (R50, R59) -/

/-- A NO-ANSWER record for an extension (R50). -/
def offerNoAnswer (k : CallContext) (x : Nat) (s : State) : State :=
  offerRecord { TraceRecord.offered .noAnswer k.priority with
    call := some k.ref, group := k.group, ext := some x } s

/-- The offer of a call has gone unanswered (R50). -/
def endUnanswered (k : CallContext) (s : State) : State :=
  let s := clearOffer k .noAnswer s
  let s := k.ringing.foldl (fun s x => offerNoAnswer k x s) s
  let s := s.modCall k.ref fun k => { k with noAnswerDue := none }
  arbitrateAll k.ringing (advance (k.group.getD 64) k.ref s)

/-- NO_ANSWER_EXPIRY (R50). -/
def execNoAnswerExpiry (call : Nat) (s : State) : Host.Outcome State Fault Refusal :=
  .next (whenRunning (fun s =>
    match s.call? call with
    | none => s
    | some k => atExpiry k.noAnswerDue (endUnanswered k) s) s)

/-- A call has spent its maximum wait in its group (R59). -/
def endWait (k : CallContext) (s : State) : State :=
  let g := k.group.getD 64
  let s := clearOffer k .overflowed s
  let s := s.modCall k.ref fun k => { k with noAnswerDue := none, maxWaitDue := none }
  let s := if (s.group g).overflow.isSome then overflowFrom g k.ref s
    else divertCall k.ref s.fallback g [] (leaveForOverflow k.ref s)
  arbitrateAll k.ringing s

/-- MAXIMUM_WAIT_EXPIRY (R59). -/
def execMaximumWaitExpiry (call : Nat) (s : State) : Host.Outcome State Fault Refusal :=
  .next (whenRunning (fun s =>
    match s.call? call with
    | none => s
    | some k => atExpiry k.maxWaitDue (endWait k) s) s)

/-! ## FALLBACK-SET (R63) -/

/-- FALLBACK-SET (R63). -/
def fallbackSet (code : Option Nat) (s : State) : State × Answer :=
  if code = some 0 then (s, .refused .outOfRange) else ({ s with fallback := code }, .ok)

/-- FALLBACK_SET (R63). -/
def execFallbackSet (tag : Byte) (payload : List Byte) (s : State) : Host.Outcome State Fault Refusal :=
  .next (takeKind 0x0E tag payload readFallback fallbackSet s)

/-! ## Auto-page (R66, R67) -/

/-- The earliest waiting-since among the group's QUEUED calls (R66). -/
def State.oldestQueued (s : State) (g : Nat) : Option Nat :=
  ((((s.group g).waiting.filterMap s.call?).filter fun k => k.ringing.isEmpty).map (·.waitingSince)).min?

/-- The auto-page request (R66). -/
def autoPageRequest (g : Nat) (zones : ZoneSet) : PageRequest :=
  { cls := .normal, source := .prompt g, requester := .hunt g, alarm := none, zones := zones, mode := .partially
    suspendAllowed := true, maxDuration := 80 }

/-- The point at which an auto-page falls due, with the zone set it is asked for (R66). -/
def State.autoPagePoint (s : State) (g : Nat) : Option (Nat × Nat) :=
  let r := s.group g
  match r.autoSet, s.oldestQueued g with
  | some n, some since =>
    let point := max r.rearm (since + r.autoThreshold)
    if r.configured && r.liveAutoPage.isNone && point ≤ Config.timeBaseEnd then some (point, n) else none
  | _, _ => none

/-- The request is placed; a refusal sets the re-arm time (R66, R67). -/
def placeAutoPage (g n : Nat) (s : State) : State :=
  let q := autoPageRequest g (s.zoneSet n)
  match s.admissionRefusal q with
  | none => releasingHolds (admitPage q) s
  | some _ => s.modGroup g fun r => { r with rearm := s.now + r.autoThreshold }

/-- AUTO_PAGE_DUE (R66). -/
def execAutoPageDue (group : Nat) (s : State) : Host.Outcome State Fault Refusal :=
  .next (whenRunning (fun s =>
    match s.autoPagePoint group with
    | none => s
    | some (point, n) => placeAutoPage group n (elapseTo (100 * point) s)) s)

end Sys2Proof.Machine
end

