-- ==== Sys2Proof/Machine/Startup.lean ====
section
/-! DEFINITION. The resets and the start-up sequence (R163, R168, R193, R194). -/

namespace Sys2Proof.Machine

/-- Every field of a stored map lies within its range (R162, R163). -/
def EmergencyMap.inRange (m : EmergencyMap) : Bool :=
  m.sensitivity.toList.all (fun n => 140 ≤ n && n ≤ 230) && 160 ≤ m.ceiling && m.ceiling ≤ 250
    && m.range.upper ≤ 63 && m.range.lower ≤ m.range.upper

/-- The store passes its check, with its contents (R163). -/
def StoredCopy.good : StoredCopy → Option EmergencyMap
  | .damaged => none
  | .copy m crc => if crc16 m.bytes = crc && m.inRange then some m else none

/-- The store as a reset finds it: a write in flight is abandoned and leaves it damaged (R168), as does a store that
has lost its contents (R163). -/
def MapUnit.abandoned (m : MapUnit) (holds : Bool) : StoredCopy :=
  if m.writing.isSome || !holds then .damaged else m.store

/-- The map unit after the check of the store (R163). -/
def MapUnit.startUp (m : MapUnit) (linkReset holds : Bool) : MapUnit :=
  let store := m.abandoned holds
  let copy := store.good.getD EmergencyMap.default
  let held := linkReset && m.rangeHeld
  { store := store, copy := copy, status := if store.good.isSome then .valid else .default, writing := none
    armed := false, locked := linkReset && m.locked, rangeHeld := held
    activeRange := if held then m.activeRange else copy.range, enableLine := false }

/-- The Link Controller once the START-UP notice stands in its empty output queue (R194). -/
def LinkUnit.startUp (cause : ResetCause) (straps : BitVec 2) (m : MapUnit) : LinkUnit :=
  { output := [.notice (.startUp cause m.status m.copy.protection m.locked m.rangeHeld straps)], lost := 0
    requests := [], prepared := false, resetAfter := none, receiver := .hunting, straps := straps, cause := cause
    sentBytes := [] }

/-- The start-up sequence: every block at its reset values, the store checked, START-UP queued, the inputs sampled and
polling begun (R194). -/
def startUp (cause : ResetCause) (sample : StartSample) (s : State) : State :=
  let m := s.map.startUp (cause = .link) sample.storeHolds
  startExchange
    { State.reset with
      pending := s.pending, supply := { powered := true, resetLow := false, freshPower := false }
      link := LinkUnit.startUp cause sample.straps m, map := m, exchange := none, rotation := 63
      amps := tabBuild 64 fun z => AmpState.atReset (zoneIn m.copy.installed z)
      inputs := tabBuild 4 fun i => AlarmInput.sampled (sample.closed.getLsbD i) 0 }

/-- Activity stops: frames and exchanges in progress are lost, a pending link reset is superseded and a write in flight
leaves the store damaged (R168, R187, R193). -/
def stopActivity (s : State) : State :=
  { s with
    link := { s.link with
      output := [], requests := [], prepared := false, resetAfter := none, receiver := .disabled }
    exchange := none
    map := { s.map with store := s.map.abandoned true, writing := none } }

end Sys2Proof.Machine
end

