-- ==== Sys2Proof/Machine/ExecLink.lean ====
section
/-! DEFINITION. The commands of the Link Controller and the resets: frames in and out (R187, R188, R190), STATUS_QUERY
(R192), the link reset (R193), and the power-on and pin resets (R194). -/

namespace Sys2Proof.Machine

/-! ## Frames -/

/-- FRAME_RECEIVE: the bytes of a well-formed frame arrive (R187, R188). -/
def execFrameReceive (kind tag : Byte) (payload : List Byte) (s : State) : Host.Outcome State Fault Refusal :=
  .next (whenRunning (receiveBytes (frameBytes kind tag payload)) s)

/-- FRAME_ERROR: the bytes of a damaged frame arrive (R187). -/
def execFrameError (bytes : List Byte) (s : State) : Host.Outcome State Fault Refusal :=
  .next (whenRunning (receiveBytes bytes) s)

/-- RECEIVE_GAP_TIMEOUT: a frame in reception is abandoned once more than 20 ms have passed since its last byte (R187).
MODEL'S CHOICE: time runs on to the first whole millisecond past the 20 (log entry 5). -/
def execReceiveGapTimeout (s : State) : Host.Outcome State Fault Refusal :=
  .next (whenRunning (fun s =>
    match s.link.receiver with
    | .disabled => s
    | .hunting => s
    | .inFrame _ lastAt => setReceiver .hunting (elapseTo (lastAt + Config.receiveGapMs + 1) s)) s)

/-- OUTPUT-LOST is queued with the count when an unsolicited frame could join, and the count returns to 0 (R190). -/
def reportLost (l : LinkUnit) : LinkUnit :=
  let f : OutFrame := .notice (.outputLost l.lost)
  if l.lost ≠ 0 && mayJoin l.output f then { l with output := l.output ++ [f], lost := 0 } else l

/-- The frame at the head of the output queue has left (R190, R193). -/
def LinkUnit.depart (l : LinkUnit) : LinkUnit :=
  match l.output with
  | [] => l
  | f :: rest =>
    if l.resetAfter = some 0 then l
    else
      reportLost { l with output := rest, sentBytes := f.bytes, resetAfter := l.resetAfter.map fun n => n - 1 }

/-- OUTPUT_DEPART (R190). -/
def execOutputDepart (s : State) : Host.Outcome State Fault Refusal :=
  .next (whenRunning (fun s => { s with link := s.link.depart }) s)

/-- UNKNOWN_KIND: a taken request whose kind is not a request kind (R188, R189). -/
def execUnknownKind (kind tag : Byte) (payload : List Byte) (s : State) : Host.Outcome State Fault Refusal :=
  .next (if isRequestKind kind then s
    else takeRequest { kind := kind, tag := tag, payload := payload } (fun s => (s, .refused .unknownKind)) s)

/-! ## STATUS-QUERY (R192) -/

/-- One alarm input as STATUS-QUERY reports it (R192). -/
def AlarmInput.report (r : AlarmInput) : InputReport :=
  { active := r.active, mode := if r.active then some r.latchedMode else none, page := r.page }

/-- The fields of a STATUS-QUERY reply (R192). -/
def State.statusReport (s : State) : StatusReport :=
  { cause := s.link.cause, mapStatus := s.map.status, protection := s.map.copy.protection, locked := s.map.locked
    rangeHeld := s.map.rangeHeld, armed := s.map.armed, inputs := s.inputs.toList.map AlarmInput.report
    override := s.override, frozen := s.trace.frozen, calls := s.calls.length, generalPages := s.generalPages
    alarmPages := s.pages.length - s.generalPages, lost := s.link.lost }

/-- STATUS-QUERY (R192). -/
def statusQuery (_ : Unit) (s : State) : State × Answer := (s, .okWith (.status s.statusReport))

/-- STATUS_QUERY (R192). -/
def execStatusQuery (tag : Byte) (payload : List Byte) (s : State) : Host.Outcome State Fault Refusal :=
  .next (takeKind 0x22 tag payload readNothing statusQuery s)

/-! ## The link reset (R193) -/

/-- RESET-PREPARE; the flag is set by what follows every request (R193). -/
def resetPrepare (_ : Unit) (s : State) : State × Answer := (s, .ok)

/-- RESET_PREPARE (R193). -/
def execResetPrepare (tag : Byte) (payload : List Byte) (s : State) : Host.Outcome State Fault Refusal :=
  .next (takeKind 0x23 tag payload readNothing resetPrepare s)

/-- The departures until a reply queued now has left; none to wait for when it cannot join (R190, R193). -/
def LinkUnit.departuresOfReply (l : LinkUnit) : Nat :=
  if l.output.length < Config.outputPlaces then l.output.length + 1 else 0

/-- RESET-NOW: the link reset becomes due, and the other requests are discarded (R193). -/
def resetNow (_ : Unit) (s : State) : State × Answer :=
  if s.link.prepared then
    ({ s with link := { s.link with requests := [], resetAfter := some s.link.departuresOfReply } }, .ok)
  else (s, .refused .notArmed)

/-- RESET_NOW (R193). -/
def execResetNow (tag : Byte) (payload : List Byte) (s : State) : Host.Outcome State Fault Refusal :=
  .next (takeKind 0x24 tag payload readNothing resetNow s)

/-- LINK_RESET: takes place once the RESET-NOW reply has left or was dropped (R193). -/
def execLinkReset (sample : StartSample) (s : State) : Host.Outcome State Fault Refusal :=
  .next (whenRunning (fun s => if s.link.resetAfter = some 0 then startUp .link sample s else s) s)

/-! ## Power and the reset line (R193, R194) -/

/-- POWER_ON: power is applied afresh; the part starts up unless RST# is held low (R194). -/
def execPowerOn (sample : StartSample) (s : State) : Host.Outcome State Fault Refusal :=
  .next (if s.supply.resetLow then
      { stopActivity s with supply := { powered := true, resetLow := true, freshPower := true } }
    else startUp .powerOn sample (stopActivity s))

/-- PIN_RESET: RST# is released after it was held low; the cause is POWER-ON when power was applied since the last
start-up (R194). -/
def execPinReset (sample : StartSample) (s : State) : Host.Outcome State Fault Refusal :=
  .next (if s.supply.powered then
      startUp (if s.supply.freshPower then .powerOn else .pin) sample (stopActivity s)
    else { s with supply := { s.supply with resetLow := false } })

/-- RESET_LINE_ASSERTED: the part is held in reset while RST# is low (R193). -/
def execResetLineAsserted (s : State) : Host.Outcome State Fault Refusal :=
  .next { stopActivity s with supply := { s.supply with resetLow := true } }

/-- POWER_LOSS (R168, R193). -/
def execPowerLoss (s : State) : Host.Outcome State Fault Refusal :=
  .next { stopActivity s with supply := { s.supply with powered := false, freshPower := false } }

end Sys2Proof.Machine
end

