-- ==== Sys2Proof/Machine/ExecRoster.lean ====
section
/-! DEFINITION. The commands over groups and rosters: GROUP_SET, MEMBERS_SET, PRESENCE_STAGE, ROSTER_COMMIT and
ROSTER_QUERY (R20 to R37). -/

namespace Sys2Proof.Machine

/-! ## GROUP-SET (R21, R22, R37) -/

/-- The maximum wait as it is taken: 0 stays, the rest is clamped (R21). -/
def clampWait (n : Nat) : Nat := if n = 0 then 0 else clamp 100 36000 n

/-- The fields of a GROUP-SET that name values, read; none when one is outside its values (R21, first check). -/
structure GroupFields where
  configured : Bool
  discipline : Discipline
  overflow : Option OverflowTarget
  traceEnable : Bool
  traceAccept : Bool
  traceThrough : Bool
  pickable : Bool
  safety : Bool
  emergencyHold : Bool
deriving DecidableEq, Repr

def GroupSetOp.fields (o : GroupSetOp) : Option GroupFields :=
  match readFlag o.configured, readDiscipline o.discipline, readOverflow o.overflow, readFlag o.traceEnable,
    readFlag o.traceAccept, readFlag o.traceThrough, readFlag o.pickable, readFlag o.safety,
    readFlag o.emergencyHold with
  | some cf, some d, some ov, some te, some ta, some tt, some pk, some sf, some eh =>
    some
      { configured := cf, discipline := d, overflow := ov, traceEnable := te, traceAccept := ta, traceThrough := tt
        pickable := pk, safety := sf, emergencyHold := eh }
  | _, _, _, _, _, _, _, _, _ => none

/-- A zone set number that may be absent lies outside 0 to 31. -/
def badSet (n : Option Nat) : Bool := (n.map fun n => decide (31 < n)).getD false

/-- The record that a taken GROUP-SET leaves; a new discipline empties the cursor and the credits (R21, R22). -/
def GroupSetOp.write (o : GroupSetOp) (f : GroupFields) (r : GroupRecord) : GroupRecord :=
  let afresh := f.discipline ≠ r.discipline
  { r with
    configured := f.configured, discipline := f.discipline
    members := if afresh then r.members.map fun m => { m with credit := 0 } else r.members
    cursor := if afresh then 0 else r.cursor
    noAnswerTime := clamp 50 1200 o.noAnswerTime, passLimit := clamp 1 4 o.passLimit
    waitingDepth := clamp 1 16 o.waitingDepth, maximumWait := clampWait o.maximumWait, overflow := f.overflow
    traceEnable := f.traceEnable, traceAccept := f.traceAccept, traceThrough := f.traceThrough
    pickable := f.pickable, safety := f.safety, emergencyHold := f.emergencyHold, homeSet := o.homeSet
    autoSet := o.autoSet, autoThreshold := clamp 100 6000 o.autoThreshold }

/-- What a taken GROUP-SET does: the record, the safety flag under an override (R37), then the servicing of a group
released from its hold or forced (R22, R37). -/
def applyGroup (o : GroupSetOp) (f : GroupFields) (s : State) : State :=
  let g := o.group
  let wasHeld := s.held g
  let wasSafety := (s.group g).safety
  let s := s.modGroup g (o.write f)
  let flagSet := s.override && f.safety && !wasSafety
  let flagCleared := s.override && !f.safety && wasSafety
  let forced := flagSet && (s.group g).forcedCount ≠ 0
  let s := if flagSet then forceGroup g s else if flagCleared then recomputeGroup g s else s
  if forced || (wasHeld && !s.held g) then service g s else s

/-- GROUP-SET (R21). -/
def groupSet (o : GroupSetOp) (s : State) : State × Answer :=
  match o.fields with
  | none => (s, .refused .outOfRange)
  | some f =>
    if 63 < o.group || badSet o.homeSet || badSet o.autoSet then (s, .refused .outOfRange)
    else
      let waiting := (s.group o.group).waiting.length
      if (!f.configured && waiting ≠ 0) || clamp 1 16 o.waitingDepth < waiting then (s, .refused .wrongState)
      else (applyGroup o f s, .ok)

/-- GROUP_SET (R21). -/
def execGroupSet (tag : Byte) (payload : List Byte) (s : State) : Host.Outcome State Fault Refusal :=
  .next (takeKind 0x0C tag payload GroupSetOp.read groupSet s)

/-! ## MEMBERS-SET (R24 to R26, R36) -/

/-- A presence byte is one of the four values or absent. -/
def presenceFits (n : Nat) : Bool := n = 255 || (readPresence n).isSome

/-- The list holds no value twice. -/
def noRepeats (l : List Nat) : Bool := (withoutRepeats l).length = l.length

/-- The memberships of all groups (R23). -/
def State.poolCount (s : State) : Nat := ((List.range 64).map fun g => (s.group g).members.length).sum

/-- The new membership of an entry (R25). -/
def MemberEntry.join (e : MemberEntry) (override safety : Bool) : Membership :=
  ({ ext := e.ext, weight := clamp 1 15 e.weight, credit := 0, programmed := (readPresence e.presence).getD .signedOff
     effective := .signedOff, staged := none, pending := false, idleTenths := 0 } : Membership).recompute override safety

/-- The membership that an entry leaves: the old one with its new weight, or a new one (R25). -/
def MemberEntry.settle (e : MemberEntry) (override safety : Bool) (old : List Membership) : Membership :=
  match old.find? (fun m => m.ext == e.ext) with
  | some m => { m with weight := clamp 1 15 e.weight, credit := 0 }
  | none => e.join override safety

/-- The call a removed extension rings an offer of the group for (R26, R30). -/
def State.offerAt (s : State) (g x : Nat) : Option Nat :=
  match (s.ext x).ringing with
  | none => none
  | some c =>
    match s.call? c with
    | none => none
    | some k => if k.state = .waiting && k.group = some g then some c else none

/-- A removed extension loses its offer from the group (R26). -/
def loseOffer (g x : Nat) (s : State) : State :=
  match s.offerAt g x with
  | none => s
  | some c => clearMark x c (some .withdrawn) s

/-- The member list is replaced, with the lists of the extensions and the tried sets that follow it (R25). -/
def replaceMembers (o : MembersSetOp) (gone added : List Nat) (s : State) : State :=
  let g := o.group
  let old := (s.group g).members
  let safety := (s.group g).safety
  let members := o.entries.map fun e => e.settle s.override safety old
  let s := s.modGroup g fun r => { r with members := members, cursor := 0 }
  let s := gone.foldl (fun s x => s.modExt x fun r => { r with memberOf := r.memberOf.filter (· != g) }) s
  let s := added.foldl (fun s x => s.modExt x fun r => { r with memberOf := r.memberOf ++ [g] }) s
  (s.group g).waiting.foldl (fun s c =>
    s.modCall c fun k => { k with tried := k.tried.filter fun x => !gone.contains x }) s

/-- A call whose last ring was withdrawn by a removal advances (R26, R51). -/
def advanceUnrung (g c : Nat) (s : State) : State :=
  if ((s.call? c).map fun k => k.ringing.isEmpty).getD false then
    advance g c (s.modCall c fun k => { k with noAnswerDue := none })
  else s

/-- What a taken MEMBERS-SET does, in the order of R26. -/
def applyMembers (o : MembersSetOp) (s : State) : State :=
  let g := o.group
  let old := (s.group g).members.map (·.ext)
  let entries := o.entries.map (·.ext)
  let gone := old.filter fun x => !entries.contains x
  let added := entries.filter fun x => !old.contains x
  let s := replaceMembers o gone added s
  let losing := gone.filter fun x => (s.offerAt g x).isSome
  let calls := losing.filterMap (s.offerAt g)
  let s := losing.foldl (fun s x => loseOffer g x s) s
  let s := ((s.group g).waiting.filter calls.contains).foldl (fun s c => advanceUnrung g c s) s
  let joined := (s.group g).members.filter fun m => added.contains m.ext
  let altered := (joined.filter fun m => m.programmed ≠ .available).length
  let s := if s.override && (s.group g).safety && altered ≠ 0 then notify (.overrideAltered g altered) s else s
  let s := if joined.any fun m => m.effective.offered then service g s else s
  arbitrateAll losing s

/-- MEMBERS-SET (R24). -/
def membersSet (o : MembersSetOp) (s : State) : State × Answer :=
  let r := s.group o.group
  let exts := o.entries.map (·.ext)
  if 63 < o.group || o.entries.any (fun e => 1023 < e.ext || !presenceFits e.presence) then (s, .refused .outOfRange)
  else if r.commitInProgress then (s, .refused .commitPending)
  else if !noRepeats exts then (s, .refused .duplicate)
  else if Config.membersPerGroup < exts.length || Config.poolSize < s.poolCount - r.members.length + exts.length
      || exts.any (fun x => (s.member? o.group x).isNone
        && Config.membershipsPerExtension ≤ (s.ext x).memberOf.length) then (s, .refused .limit)
  else (applyMembers o s, .ok)

/-- MEMBERS_SET (R24). -/
def execMembersSet (tag : Byte) (payload : List Byte) (s : State) : Host.Outcome State Fault Refusal :=
  .next (takeKind 0x0D tag payload MembersSetOp.read membersSet s)

/-! ## PRESENCE-STAGE (R29) -/

/-- One entry is staged; an absent presence withdraws the staged value (R29). -/
def stageEntry (g : Nat) (e : StageEntry) (s : State) : State :=
  s.modMember g e.ext fun m => { m with staged := readPresence e.presence }

/-- PRESENCE-STAGE (R29). -/
def presenceStage (o : PresenceStageOp) (s : State) : State × Answer :=
  let exts := o.entries.map (·.ext)
  if o.entries.isEmpty || 32 < o.entries.length then (s, .refused .badLength)
  else if 63 < o.group || o.entries.any (fun e => 1023 < e.ext || !presenceFits e.presence) then
    (s, .refused .outOfRange)
  else if (s.group o.group).commitInProgress then (s, .refused .commitPending)
  else if !noRepeats exts then (s, .refused .duplicate)
  else if exts.any (fun x => (s.member? o.group x).isNone) then (s, .refused .notConfigured)
  else (o.entries.foldl (fun s e => stageEntry o.group e s) s, .ok)

/-- PRESENCE_STAGE (R29). -/
def execPresenceStage (tag : Byte) (payload : List Byte) (s : State) : Host.Outcome State Fault Refusal :=
  .next (takeKind 0x0F tag payload PresenceStageOp.read presenceStage s)

/-! ## ROSTER-COMMIT (R30) -/

/-- The commit's walk meets one membership: it becomes pending, or its staged value is applied (R30). -/
def commitMember (g x : Nat) (s : State) : State :=
  match (s.member? g x).bind (·.staged) with
  | none => s
  | some v =>
    if (s.offerAt g x).isSome && v ≠ .available then s.modMember g x fun m => { m with pending := true }
    else applyStaged g x s

/-- Some membership that was offered nothing is offered calls now (R30). -/
def newlyOffered (before after : List Membership) : Bool :=
  after.any fun m => m.effective.offered && (before.any fun b => b.ext == m.ext && !b.effective.offered)

/-- ROSTER-COMMIT (R30). -/
def rosterCommit (g : Nat) (s : State) : State × Answer :=
  if 63 < g then (s, .refused .outOfRange)
  else if (s.group g).commitInProgress then (s, .busy)
  else
    let before := (s.group g).members
    let s := before.foldl (fun s m => commitMember g m.ext s) s
    let after := (s.group g).members
    let waits := after.any (·.pending)
    let s := if waits then s.modGroup g fun r => { r with commitInProgress := true } else s
    let s := if newlyOffered before after then service g s else s
    (s, if waits then .pending else .ok)

/-- ROSTER_COMMIT (R30). -/
def execRosterCommit (tag : Byte) (payload : List Byte) (s : State) : Host.Outcome State Fault Refusal :=
  .next (takeKind 0x10 tag payload readNumber1 rosterCommit s)

/-! ## ROSTER-QUERY (R34) -/

/-- One membership as ROSTER-QUERY reports it (R34). -/
def Membership.report (m : Membership) : MemberReport :=
  { ext := m.ext, weight := m.weight, programmed := m.programmed, effective := m.effective, staged := m.staged
    pending := m.pending, idleSeconds := m.idleSeconds, credit := m.credit }

/-- The fields of a ROSTER-QUERY reply (R34). -/
def State.rosterReport (s : State) (o : RosterQueryOp) : RosterReport :=
  let r := s.group o.group
  { group := o.group, configured := r.configured, commitInProgress := r.commitInProgress
    rosterChanged := r.rosterChanged, forcing := s.override && r.safety, memberCount := r.members.length
    first := o.first, members := ((r.members.drop o.first).take 16).map Membership.report }

/-- ROSTER-QUERY (R34). -/
def rosterQuery (o : RosterQueryOp) (s : State) : State × Answer :=
  if 63 < o.group || 31 < o.first then (s, .refused .outOfRange)
  else (s.modGroup o.group fun r => { r with rosterChanged := false }, .okWith (.roster (s.rosterReport o)))

/-- ROSTER_QUERY (R34). -/
def execRosterQuery (tag : Byte) (payload : List Byte) (s : State) : Host.Outcome State Fault Refusal :=
  .next (takeKind 0x11 tag payload RosterQueryOp.read rosterQuery s)

end Sys2Proof.Machine
end

