-- ==== Sys2Proof/Machine/ExecOrbits.lean ====
section
/-! DEFINITION. The commands of the Orbit Table: PARK_ASK, ORBIT_SET, PARK_TIMER_EXPIRY, RECALL_RING_EXPIRY and
RETRIEVE_ASK (R87 to R99). -/

namespace Sys2Proof.Machine

/-! ## PARK-ASK (R90 to R92) -/

/-- Steps 1 to 5 of R91. -/
def parkCall (c p o : Nat) (s : State) : State :=
  let s := s.modOrbit o fun r => { r with state := .held, call := some c, parker := some p }
  let s := s.modCall c fun k => { k with state := .parked, connected := none, orbit := some o }
  let s := s.modExt p fun r => { r with line := if r.line = .inCall then .offhook else r.line }
  let s := direct (.parkHold c o) s
  s.modOrbit o fun r => { r with parkDue := some (s.after r.parkTime) }

/-- The announcement of a park: what became of it, and its page (R91, R92). -/
def announce (o p : Nat) (asked : Bool) (s : State) : State × Announcement × Option Nat :=
  if !asked then (s, .notAsked, none)
  else
    match (s.orbit o).announceSet with
    | none => (s, .noZoneSet, none)
    | some n =>
      let q := announcementRequest o p (s.zoneSet n)
      match s.admissionRefusal q with
      | some _ => (s, .notPlaced, none)
      | none => (releasingHolds (admitPage q) s, .placed, some s.nextPageId)

/-- The PARK record (R91, step 7). -/
def parkRecord (k : CallContext) (p o : Nat) : TraceRecord :=
  { TraceRecord.offered .park k.priority with call := some k.ref, group := k.group, ext := some p, orbit := some o }

/-- A taken PARK-ASK (R91). -/
def park (k : CallContext) (p o : Nat) (asked : Bool) (s : State) : State × Answer :=
  let a := announce o p asked (parkCall k.ref p o s)
  (offerRecord (parkRecord k p o) a.1, .okWith (.parked o a.2.1 a.2.2))

/-- The FREE orbit with the lowest number (R90). -/
def State.freeOrbit (s : State) : Option Nat := (List.range 32).find? fun o => (s.orbit o).state = .free

/-- PARK-ASK (R90). -/
def parkAsk (o : ParkAskOp) (s : State) : State × Answer :=
  match readFlag o.announce with
  | none => (s, .refused .outOfRange)
  | some asked =>
    if badRef o.call || 1023 < o.parker || badSet o.orbit then (s, .refused .outOfRange)
    else
      match s.call? o.call with
      | none => (s, .refused .noSuchCall)
      | some k =>
        if k.state ≠ .connected || k.connected ≠ some o.parker then (s, .refused .wrongState)
        else
          match o.orbit with
          | some n => if (s.orbit n).state ≠ .free then (s, .busy) else park k o.parker n asked s
          | none =>
            match s.freeOrbit with
            | none => (s, .refused .tableFull)
            | some n => park k o.parker n asked s

/-- PARK_ASK (R91). -/
def execParkAsk (tag : Byte) (payload : List Byte) (s : State) : Host.Outcome State Fault Refusal :=
  .next (takeKind 0x07 tag payload ParkAskOp.read parkAsk s)

/-! ## ORBIT-SET (R88) -/

/-- ORBIT-SET (R88). -/
def orbitSet (o : OrbitSetOp) (s : State) : State × Answer :=
  match readRecallMode o.recallMode with
  | none => (s, .refused .outOfRange)
  | some mode =>
    if 31 < o.orbit || (o.recallGroup.map fun g => decide (63 < g)).getD false || badSet o.announceSet then
      (s, .refused .outOfRange)
    else
      (s.modOrbit o.orbit fun r =>
        { r with
          parkTime := clamp 100 6000 o.parkTime, recallRingTime := clamp 100 1200 o.recallRingTime
          recallMode := mode, recallGroup := o.recallGroup, announceSet := o.announceSet }, .ok)

/-- ORBIT_SET (R88). -/
def execOrbitSet (tag : Byte) (payload : List Byte) (s : State) : Host.Outcome State Fault Refusal :=
  .next (takeKind 0x13 tag payload OrbitSetOp.read orbitSet s)

/-! ## The two timers of an orbit (R94, R96) -/

/-- The call is recalled to its parker (R94). -/
def recallToParker (o c p : Nat) (s : State) : State :=
  let s := s.modOrbit o fun r => { r with state := .recalling, parkDue := none }
  let s := placeMark p c .recall (s.modCall c fun k => { k with state := .recallRinging })
  s.modOrbit o fun r => { r with recallDue := some (s.after r.recallRingTime) }

/-- The park time of an orbit has passed (R94). -/
def endPark (o : Nat) (s : State) : State :=
  match (s.orbit o).call, (s.orbit o).parker with
  | some c, some p =>
    if (s.orbit o).recallMode = .parkerThenGroup && (s.ext p).line = .idle && (s.ext p).ringing.isNone then
      recallToParker o c p s
    else releasingHolds (sendToRecallGroup o) s
  | _, _ => s

/-- PARK_TIMER_EXPIRY (R94). -/
def execParkTimerExpiry (orbit : Nat) (s : State) : Host.Outcome State Fault Refusal :=
  .next (whenRunning (fun s => atExpiry (s.orbit orbit).parkDue (endPark orbit) s) s)

/-- The recall ring of an orbit has gone unanswered (R96). -/
def endRecall (o : Nat) (s : State) : State :=
  match (s.orbit o).call, (s.orbit o).parker with
  | some c, some p => arbitrate p (releasingHolds (sendToRecallGroup o) (clearMark p c (some .noAnswer) s))
  | _, _ => s

/-- RECALL_RING_EXPIRY (R96). -/
def execRecallRingExpiry (orbit : Nat) (s : State) : Host.Outcome State Fault Refusal :=
  .next (whenRunning (fun s => atExpiry (s.orbit orbit).recallDue (endRecall orbit) s) s)

/-! ## RETRIEVE-ASK (R98, R99) -/

/-- The RETRIEVE record (R99). -/
def retrieveRecord (k : CallContext) (x o : Nat) : TraceRecord :=
  { TraceRecord.offered .retrieve k.priority with
    call := some k.ref, group := k.group, ext := some x, orbit := some o }

/-- A taken RETRIEVE-ASK (R99). -/
def retrieve (k : CallContext) (x o : Nat) (s : State) : State × Answer :=
  (connectCall k.ref x .retrieve (some (retrieveRecord k x o)) s, .okWith (.retrieved k.ref o k.kind k.group))

/-- RETRIEVE-ASK (R98). -/
def retrieveAsk (o : RetrieveAskOp) (s : State) : State × Answer :=
  if 31 < o.orbit || 1023 < o.ext || o.expected = some 0 then (s, .refused .outOfRange)
  else if (s.ext o.ext).line ≠ .offhook then (s, .refused .wrongState)
  else
    match (s.orbit o.orbit).call.bind s.call? with
    | none => (s, .refused .empty)
    | some k =>
      if o.expected.isSome && o.expected ≠ some k.ref then (s, .refused .tooLate) else retrieve k o.ext o.orbit s

/-- RETRIEVE_ASK (R98). -/
def execRetrieveAsk (tag : Byte) (payload : List Byte) (s : State) : Host.Outcome State Fault Refusal :=
  .next (takeKind 0x08 tag payload RetrieveAskOp.read retrieveAsk s)

end Sys2Proof.Machine
end

