-- ==== Sys2Proof/Machine/ExecPages.lean ====
section
/-! DEFINITION. The commands of the Page Scheduler: PAGE_ASK, PAGE_STOP, ZONESET_SET, PAGING_SET and the expiries of
the chime, hang, suspension and duration timers (R108 to R128). -/

namespace Sys2Proof.Machine

/-! ## PAGE-ASK (R110) -/

/-- The maximum duration as it is taken (R110). -/
def clampDuration (n : Nat) : Nat := if n = 0 then 0 else clamp 10 6000 n

/-- The zones that a page target names: SET(n) or ZONE(z); none for a form or number outside its values (R110,
R111). -/
def State.readTarget (s : State) (f : Form) : Option ZoneSet :=
  if f.code = 0 then (if f.value ≤ 31 then some (s.zoneSet f.value) else none)
  else if f.code = 1 then (if f.value ≤ 63 then some (zoneOne f.value) else none)
  else none

/-- The page request of a PAGE-ASK (R110). -/
def PageAskOp.request (o : PageAskOp) (cls : PageClass) (source : PageSource) (zones : ZoneSet) (mode : PageMode) :
    PageRequest :=
  { cls := cls, source := source, requester := .host, alarm := none, zones := zones, mode := mode
    suspendAllowed := o.suspendAllowed ≠ 0 || cls = .background, maxDuration := clampDuration o.maxDuration }

/-- The line check of R110. -/
def State.sourceReady (s : State) : PageSource → Bool
  | .ext x => (s.ext x).line = .offhook
  | .prompt _ => true
  | .alarm _ => true

/-- The reply of an admitted PAGE-ASK (R110). -/
def State.pageReply (s : State) (id : Nat) (zones : Nat) : ReplyBody :=
  .page id (((s.page? id).map (·.state)).getD .queued) zones

/-- PAGE-ASK (R110). -/
def pageAsk (o : PageAskOp) (s : State) : State × Answer :=
  match readSource o.source, readClass o.cls, s.readTarget o.target, readMode o.mode with
  | some source, some cls, some zones, some mode =>
    let q := o.request cls source zones mode
    if !s.sourceReady source then (s, .refused .wrongState)
    else
      match s.admissionRefusal q with
      | some r => (s, .refused r)
      | none =>
        let t := releasingHolds (admitPage q) s
        (t, .okWith (t.pageReply s.nextPageId (zonesOf (s.targetOf cls zones)).length))
  | _, _, _, _ => (s, .refused .outOfRange)

/-- PAGE_ASK (R110). -/
def execPageAsk (tag : Byte) (payload : List Byte) (s : State) : Host.Outcome State Fault Refusal :=
  .next (takeKind 0x09 tag payload PageAskOp.read pageAsk s)

/-! ## PAGE-STOP (R112) -/

/-- PAGE-STOP (R112). -/
def pageStop (id : Nat) (s : State) : State × Answer :=
  if id = 0 || 255 < id then (s, .refused .outOfRange)
  else
    match s.page? id with
    | none => (s, .refused .tooLate)
    | some p => if p.alarm.isSome then (s, .refused .notPermitted) else (releasingHolds (endPage id .stopped) s, .ok)

/-- PAGE_STOP (R112). -/
def execPageStop (tag : Byte) (payload : List Byte) (s : State) : Host.Outcome State Fault Refusal :=
  .next (takeKind 0x0A tag payload readNumber2 pageStop s)

/-! ## ZONESET-SET and PAGING-SET (R108, R109) -/

/-- ZONESET-SET (R108). -/
def zonesetSet (o : ZoneSetSetOp) (s : State) : State × Answer :=
  if 31 < o.number then (s, .refused .outOfRange)
  else
    (releasingHolds (fun s => { s with zoneSets := tabModify s.zoneSets o.number fun _ => o.zones }) s, .ok)

/-- ZONESET_SET (R108). -/
def execZonesetSet (tag : Byte) (payload : List Byte) (s : State) : Host.Outcome State Fault Refusal :=
  .next (takeKind 0x14 tag payload ZoneSetSetOp.read zonesetSet s)

/-- A value for each class, changed by one function. -/
def PerClass.each {α β : Type} (f : α → β) (v : PerClass α) : PerClass β :=
  { emergency := f v.emergency, urgent := f v.urgent, normal := f v.normal, background := f v.background }

/-- PAGING-SET (R109). -/
def pagingSet (o : PagingSetOp) (s : State) : State × Answer :=
  ({ s with paging :=
      { chime := o.chime.each (clamp 0 30), hangTime := clamp 0 20 o.hangTime
        suspensionLimit := clamp 0 600 o.suspensionLimit, margin := o.margin.each (clampInt (-40) 60) } }, .ok)

/-- PAGING_SET (R109). -/
def execPagingSet (tag : Byte) (payload : List Byte) (s : State) : Host.Outcome State Fault Refusal :=
  .next (takeKind 0x16 tag payload PagingSetOp.read pagingSet s)

/-! ## The timers (R115, R116, R125, R128) -/

/-- CHIME_TIMER_EXPIRY (R115). -/
def execChimeTimerExpiry (zone : Nat) (s : State) : Host.Outcome State Fault Refusal :=
  .next (whenRunning (fun s => atExpiry (s.zone zone).chimeDue (zoneToLive zone) s) s)

/-- HANG_TIMER_EXPIRY (R116). -/
def execHangTimerExpiry (zone : Nat) (s : State) : Host.Outcome State Fault Refusal :=
  .next (whenRunning (fun s => atExpiry (s.zone zone).hangDue (releasingHolds (endHang zone)) s) s)

/-- SUSPENSION_TIMER_EXPIRY (R125). -/
def execSuspensionTimerExpiry (page : Nat) (s : State) : Host.Outcome State Fault Refusal :=
  .next (whenRunning (fun s =>
    atExpiry ((s.page? page).bind (·.suspensionDue)) (releasingHolds (endPage page .suspendTimeout)) s) s)

/-- DURATION_EXPIRY (R128). -/
def execDurationExpiry (page : Nat) (s : State) : Host.Outcome State Fault Refusal :=
  .next (whenRunning (fun s =>
    atExpiry ((s.page? page).bind (·.durationDue)) (releasingHolds (endPage page .duration)) s) s)

end Sys2Proof.Machine
end

