-- ==== Sys2Proof/Machine/ExecPickup.lean ====
section
/-! DEFINITION. The commands of the Pickup Resolver: PICKUP_ASK, PICKGROUP_SET and EXT_SET (R70 to R86). -/

namespace Sys2Proof.Machine

/-! ## PICKUP-ASK (R73 to R83) -/

/-- A call may be taken by a group pickup (R73). -/
def State.pickable (s : State) (k : CallContext) : Bool :=
  match k.state with
  | .ringingDirect => true
  | .recallRinging => true
  | .waiting => (k.group.map fun g => (s.group g).pickable).getD false
  | .connected => false
  | .parked => false

/-- The call that rings at an extension. -/
def State.callAt (s : State) (x : Nat) : Option CallContext := (s.ext x).ringing.bind s.call?

/-- The candidate mark at an extension, when there is one (R73). -/
def State.candidateAt (s : State) (p picker x : Nat) : Option (Nat × CallContext) :=
  if (s.ext x).pickupGroup = some p && x ≠ picker then
    match s.callAt x with
    | none => none
    | some k => if s.pickable k then some (x, k) else none
  else none

/-- Priority, then ring start time; the lower extension stands first in the list (R76). -/
def State.betterMark (s : State) (a b : Nat × CallContext) : Bool :=
  b.2.priority < a.2.priority
    || (a.2.priority = b.2.priority && (s.ext a.1).ringStart < (s.ext b.1).ringStart)

/-- The mark chosen within one searched group (R73, R76). -/
def State.chooseMark (s : State) (p picker : Nat) : Option (Nat × CallContext) :=
  firstBest s.betterMark ((List.range 1024).filterMap (s.candidateAt p picker))

/-- The pickup groups that a group pickup searches, in order (R75, R77). -/
def State.searched (s : State) (p : Nat) : List Nat :=
  p :: (s.pickup p).assist.filter fun q => (s.pickup q).configured

/-- The mark that a group pickup finds (R77). -/
def State.searchMark (s : State) (p picker : Nat) : Option (Nat × CallContext) :=
  (s.searched p).findSome? fun q => s.chooseMark q picker

/-- The configured pickup group of an extension. -/
def State.ownPickup (s : State) (x : Nat) : Option Nat :=
  (s.ext x).pickupGroup.filter fun p => (s.pickup p).configured

/-- A directed pickup is permitted (R79). -/
def State.permitted (s : State) (picker target : Nat) : Bool :=
  match s.ownPickup target with
  | none => false
  | some t =>
    (s.pickup t).directedOpen || (match s.ownPickup picker with
      | none => false
      | some p => p = t || (s.pickup p).assist.contains t)

/-- The orbit of a RECALL-RINGING call (R80, R83). -/
def CallContext.recallOrbit (k : CallContext) : Option Nat := if k.state = .recallRinging then k.orbit else none

/-- The group of a WAITING call (R80, R83). -/
def CallContext.offerGroup (k : CallContext) : Option Nat := if k.state = .waiting then k.group else none

/-- The PICKUP record (R83). -/
def pickupRecord (k : CallContext) (picker : Nat) (directed : Bool) : TraceRecord :=
  { TraceRecord.offered .pickup k.priority with
    call := some k.ref, group := k.offerGroup, ext := some picker, orbit := k.recallOrbit
    detail := if directed then 1 else 0 }

/-- The chosen call is connected to the picker (R80). -/
def pickUp (k : CallContext) (picker pickedFrom : Nat) (directed : Bool) (s : State) : State × Answer :=
  (connectCall k.ref picker .pickup (some (pickupRecord k picker directed)) s,
    .okWith (.picked k.ref k.kind pickedFrom k.offerGroup k.recallOrbit))

/-- A group pickup, from its third check on (R74). -/
def groupPickup (picker : Nat) (s : State) : State × Answer :=
  match s.ownPickup picker with
  | none => (s, .refused .notConfigured)
  | some p =>
    match s.searchMark p picker with
    | none => (s, .refused .nothingToPick)
    | some m => pickUp m.2 picker m.1 false s

/-- A directed pickup, from its fifth check on (R74, R78). -/
def directedPickup (picker target : Nat) (expected : Option Nat) (s : State) : State × Answer :=
  match s.callAt target with
  | none => (s, .refused .tooLate)
  | some k =>
    if expected.isSome && expected ≠ some k.ref then (s, .refused .tooLate)
    else if !s.permitted picker target then (s, .refused .notPermitted)
    else pickUp k picker target true s

/-- PICKUP-ASK; the modes are GROUP and DIRECTED (R74). -/
def pickupAsk (o : PickupAskOp) (s : State) : State × Answer :=
  let directed := o.mode = 1
  let badTarget := (o.target.map fun t => decide (1023 < t)).getD true || o.expected = some 0
  if 1023 < o.picker || 1 < o.mode || (directed && badTarget) then (s, .refused .outOfRange)
  else if (s.ext o.picker).line ≠ .offhook then (s, .refused .wrongState)
  else if directed then directedPickup o.picker (o.target.getD 1024) o.expected s
  else groupPickup o.picker s

/-- PICKUP_ASK (R74). -/
def execPickupAsk (tag : Byte) (payload : List Byte) (s : State) : Host.Outcome State Fault Refusal :=
  .next (takeKind 0x06 tag payload PickupAskOp.read pickupAsk s)

/-! ## PICKGROUP-SET and EXT-SET (R71, R72) -/

/-- PICKGROUP-SET (R71). -/
def pickgroupSet (o : PickgroupSetOp) (s : State) : State × Answer :=
  if 4 < o.assist.length then (s, .refused .badLength)
  else
    match readFlag o.configured, readFlag o.directedOpen with
    | some cf, some op =>
      if 127 < o.group || o.assist.any (fun p => 127 < p) then (s, .refused .outOfRange)
      else if !noRepeats o.assist || o.assist.contains o.group then (s, .refused .duplicate)
      else
        ({ s with pickups := tabModify s.pickups o.group fun _ =>
            { configured := cf, assist := o.assist, directedOpen := op } }, .ok)
    | _, _ => (s, .refused .outOfRange)

/-- PICKGROUP_SET (R71). -/
def execPickgroupSet (tag : Byte) (payload : List Byte) (s : State) : Host.Outcome State Fault Refusal :=
  .next (takeKind 0x12 tag payload PickgroupSetOp.read pickgroupSet s)

/-- EXT-SET (R72). -/
def extSet (o : ExtSetOp) (s : State) : State × Answer :=
  if 1023 < o.ext || (o.pickupGroup.map fun p => decide (127 < p)).getD false then (s, .refused .outOfRange)
  else (s.modExt o.ext fun r => { r with pickupGroup := o.pickupGroup }, .ok)

/-- EXT_SET (R72). -/
def execExtSet (tag : Byte) (payload : List Byte) (s : State) : Host.Outcome State Fault Refusal :=
  .next (takeKind 0x0B tag payload ExtSetOp.read extSet s)

end Sys2Proof.Machine
end

