-- ==== Sys2Proof/Machine/ExecTrace.lean ====
section
/-! DEFINITION. The commands of the Trace Unit: TRACE_SET, TRACE_CLEAR and TRACE_READ (R181 to R184). -/

namespace Sys2Proof.Machine

/-- The depth of a TRACE-SET is selected; a new depth clears the trace (R181, step 1). -/
def selectDepth (depth : Nat) (s : State) : State :=
  if depth = s.trace.depth then s else { s with trace := ({ s.trace with depth := depth } : TraceUnit).clear }

/-- The freeze control of a TRACE-SET: FREEZE is 0 and THAW is 1 (R182). -/
def freezeControl (control : Option Nat) (s : State) : State :=
  match control with
  | none => s
  | some n =>
    let s := { s with trace := { s.trace with nextValid := false } }
    if n = 0 then freeze .host s else { s with trace := { s.trace with frozen := false } }

/-- TRACE-SET (R181). -/
def traceSet (o : TraceSetOp) (s : State) : State × Answer :=
  match readFlag o.ungrouped, readFlag o.freezeOnAlarm with
  | some ungrouped, some freezeOnAlarm =>
    if o.filter.getLsbD 0 || o.filter.getLsbD 15 || (o.control.map fun n => decide (1 < n)).getD false then
      (s, .refused .outOfRange)
    else
      let s := selectDepth (supportedDepth o.depth) s
      let s := { s with trace := { s.trace with
        filter := o.filter, ungrouped := ungrouped, freezeOnAlarm := freezeOnAlarm } }
      let s := freezeControl o.control s
      (s, .okWith (.traceDepth s.trace.depth s.trace.frozen))
  | _, _ => (s, .refused .outOfRange)

/-- TRACE_SET (R181). -/
def execTraceSet (tag : Byte) (payload : List Byte) (s : State) : Host.Outcome State Fault Refusal :=
  .next (takeKind 0x1E tag payload TraceSetOp.read traceSet s)

/-- TRACE-CLEAR (R183). -/
def traceClear (_ : Unit) (s : State) : State × Answer := ({ s with trace := s.trace.clear }, .ok)

/-- TRACE_CLEAR (R183). -/
def execTraceClear (tag : Byte) (payload : List Byte) (s : State) : Host.Outcome State Fault Refusal :=
  .next (takeKind 0x20 tag payload readNothing traceClear s)

/-- TRACE-READ; an entry that no record fills is an empty marker (R184). -/
def traceRead (o : TraceReadOp) (s : State) : State × Answer :=
  if o.count = 0 || 8 < o.count then (s, .refused .outOfRange)
  else
    let t := s.trace
    (s, .okWith (.traceEntries o.start o.count t.depth t.records.length t.frozen t.sequence
      ((List.range o.count).map fun i => t.records[o.start + i]?)))

/-- TRACE_READ (R184). -/
def execTraceRead (tag : Byte) (payload : List Byte) (s : State) : Host.Outcome State Fault Refusal :=
  .next (takeKind 0x1F tag payload TraceReadOp.read traceRead s)

end Sys2Proof.Machine
end

