-- ==== Sys2Proof/Machine/ExecZones.lean ====
section
/-! DEFINITION. The commands of the Zone Link Controller and the Level Unit: ZONE_REPLY, ZONE_REPLY_TIMEOUT,
STALE_TIME_EXPIRY, ZONE_SET and LEVEL_QUERY (R140 to R155). -/

namespace Sys2Proof.Machine

/-! ## The end of an exchange (R140 to R145) -/

/-- The outcomes of an exchange (R140). -/
inductive ExchangeOutcome where
  | missed
  | bad
  | faultReply (cause : FaultCause)
  | good
deriving DecidableEq, Repr

/-- The cause that a fault status gives (R143). -/
def statusCause (status : Byte) : Option FaultCause :=
  if status = 1 then some .amplifier else if status = 2 then some .lineOpen
  else if status = 3 then some .overtemperature else none

/-- The outcome of an exchange that five bytes ended (R140). -/
def classifyReply (e : Exchange) (address reading status applied check : Byte) : ExchangeOutcome :=
  if byteSum [address, reading, status, applied, check] ≠ 0 then .bad
  else if address.toNat ≠ e.zone + 1 then .bad
  else
    match statusCause status with
    | some c => .faultReply c
    | none => if status = 0 ∧ applied.toNat = e.sent.channel then .good else .bad

/-- Delivery pending and the emergency mark become no. -/
def confirmDelivery (z : Nat) (s : State) : State :=
  s.modAmp z fun a => { a with deliveryPending := false, emergencyMark := false }

/-- The zone becomes faulted, or its cause is replaced, and ZONE-FAULT is queued (R142, R143). -/
def setFault (z : Nat) (c : FaultCause) (s : State) : State :=
  notify (.zoneFault z c) (s.modAmp z fun a => { a with fault := some c, missCount := 0 })

/-- A reading is handed to the Level Unit when the frame commanded silence (R141, R144). -/
def guardReading (e : Exchange) (reading : Byte) (s : State) : State :=
  if e.sent.channel = 7 && e.sent.gain = 255 then takeReading e.zone reading.toNat s else s

/-- A good reply (R141, R144). -/
def goodReply (e : Exchange) (reading : Byte) (s : State) : State :=
  match (s.amp e.zone).fault with
  | none =>
    let s := s.modAmp e.zone fun a => { a with missCount := 0 }
    guardReading e reading (if e.superseded then s else confirmDelivery e.zone s)
  | some _ =>
    let mark := s.emergencyOwned e.zone
    let s := s.modAmp e.zone fun a =>
      { a with fault := none, missCount := 0, deliveryPending := true, emergencyMark := mark }
    releasingHolds schedule (guardReading e reading (notify (.zoneRestored e.zone) s))

/-- A missed or bad reply (R142, R145). -/
def missedReply (z : Nat) (s : State) : State :=
  if (s.amp z).fault.isSome then confirmDelivery z s
  else if (s.amp z).missCount + 1 < 3 then s.modAmp z fun a => { a with missCount := a.missCount + 1 }
  else confirmDelivery z (setFault z .noReply s)

/-- A fault reply (R143, R145). -/
def faultReply (z : Nat) (c : FaultCause) (s : State) : State :=
  confirmDelivery z (if (s.amp z).fault = some c then s else setFault z c s)

/-- An exchange ends with an outcome, which is discarded when its zone has left the installed set, and the next one
begins (R139, R145). -/
def endExchange (e : Exchange) (outcome : ExchangeOutcome) (reading : Byte) (s : State) : State :=
  let s := { s with exchange := none }
  startExchange
    (if !s.installed e.zone then s
    else
      match outcome with
      | .missed => missedReply e.zone s
      | .bad => missedReply e.zone s
      | .faultReply c => faultReply e.zone c s
      | .good => goodReply e reading s)

/-- ZONE_REPLY: bytes outside an exchange, or past its 4 ms, are discarded (R140). -/
def execZoneReply (address reading status applied check : Byte) (s : State) : Host.Outcome State Fault Refusal :=
  .next (whenRunning (fun s =>
    match s.exchange with
    | none => s
    | some e =>
      if e.deadline < s.clock then s
      else endExchange e (classifyReply e address reading status applied check) reading s) s)

/-- ZONE_REPLY_TIMEOUT (R140). -/
def execZoneReplyTimeout (s : State) : Host.Outcome State Fault Refusal :=
  .next (whenRunning (fun s =>
    match s.exchange with
    | none => s
    | some e => endExchange e .missed 0 (elapseTo e.deadline s)) s)

/-! ## The stale time (R151) -/

/-- The point at which a zone that is not STALE becomes STALE (R151). -/
def LevelState.stalePoint (l : LevelState) : Option Nat :=
  let point := l.lastReading.getD 0 + l.staleTime
  if l.stale || Config.timeBaseEnd < point then none else some point

/-- STALE_TIME_EXPIRY (R151). -/
def execStaleTimeExpiry (zone : Nat) (s : State) : Host.Outcome State Fault Refusal :=
  .next (whenRunning (fun s =>
    match (s.level zone).stalePoint with
    | none => s
    | some point => (elapseTo (100 * point) s).modLevel zone fun l => { l with stale := true }) s)

/-! ## ZONE-SET (R148) -/

/-- The Level Unit's record of the zone after a ZONE-SET (R148). -/
def ZoneSetOp.write (o : ZoneSetOp) (reseed : Bool) (now : Nat) (l : LevelState) : LevelState :=
  let initial := clamp 60 260 o.initialNoise
  let l := { l with
    initialNoise := initial, floor := clamp 80 200 o.floor, ceiling := clamp 140 250 o.ceiling
    minCode := clamp 0 144 o.minCode, maxCode := clamp 0 144 o.maxCode, riseFactor := clamp 1 64 o.riseFactor
    fallFactor := clamp 1 64 o.fallFactor, staleTime := clamp 50 3000 o.staleTime }
  let l := if reseed || !l.seeded then { l with noise := 8 * (initial : Int), seeded := false } else l
  { l with stale := l.stale || l.staleAt now }

/-- The zone is OPENING or LIVE for a page whose class is not EMERGENCY (R148). -/
def State.routine (s : State) (z : Nat) : Bool :=
  match (s.zone z).state with
  | .idle => false
  | .opening _ => !s.emergencyOwned z
  | .live _ => !s.emergencyOwned z
  | .closing _ _ => false

/-- The commanded code of a routine page's zone is clamped into the new limits (R148). -/
def reclamp (z : Nat) (s : State) : State :=
  let c := (s.amp z).commanded
  let code := limitCode (s.level z).minCode (s.level z).maxCode c.gain
  if s.routine z && code ≠ c.gain then
    handOver z { c with gain := code } false (s.modLevel z fun l => { l with limited := true })
  else s

/-- ZONE-SET (R148). -/
def zoneSet (o : ZoneSetOp) (s : State) : State × Answer :=
  match readFlag o.reseed with
  | none => (s, .refused .outOfRange)
  | some reseed =>
    if 63 < o.zone then (s, .refused .outOfRange)
    else (reclamp o.zone (s.modLevel o.zone (o.write reseed s.now)), .ok)

/-- ZONE_SET (R148). -/
def execZoneSet (tag : Byte) (payload : List Byte) (s : State) : Host.Outcome State Fault Refusal :=
  .next (takeKind 0x15 tag payload ZoneSetOp.read zoneSet s)

/-! ## LEVEL-QUERY (R155) -/

/-- The fields of a LEVEL-QUERY reply (R155). -/
def State.levelReport (s : State) (z : Nat) : LevelReport :=
  let l := s.level z
  let a := s.amp z
  { zone := z, installed := s.installed z, noise := l.noise, seeded := l.seeded, stale := l.stale
    sinceReading := l.lastReading.map fun t => min (s.now - t) 65535, limited := l.limited, gain := a.commanded.gain
    deliveryPending := a.deliveryPending, faulted := a.fault.isSome, fault := a.fault }

/-- LEVEL-QUERY (R155). -/
def levelQuery (z : Nat) (s : State) : State × Answer :=
  if 63 < z then (s, .refused .outOfRange)
  else (s.modLevel z fun l => { l with limited := false }, .okWith (.level (s.levelReport z)))

/-- LEVEL_QUERY (R155). -/
def execLevelQuery (tag : Byte) (payload : List Byte) (s : State) : Host.Outcome State Fault Refusal :=
  .next (takeKind 0x17 tag payload readNumber1 levelQuery s)

end Sys2Proof.Machine
end

