-- ==== Sys2Proof/Machine/Dispatch.lean ====
section
/-! DEFINITION. One arm per command, each a call of its meaning. -/

namespace Sys2Proof.Machine

def exec (i : Instr) (s : State) : Host.Outcome State Fault Refusal :=
  match i with
  | .powerOn sample => Sys2Proof.Machine.execPowerOn sample s
  | .pinReset sample => Sys2Proof.Machine.execPinReset sample s
  | .linkReset sample => Sys2Proof.Machine.execLinkReset sample s
  | .frameReceive kind tag payload => Sys2Proof.Machine.execFrameReceive kind tag payload s
  | .frameError bytes => Sys2Proof.Machine.execFrameError bytes s
  | .receiveGapTimeout => Sys2Proof.Machine.execReceiveGapTimeout s
  | .outputDepart => Sys2Proof.Machine.execOutputDepart s
  | .unknownKind kind tag payload => Sys2Proof.Machine.execUnknownKind kind tag payload s
  | .lineReport tag payload => Sys2Proof.Machine.execLineReport tag payload s
  | .directRing tag payload => Sys2Proof.Machine.execDirectRing tag payload s
  | .callAnswer tag payload => Sys2Proof.Machine.execCallAnswer tag payload s
  | .callGone tag payload => Sys2Proof.Machine.execCallGone tag payload s
  | .callQuery tag payload => Sys2Proof.Machine.execCallQuery tag payload s
  | .groupSet tag payload => Sys2Proof.Machine.execGroupSet tag payload s
  | .membersSet tag payload => Sys2Proof.Machine.execMembersSet tag payload s
  | .presenceStage tag payload => Sys2Proof.Machine.execPresenceStage tag payload s
  | .rosterCommit tag payload => Sys2Proof.Machine.execRosterCommit tag payload s
  | .rosterQuery tag payload => Sys2Proof.Machine.execRosterQuery tag payload s
  | .callArrive tag payload => Sys2Proof.Machine.execCallArrive tag payload s
  | .noAnswerExpiry call => Sys2Proof.Machine.execNoAnswerExpiry call s
  | .maximumWaitExpiry call => Sys2Proof.Machine.execMaximumWaitExpiry call s
  | .fallbackSet tag payload => Sys2Proof.Machine.execFallbackSet tag payload s
  | .autoPageDue group => Sys2Proof.Machine.execAutoPageDue group s
  | .pickupAsk tag payload => Sys2Proof.Machine.execPickupAsk tag payload s
  | .pickgroupSet tag payload => Sys2Proof.Machine.execPickgroupSet tag payload s
  | .extSet tag payload => Sys2Proof.Machine.execExtSet tag payload s
  | .parkAsk tag payload => Sys2Proof.Machine.execParkAsk tag payload s
  | .orbitSet tag payload => Sys2Proof.Machine.execOrbitSet tag payload s
  | .parkTimerExpiry orbit => Sys2Proof.Machine.execParkTimerExpiry orbit s
  | .recallRingExpiry orbit => Sys2Proof.Machine.execRecallRingExpiry orbit s
  | .retrieveAsk tag payload => Sys2Proof.Machine.execRetrieveAsk tag payload s
  | .pageAsk tag payload => Sys2Proof.Machine.execPageAsk tag payload s
  | .pageStop tag payload => Sys2Proof.Machine.execPageStop tag payload s
  | .zonesetSet tag payload => Sys2Proof.Machine.execZonesetSet tag payload s
  | .pagingSet tag payload => Sys2Proof.Machine.execPagingSet tag payload s
  | .chimeTimerExpiry zone => Sys2Proof.Machine.execChimeTimerExpiry zone s
  | .hangTimerExpiry zone => Sys2Proof.Machine.execHangTimerExpiry zone s
  | .suspensionTimerExpiry page => Sys2Proof.Machine.execSuspensionTimerExpiry page s
  | .durationExpiry page => Sys2Proof.Machine.execDurationExpiry page s
  | .zoneReply address reading status applied check => Sys2Proof.Machine.execZoneReply address reading status applied check s
  | .zoneReplyTimeout => Sys2Proof.Machine.execZoneReplyTimeout s
  | .staleTimeExpiry zone => Sys2Proof.Machine.execStaleTimeExpiry zone s
  | .zoneSet tag payload => Sys2Proof.Machine.execZoneSet tag payload s
  | .levelQuery tag payload => Sys2Proof.Machine.execLevelQuery tag payload s
  | .alarmLevelChange input closed => Sys2Proof.Machine.execAlarmLevelChange input closed s
  | .debounceExpiry input => Sys2Proof.Machine.execDebounceExpiry input s
  | .mapRead enableLine tag payload => Sys2Proof.Machine.execMapRead enableLine tag payload s
  | .mapArm tag payload => Sys2Proof.Machine.execMapArm tag payload s
  | .mapWrite enableLine tag payload => Sys2Proof.Machine.execMapWrite enableLine tag payload s
  | .mapProtect enableLine tag payload => Sys2Proof.Machine.execMapProtect enableLine tag payload s
  | .mapWriteComplete verifies => Sys2Proof.Machine.execMapWriteComplete verifies s
  | .excludeSet tag payload => Sys2Proof.Machine.execExcludeSet tag payload s
  | .rangeHold tag payload => Sys2Proof.Machine.execRangeHold tag payload s
  | .traceSet tag payload => Sys2Proof.Machine.execTraceSet tag payload s
  | .traceClear tag payload => Sys2Proof.Machine.execTraceClear tag payload s
  | .traceRead tag payload => Sys2Proof.Machine.execTraceRead tag payload s
  | .statusQuery tag payload => Sys2Proof.Machine.execStatusQuery tag payload s
  | .resetPrepare tag payload => Sys2Proof.Machine.execResetPrepare tag payload s
  | .resetNow tag payload => Sys2Proof.Machine.execResetNow tag payload s
  | .resetLineAsserted => Sys2Proof.Machine.execResetLineAsserted s
  | .powerLoss => Sys2Proof.Machine.execPowerLoss s

end Sys2Proof.Machine
end

