-- ==== Sys2Proof/Safety.lean ====
section
/-! DEFINITION. The vocabulary of the claims: when a request is taken and what answering it does (R188), and what a
sound state is: the bounds the manual states for its queues, tables and values, which every command keeps. -/

namespace Sys2Proof.Machine

/-- The bounds of the link's queues and count (R188, R190). -/
structure LinkUnit.Bounded (l : LinkUnit) : Prop where
  places : l.output.length ≤ Config.outputPlaces
  unsolicited : unsolicitedCount l.output ≤ Config.unsolicitedPlaces
  waiting : l.requests.length ≤ Config.requestPlaces
  lost : l.lost ≤ 255

/-- The bounds of the trace: its depth is one of the five, it holds no more records than its depth, and its counters
stay in their ranges (R173, R177). -/
structure TraceUnit.Bounded (t : TraceUnit) : Prop where
  depth : t.depth = 16 ∨ t.depth = 32 ∨ t.depth = 64 ∨ t.depth = 128 ∨ t.depth = 256
  held : t.records.length ≤ t.depth
  sequence : t.sequence < 65536
  elapsed : t.elapsed ≤ Config.elapsedEnd

/-- The noise estimate lies between 30.0 and 130.0 dB (R150). -/
def LevelState.Bounded (l : LevelState) : Prop := 480 ≤ l.noise ∧ l.noise ≤ 2080

/-- The bounds the manual states, together (R11, R150, R173, R177, R188, R190). -/
structure State.Sound (s : State) : Prop where
  link : s.link.Bounded
  trace : s.trace.Bounded
  levels : ∀ z, (s.level z).Bounded
  calls : s.calls.length ≤ Config.callContexts

/-! ## Taking and answering a request -/

/-- The Link Controller takes this request next: the part runs, no link reset is due, the frame stands first in the
request queue, and the output queue holds fewer than 40 frames (R188, R193). -/
structure State.Takes (s : State) (f : Frame) : Prop where
  running : s.running = true
  noReset : s.link.resetAfter = none
  front : s.link.requests.head? = some f
  room : s.link.output.length < Config.takeBelow

/-- The request has been answered: its reply is queued, it leaves the request queue, and it leaves the arm latch set
only if it is a MAP-ARM answered OK and the preparation flag set only if it is a RESET-PREPARE answered OK (R165, R188,
R189, R193). -/
def answered (f : Frame) (v : Verdict) (b : ReplyBody) (s : State) : State :=
  { s with
    link := { s.link.put (.reply (replyKind f.kind) f.tag v b) with
      requests := s.link.requests.drop 1, prepared := f.kind = 0x23 && v = .ok }
    map := { s.map with armed := f.kind = 0x1A && v = .ok } }

/-- No zone sounds or closes, and no emergency coverage is signalled (R68, R113). -/
structure State.ZonesQuiet (s : State) : Prop where
  idle : ∀ z, (s.zone z).state = .idle
  uncovered : s.covered = 0

/-- The request has been refused: nothing changes but what answering changes (R189). -/
def refusedWith (f : Frame) (r : Reason) (s : State) : State := answered f (.refused r) .nothing s

end Sys2Proof.Machine

namespace Sys2Proof

/-- The commands that act on a part that does not run: the resets and the loss of power (R193, R194). -/
def Instr.actsAlways : Instr → Bool
  | .powerOn _ => true
  | .pinReset _ => true
  | .resetLineAsserted => true
  | .powerLoss => true
  | _ => false

/-- The commands that run the start-up sequence (R193, R194). -/
def Instr.startsUp : Instr → Bool
  | .powerOn _ => true
  | .pinReset _ => true
  | .linkReset _ => true
  | _ => false

end Sys2Proof
end

