-- ==== Sys2Proof/Certificates/Slice0/Obligations.lean ====
section
/-! DEFINITION. The statements for the provers, block by block. -/

open Sys2Proof Sys2Proof.Machine

/-! ## Steps and time -/

/-- A step with a command in front of the queue is that command's effect on the state with the queue's rest. -/
def Obligations.StepRunsFrontCommand : Prop :=
  ∀ (c : Instr) (rest : List Instr) (s : State), s.pending = c :: rest → step s = exec c { s with pending := rest }

/-- A command never touches the queue of waiting commands. -/
def Obligations.ExecKeepsQueue : Prop :=
  ∀ (c : Instr) (s t : State), exec c s = .next t → t.pending = s.pending

/-- MODEL'S CHOICE (log entry 10): with no command waiting, a part that does not run stays as it is, and a running part
lets one millisecond pass. Within a unit of 100 ms only the clock moves; at the end of a unit the elapsed counter of an
unfrozen trace and the idle clocks of AVAILABLE memberships of IDLE extensions count it (R28, R177). A timer that is
stopped does not expire (R1): the expiry commands of stopped timers, and the end of an exchange, of a map write or of a
reception that is not in progress, change nothing. -/
def Obligations.TimePassesAndStoppedTimersStay : Prop :=
  (∀ s : State, s.pending = [] →
    (s.running = false → step s = .next s) ∧
    (s.running = true → (s.clock + 1) % 100 ≠ 0 → step s = .next { s with clock := s.clock + 1 }) ∧
    (s.running = true → (s.clock + 1) % 100 = 0 → ∃ t, step s = .next t ∧ t.clock = s.clock + 1 ∧
      t.trace = (if s.trace.frozen then s.trace else { s.trace with elapsed := min (s.trace.elapsed + 1) 131071 }) ∧
      ∀ g, (t.group g).members = (s.group g).members.map fun m =>
        if m.effective = .available ∧ (s.ext m.ext).line = .idle then
          { m with idleTenths := min (m.idleTenths + 1) 655350 }
        else m)) ∧
  (∀ s : State,
    (∀ c, (s.call? c).bind (·.noAnswerDue) = none → exec (.noAnswerExpiry c) s = .next s) ∧
    (∀ c, (s.call? c).bind (·.maxWaitDue) = none → exec (.maximumWaitExpiry c) s = .next s) ∧
    (∀ o, (s.orbit o).parkDue = none → exec (.parkTimerExpiry o) s = .next s) ∧
    (∀ o, (s.orbit o).recallDue = none → exec (.recallRingExpiry o) s = .next s) ∧
    (∀ z, (s.zone z).chimeDue = none → exec (.chimeTimerExpiry z) s = .next s) ∧
    (∀ z, (s.zone z).hangDue = none → exec (.hangTimerExpiry z) s = .next s) ∧
    (∀ p, (s.page? p).bind (·.suspensionDue) = none → exec (.suspensionTimerExpiry p) s = .next s) ∧
    (∀ p, (s.page? p).bind (·.durationDue) = none → exec (.durationExpiry p) s = .next s) ∧
    (∀ i, (s.input i).debounceDue = none → exec (.debounceExpiry i) s = .next s) ∧
    (∀ g, (s.group g).autoSet = none → exec (.autoPageDue g) s = .next s) ∧
    (s.exchange = none → exec .zoneReplyTimeout s = .next s) ∧
    (∀ a r st ap ck, s.exchange = none → exec (.zoneReply a r st ap ck) s = .next s) ∧
    (∀ v, s.map.writing = none → exec (.mapWriteComplete v) s = .next s) ∧
    (s.link.receiver = .hunting → exec .receiveGapTimeout s = .next s))

/-! ## Invariants -/

/-- The state after reset is sound. -/
def Obligations.ResetIsSound : Prop := State.reset.Sound

/-- Every step keeps the bounds of the manual: at most 48 frames in the output queue with at most 40 unsolicited, at
most 4 waiting requests, a lost count of at most 255, one of the five trace depths and no more records than it, the
trace's counters in range, every noise estimate within 30.0 to 130.0 dB, and at most 256 call contexts. -/
def Obligations.StepKeepsSound : Prop := ∀ s t : State, s.Sound → step s = .next t → t.Sound

/-- The paging parameters, the zone sets, the pickup-group records and the fallback code change by their own setting
requests and by a start-up only (R63, R71, R108, R109). -/
def Obligations.SettingsChangeBySettersOnly : Prop :=
  ∀ (c : Instr) (s t : State), exec c s = .next t → c.startsUp = false →
    ((∀ tag p, c ≠ .pagingSet tag p) → t.paging = s.paging) ∧
    ((∀ tag p, c ≠ .zonesetSet tag p) → t.zoneSets = s.zoneSets) ∧
    ((∀ tag p, c ≠ .pickgroupSet tag p) → t.pickups = s.pickups) ∧
    ((∀ tag p, c ≠ .fallbackSet tag p) → t.fallback = s.fallback)

/-- The active copy of the map changes by a verified map write and by a start-up only, the lock latch is set by a
MAP-PROTECT and left alone by everything but a start-up, and the range hold is set by a RANGE-HOLD and left alone by
everything but a start-up (R167, R169, R171). -/
def Obligations.MapIsGuarded : Prop :=
  ∀ (c : Instr) (s t : State), exec c s = .next t → c.startsUp = false →
    (c ≠ .mapWriteComplete true → t.map.copy = s.map.copy) ∧
    (s.map.locked = true → t.map.locked = true) ∧
    ((∀ e tag p, c ≠ .mapProtect e tag p) → t.map.locked = s.map.locked) ∧
    (s.map.rangeHeld = true → t.map.rangeHeld = true ∧ t.map.activeRange = s.map.activeRange) ∧
    ((∀ tag p, c ≠ .rangeHold tag p) → t.map.rangeHeld = s.map.rangeHeld)

/-! ## The host link -/

/-- A payload written by the field encodings reads back as the same fields, for every request whose fields fit their
bytes and whose present optional fields are not all ones (R2, R186). -/
def Obligations.PayloadsReadBack : Prop :=
  (∀ o : LineReportOp, o.ext < 65536 → o.state < 256 → LineReportOp.read o.bytes = some o) ∧
  (∀ o : DirectRingOp, o.call < 65536 → o.ext < 65536 → (∀ p, o.priority = some p → p < 255) →
    DirectRingOp.read o.bytes = some o) ∧
  (∀ o : CallAnswerOp, o.call < 65536 → o.ext < 65536 → CallAnswerOp.read o.bytes = some o) ∧
  (∀ n : Nat, n < 65536 → readNumber2 (put2 n) = some n) ∧
  (∀ n : Nat, n < 256 → readNumber1 (put1 n) = some n) ∧
  (∀ o : GroupSetOp, o.group < 256 → o.configured < 256 → o.discipline < 256 → o.noAnswerTime < 65536 →
    o.passLimit < 256 → o.waitingDepth < 256 → o.maximumWait < 65536 → o.overflow.code < 256 →
    o.overflow.value < 65536 → o.traceEnable < 256 → o.traceAccept < 256 → o.traceThrough < 256 → o.pickable < 256 →
    o.safety < 256 → o.emergencyHold < 256 → (∀ n, o.homeSet = some n → n < 255) →
    (∀ n, o.autoSet = some n → n < 255) → o.autoThreshold < 65536 → GroupSetOp.read o.bytes = some o) ∧
  (∀ o : RosterQueryOp, o.group < 256 → o.first < 256 → RosterQueryOp.read o.bytes = some o) ∧
  (∀ o : CallArriveOp, o.call < 65536 → o.group < 256 → o.priority < 256 → o.callerClass < 256 →
    CallArriveOp.read o.bytes = some o) ∧
  (∀ c : Option Nat, (∀ n, c = some n → n < 65535) → readFallback (putOpt2 c) = some c) ∧
  (∀ o : PickupAskOp, o.picker < 65536 → o.mode < 256 → (∀ n, o.target = some n → n < 65535) →
    (∀ n, o.expected = some n → n < 65535) → PickupAskOp.read o.bytes = some o) ∧
  (∀ o : ExtSetOp, o.ext < 65536 → (∀ n, o.pickupGroup = some n → n < 255) → ExtSetOp.read o.bytes = some o) ∧
  (∀ o : ParkAskOp, o.call < 65536 → o.parker < 65536 → (∀ n, o.orbit = some n → n < 255) → o.announce < 256 →
    ParkAskOp.read o.bytes = some o) ∧
  (∀ o : OrbitSetOp, o.orbit < 256 → o.parkTime < 65536 → o.recallRingTime < 65536 → o.recallMode < 256 →
    (∀ n, o.recallGroup = some n → n < 255) → (∀ n, o.announceSet = some n → n < 255) →
    OrbitSetOp.read o.bytes = some o) ∧
  (∀ o : RetrieveAskOp, o.orbit < 256 → o.ext < 65536 → (∀ n, o.expected = some n → n < 65535) →
    RetrieveAskOp.read o.bytes = some o) ∧
  (∀ o : PageAskOp, o.source.code < 256 → o.source.value < 65536 → o.cls < 256 → o.target.code < 256 →
    o.target.value < 65536 → o.mode < 256 → o.suspendAllowed < 256 → o.maxDuration < 65536 →
    PageAskOp.read o.bytes = some o) ∧
  (∀ o : ZoneSetSetOp, o.number < 256 → ZoneSetSetOp.read o.bytes = some o) ∧
  (∀ o : PagingSetOp, o.chime.emergency < 256 → o.chime.urgent < 256 → o.chime.normal < 256 →
    o.chime.background < 256 → o.hangTime < 256 → o.suspensionLimit < 65536 →
    (-32768 ≤ o.margin.emergency ∧ o.margin.emergency ≤ 32767) → (-32768 ≤ o.margin.urgent ∧ o.margin.urgent ≤ 32767) →
    (-32768 ≤ o.margin.normal ∧ o.margin.normal ≤ 32767) →
    (-32768 ≤ o.margin.background ∧ o.margin.background ≤ 32767) → PagingSetOp.read o.bytes = some o) ∧
  (∀ o : ZoneSetOp, o.zone < 256 → o.initialNoise < 65536 → o.floor < 256 → o.ceiling < 256 → o.minCode < 256 →
    o.maxCode < 256 → o.riseFactor < 256 → o.fallFactor < 256 → o.staleTime < 65536 → o.reseed < 256 →
    ZoneSetOp.read o.bytes = some o) ∧
  (∀ o : ExcludeSetOp, o.enabled < 256 → o.lower < 256 → o.upper < 256 → o.invert < 256 →
    ExcludeSetOp.read o.bytes = some o) ∧
  (∀ o : TraceSetOp, o.depth < 65536 → o.ungrouped < 256 → o.freezeOnAlarm < 256 →
    (∀ n, o.control = some n → n < 255) → TraceSetOp.read o.bytes = some o) ∧
  (∀ o : TraceReadOp, o.start < 256 → o.count < 256 → TraceReadOp.read o.bytes = some o) ∧
  (∀ o : MembersSetOp, o.group < 256 → o.entries.length < 256 →
    (∀ e ∈ o.entries, e.ext < 65536 ∧ e.weight < 256 ∧ e.presence < 256) → MembersSetOp.read o.bytes = some o) ∧
  (∀ o : PresenceStageOp, o.group < 256 → o.entries.length < 256 →
    (∀ e ∈ o.entries, e.ext < 65536 ∧ e.presence < 256) → PresenceStageOp.read o.bytes = some o) ∧
  (∀ o : PickgroupSetOp, o.group < 256 → o.configured < 256 → o.directedOpen < 256 → o.assist.length < 256 →
    (∀ p ∈ o.assist, p < 256) → PickgroupSetOp.read o.bytes = some o) ∧
  (∀ o : MapWriteOp, o.sensitivity.length = 64 → (∀ n ∈ o.sensitivity, n < 256) → o.inputs.length = 4 →
    (∀ i ∈ o.inputs, i.mode < 256) → o.ceiling < 256 → o.enabled < 256 → o.lower < 256 → o.upper < 256 →
    o.invert < 256 → o.protection < 256 → MapWriteOp.read o.bytes = some o)

/-- Frames join the output queue behind the others, or are dropped and counted up to 255: replies join while the queue
holds fewer than 48 frames, directives and notices while it also holds fewer than 40 of their kind. The frame at the
head leaves; when frames were lost and OUTPUT-LOST may join, it joins with the count, which returns to 0 (R190). While a
link reset is due each departure brings it one frame nearer, and nothing leaves once the reply of RESET-NOW has left
(R193). What leaves is the start byte, the length, kind, tag, payload and the CRC of the bytes from the length on,
shifted in bit by bit (R186): a reply's payload is its outcome, its reason or FFh, and its fields; FRAME-ERROR's is its
cause; directives and notices have the codes and fields of their tables, with tag 0 (R184, R187, R189, R191, R192,
R194). MODEL'S CHOICE: the numbering of the values that no table numbers (log entry 7), the bytes of the map's levels
(log entry 7), and the enable line of MAP-READ as low 0 and high 1 (log entry 13). -/
def Obligations.OutputQueueJoinsAndDeparts : Prop :=
  (∀ (l : LinkUnit) (f : OutFrame),
    (l.output.length < 48 → f.unsolicited = false ∨ unsolicitedCount l.output < 40 →
      l.put f = { l with output := l.output ++ [f] }) ∧
    (48 ≤ l.output.length ∨ (f.unsolicited = true ∧ 40 ≤ unsolicitedCount l.output) →
      l.put f = { l with lost := min (l.lost + 1) 255 })) ∧
  (∀ (f : OutFrame) (rest : List OutFrame) (s : State), s.running = true → s.link.resetAfter ≠ some 0 →
    s.link.output = f :: rest → rest.length < 48 →
    let left : LinkUnit :=
      { s.link with output := rest, sentBytes := f.bytes, resetAfter := s.link.resetAfter.map fun n => n - 1 }
    (s.link.lost = 0 ∨ 40 ≤ unsolicitedCount rest → exec .outputDepart s = .next { s with link := left }) ∧
    (s.link.lost ≠ 0 → unsolicitedCount rest < 40 →
      exec .outputDepart s = .next { s with link :=
        { left with output := rest ++ [.notice (.outputLost s.link.lost)], lost := 0 } })) ∧
  (∀ s : State, s.running = true → s.link.output = [] ∨ s.link.resetAfter = some 0 → exec .outputDepart s = .next s) ∧
  let crc (l : List Byte) : BitVec 16 := (l.flatMap fun b => (List.range 8).map fun i => b.getLsbD (7 - i)).foldl
    (fun r bit => (r <<< 1) ^^^ (if r.getLsbD 15 = bit then 0 else 0x1021)) 0xFFFF
  let frame (kind tag : Byte) (p : List Byte) : List Byte :=
    let body := BitVec.ofNat 8 (p.length + 2) :: kind :: tag :: p
    0xA5 :: (body ++ [(crc body).extractLsb' 8 8, (crc body).extractLsb' 0 8])
  let n1 (n : Nat) : Byte := BitVec.ofNat 8 n
  let n2 (n : Nat) : List Byte := [n1 (n / 256), n1 n]
  let o1 (n : Option Nat) : Byte := (n.map n1).getD 0xFF
  let o2 (n : Option Nat) : List Byte := (n.map n2).getD [0xFF, 0xFF]
  let yes (b : Bool) : Byte := if b then 1 else 0
  let z8 (z : ZoneSet) : List Byte := (List.range 8).map fun i => z.extractLsb' (56 - 8 * i) 8
  let kindOf (k : CallKind) : Byte := n1 ([.hunt, .direct, .recalled].idxOf k)
  let presence (p : Presence) : Byte := n1 ([.available, .standby, .paused, .signedOff].idxOf p)
  let fault (c : FaultCause) : Byte := n1 ([.noReply, .amplifier, .lineOpen, .overtemperature].idxOf c)
  let mode (m : AlarmMode) : Byte := n1 ([.unused, .evacuate, .muster, .alert].idxOf m)
  let protection (p : Protection) : Byte := n1 ([.anyone, .line, .permanent].idxOf p)
  let status (m : MapStatus) : Byte := n1 ([.valid, .default, .writing, .storeInvalid].idxOf m)
  let cause (c : ResetCause) : Byte := n1 ([.powerOn, .pin, .link].idxOf c)
  let ended (r : EndReason) : Nat := [.stopped, .duration, .sourceGone, .alarmCleared, .released, .preempted,
    .suspendTimeout, .allExcluded, .uninstalled].idxOf r
  let range (r : ExclusionRange) : List Byte := [yes r.enabled, n1 r.lower, n1 r.upper, yes r.invert]
  let entry (e : Option TraceRecord) : List Byte := match e with
    | none => 0 :: List.replicate 13 0xFF
    | some r => n1 (1 + [.offer, .answer, .noAnswer, .wait, .abandon, .overflow, .divert, .pickup, .park, .retrieve,
        .recall, .pageStart, .pageSuspend, .pageEnd].idxOf r.kind) :: (o2 r.call ++ [o1 r.group, o1 r.target] ++
        o2 r.ext ++ [o1 r.orbit] ++ o2 r.page ++ [n1 r.level, n1 r.detail] ++
        n2 ((if r.valid = true then 32768 else 0) + 1024 * r.exponent + r.mantissa))
  let fields (b : ReplyBody) : List Byte := match b with
    | .nothing => []
    | .call r => n2 r.ref ++ [kindOf r.kind, n1 ([.waitingQueued, .waitingRinging, .ringingDirect, .recallRinging,
        .connected, .parked].idxOf r.state), o1 r.group, n1 r.priority] ++ n2 r.waited ++ [n1 r.passCount, n1 r.depth] ++
        o2 r.noAnswerLeft ++ o2 r.maxWaitLeft ++ o2 r.connected ++ [o1 r.orbit] ++
        n1 r.ringing.length :: r.ringing.flatMap n2 ++ n1 r.tried.length :: r.tried.flatMap n2
    | .roster r => [n1 r.group, yes r.configured, yes r.commitInProgress, yes r.rosterChanged, yes r.forcing,
        n1 r.memberCount, n1 r.first, n1 r.members.length] ++ r.members.flatMap fun m =>
          n2 m.ext ++ [n1 m.weight, presence m.programmed, presence m.effective, (m.staged.map presence).getD 0xFF,
            yes m.pending] ++ n2 m.idleSeconds ++
            [(BitVec.ofInt 16 m.credit).extractLsb' 8 8, (BitVec.ofInt 16 m.credit).extractLsb' 0 8]
    | .arrival d g => [n1 ([.offered, .waiting, .diverted].idxOf d), o1 g]
    | .picked c k x g o => n2 c ++ [kindOf k] ++ n2 x ++ [o1 g, o1 o]
    | .parked o a p => [n1 o, n1 ([.placed, .notAsked, .noZoneSet, .notPlaced].idxOf a)] ++ o2 p
    | .retrieved c o k g => n2 c ++ [n1 o, kindOf k, o1 g]
    | .page p st n => n2 p ++ [n1 ([.queued, .opening, .live, .closing, .suspended].idxOf st), n1 n]
    | .level r => [n1 r.zone, yes r.installed] ++ n2 r.noise.toNat ++ [yes r.seeded, yes r.stale] ++ o2 r.sinceReading ++
        [yes r.limited, n1 r.gain, yes r.deliveryPending, yes r.faulted, (r.fault.map fault).getD 0xFF]
    | .map r => z8 r.contents.installed ++ (r.contents.sensitivity.toList.map fun n => n1 (n - 140)) ++
        (r.contents.inputs.toList.flatMap fun i => mode i.mode :: z8 i.zones) ++ n1 (r.contents.ceiling - 160) ::
        range r.contents.range ++ [protection r.contents.protection, status r.status, yes r.locked, yes r.rangeHeld] ++
        range r.activeRange ++ [yes r.enableLine]
    | .traceDepth d f => n2 d ++ [yes f]
    | .traceEntries st n d h f q es => [n1 st, n1 n] ++ n2 d ++ n2 h ++ [yes f] ++ n2 q ++ es.flatMap entry
    | .status r => [cause r.cause, status r.mapStatus, protection r.protection, yes r.locked, yes r.rangeHeld,
        yes r.armed] ++
        (r.inputs.flatMap fun i => [if i.active then 0 else 1, (i.mode.map mode).getD 0xFF] ++ o2 i.page) ++
        [if r.override then 0 else 1, yes r.frozen] ++ n2 r.calls ++ [n1 r.generalPages, n1 r.alarmPages, n1 r.lost]
  (∀ (k t : Byte) (b : ReplyBody),
    (OutFrame.reply k t .ok b).bytes = frame k t (0 :: 0xFF :: fields b) ∧
    (OutFrame.reply k t .pending b).bytes = frame k t (1 :: 0xFF :: fields b) ∧
    (OutFrame.reply k t .busy b).bytes = frame k t (2 :: 0xFF :: fields b) ∧
    ∀ r, (OutFrame.reply k t (.refused r) b).bytes = frame k t (3 :: n1 (1 + [.unknownKind, .badLength, .outOfRange,
      .notConfigured, .tableFull, .duplicate, .noSuchCall, .wrongState, .tooLate, .nothingToPick, .notPermitted, .empty,
      .limit, .commitPending, .notArmed, .protectedMap, .held, .allExcluded].idxOf r) :: fields b)) ∧
  ((OutFrame.frameError false).bytes = frame 0x80 0 [0] ∧ (OutFrame.frameError true).bytes = frame 0x80 0 [1]) ∧
  (∀ d : Directive, (OutFrame.directive d).bytes = match d with
    | .ring x c k => frame 0x40 0 (n2 x ++ n2 c ++ [n1 ([.hunt, .recall, .direct].idxOf k)])
    | .stopRing x c r => frame 0x41 0 (n2 x ++ n2 c ++ [n1 ([.answeredElsewhere, .noAnswer, .pickedUp, .callerGone,
        .withdrawn, .overflowed, .retrieved].idxOf r)])
    | .connect x c => frame 0x42 0 (n2 x ++ n2 c)
    | .waitHold c => frame 0x43 0 (n2 c)
    | .divert c code => frame 0x44 0 (n2 c ++ o2 code)
    | .parkHold c o => frame 0x45 0 (n2 c ++ [n1 o])
    | .pageAudio p ch (.ext x) on => frame 0x46 0 (n2 p ++ [n1 ch, 0] ++ n2 x ++ [if on then 0 else 1])
    | .pageAudio p ch (.prompt x) on => frame 0x46 0 (n2 p ++ [n1 ch, 1] ++ n2 x ++ [if on then 0 else 1])
    | .pageAudio p ch (.alarm i) on => frame 0x46 0 (n2 p ++ [n1 ch, 2] ++ n2 i ++ [if on then 0 else 1])
    | .pageState p st r => frame 0x47 0 (n2 p ++ [n1 ([.queued, .opening, .live, .closing, .suspended, .freed].idxOf st),
        o1 (r.map ended)])) ∧
  (∀ n : Notice, (OutFrame.notice n).bytes = match n with
    | .startUp c st p l h b => frame 0x60 0 [cause c, status st, protection p, yes l, yes h, n1 b.toNat]
    | .rosterDone g => frame 0x61 0 [n1 g]
    | .overrideAltered g k => frame 0x62 0 [n1 g, n1 k]
    | .overrideReleased => frame 0x63 0 []
    | .alarmChange i a m => frame 0x64 0 [n1 i, yes a, mode m]
    | .zoneFault z c => frame 0x65 0 [n1 z, fault c]
    | .zoneRestored z => frame 0x66 0 [n1 z]
    | .mapDone ok => frame 0x67 0 [if ok then 0 else 1]
    | .traceFrozen c => frame 0x68 0 [n1 ([.emergencyPage, .muster, .host].idxOf c)]
    | .outputLost k => frame 0x69 0 [n1 k])

/-- A payload whose length does not fit its kind is refused with BAD-LENGTH (R188), here for a kind without fields, for
one with fields and for one with a list. MODEL'S CHOICE (log entry 9), for every request command and for a frame of no
request kind: while frames stand in the request queue, the command changes nothing when its frame is not the one in
front, or when 40 or more frames stand in the output queue; on an empty request queue its frame arrives with it, and is
taken at once while fewer than 40 frames stand in the output queue, or else waits there as the queue's only frame. -/
def Obligations.RequestsAreTakenInOrder : Prop :=
  ∀ (tag : Byte) (p : List Byte) (s : State),
    (p ≠ [] → s.Takes ⟨0x22, tag, p⟩ → exec (.statusQuery tag p) s = .next (refusedWith ⟨0x22, tag, p⟩ .badLength s)) ∧
    (p.length ≠ 3 → s.Takes ⟨0x01, tag, p⟩ →
      exec (.lineReport tag p) s = .next (refusedWith ⟨0x01, tag, p⟩ .badLength s)) ∧
    (∀ (g n : Byte) (rest : List Byte), p = g :: n :: rest → rest.length ≠ 4 * n.toNat → s.Takes ⟨0x0D, tag, p⟩ →
      exec (.membersSet tag p) s = .next (refusedWith ⟨0x0D, tag, p⟩ .badLength s)) ∧
    (s.running = true → s.link.resetAfter = none →
      ∀ (other : Byte) (line : Bool), other.toNat = 0 ∨ 36 < other.toNat →
      ∀ r ∈ [((other, .unknownKind other tag p) : Byte × Instr), (0x01, .lineReport tag p), (0x02, .callArrive tag p),
        (0x03, .directRing tag p), (0x04, .callAnswer tag p), (0x05, .callGone tag p), (0x06, .pickupAsk tag p),
        (0x07, .parkAsk tag p), (0x08, .retrieveAsk tag p), (0x09, .pageAsk tag p), (0x0A, .pageStop tag p),
        (0x0B, .extSet tag p), (0x0C, .groupSet tag p), (0x0D, .membersSet tag p), (0x0E, .fallbackSet tag p),
        (0x0F, .presenceStage tag p), (0x10, .rosterCommit tag p), (0x11, .rosterQuery tag p),
        (0x12, .pickgroupSet tag p), (0x13, .orbitSet tag p), (0x14, .zonesetSet tag p), (0x15, .zoneSet tag p),
        (0x16, .pagingSet tag p), (0x17, .levelQuery tag p), (0x18, .excludeSet tag p), (0x19, .rangeHold tag p),
        (0x1A, .mapArm tag p), (0x1B, .mapWrite line tag p), (0x1C, .mapProtect line tag p), (0x1D, .mapRead line tag p),
        (0x1E, .traceSet tag p), (0x1F, .traceRead tag p), (0x20, .traceClear tag p), (0x21, .callQuery tag p),
        (0x22, .statusQuery tag p), (0x23, .resetPrepare tag p), (0x24, .resetNow tag p)],
      let f : Frame := ⟨r.1, tag, p⟩
      (s.link.requests ≠ [] → s.link.requests.head? ≠ some f ∨ 40 ≤ s.link.output.length → exec r.2 s = .next s) ∧
      (s.link.requests = [] → 40 ≤ s.link.output.length →
        exec r.2 s = .next { s with link := { s.link with requests := [f] } }) ∧
      (s.link.requests = [] → s.link.output.length < 40 →
        exec r.2 s = exec r.2 { s with link := { s.link with requests := [f] } }))

/-- The bytes of a well-formed frame, read one by one with their CRC, put the frame into the request queue, or are
answered BUSY when four requests stand in it (R187, R188). -/
def Obligations.FrameReceiveQueuesRequest : Prop :=
  ∀ (kind tag : Byte) (p : List Byte) (s : State), s.running = true → s.link.resetAfter = none →
    s.link.receiver = .hunting → p.length ≤ 246 →
    (s.link.requests.length < 4 → exec (.frameReceive kind tag p) s =
      .next { s with link := { s.link with requests := s.link.requests ++ [⟨kind, tag, p⟩] } }) ∧
    (4 ≤ s.link.requests.length → exec (.frameReceive kind tag p) s =
      .next { s with link := s.link.put (.reply (if 1 ≤ kind.toNat ∧ kind.toNat ≤ 36 then kind + 0x80 else 0xFF) tag
        .busy .nothing) })

/-- A frame with a wrong CRC, or with a length byte below 2 or above 248, is discarded and FRAME-ERROR names the cause;
a frame in reception is abandoned without a reply once more than 20 ms have passed since its last byte (R187). MODEL'S
CHOICE (log entry 5): RECEIVE_GAP_TIMEOUT lets time run on to the first whole millisecond past the 20. -/
def Obligations.DamagedFramesAreDiscarded : Prop :=
  (∀ s : State, s.running = true → s.link.resetAfter = none → s.link.receiver = .hunting →
    (∀ (n : Byte) (body : List Byte) (c1 c0 : Byte), 2 ≤ n.toNat → n.toNat ≤ 248 → body.length = n.toNat →
      crc16 (n :: body) ≠ c1 ++ c0 →
      exec (.frameError (0xA5 :: n :: (body ++ [c1, c0]))) s = .next { s with link := s.link.put (.frameError false) }) ∧
    (∀ n : Byte, n.toNat < 2 ∨ 248 < n.toNat →
      exec (.frameError [0xA5, n]) s = .next { s with link := s.link.put (.frameError true) })) ∧
  (∀ (bytes : List Byte) (lastAt : Nat) (s : State), s.running = true → s.link.receiver = .inFrame bytes lastAt →
    ∃ t, exec .receiveGapTimeout s = .next t ∧ t.link = { s.link with receiver := .hunting } ∧
      t.clock = max s.clock (lastAt + 21))

/-- A taken frame whose kind is no request kind is refused with UNKNOWN-KIND under kind code FFh (R188, R189). -/
def Obligations.UnknownKindIsRefused : Prop :=
  ∀ (kind tag : Byte) (p : List Byte) (s : State), kind.toNat = 0 ∨ 36 < kind.toNat → s.Takes ⟨kind, tag, p⟩ →
    exec (.unknownKind kind tag p) s = .next { s with
      link := { s.link with
        output := s.link.output ++ [.reply 0xFF tag (.refused .unknownKind) .nothing]
        requests := s.link.requests.drop 1, prepared := false }
      map := { s.map with armed := false } }

/-- STATUS-QUERY reports and changes nothing but what answering changes (R192). -/
def Obligations.StatusQueryReports : Prop :=
  ∀ (tag : Byte) (s : State), s.Takes ⟨0x22, tag, []⟩ →
    exec (.statusQuery tag []) s = .next (answered ⟨0x22, tag, []⟩ .ok (.status
      { cause := s.link.cause, mapStatus := s.map.status, protection := s.map.copy.protection, locked := s.map.locked
        rangeHeld := s.map.rangeHeld, armed := s.map.armed
        inputs := (List.range 4).map fun i => { active := (s.input i).active
                                                mode := if (s.input i).active then some (s.input i).latchedMode else none
                                                page := (s.input i).page }
        override := s.override, frozen := s.trace.frozen, calls := s.calls.length
        generalPages := (s.pages.filter fun p => p.alarm.isNone).length
        alarmPages := (s.pages.filter fun p => p.alarm.isSome).length, lost := s.link.lost }) s)

/-- RESET-PREPARE sets the preparation flag; RESET-NOW with the flag makes the link reset due once its reply, behind the
frames already waiting, has left, and discards the waiting requests; without the flag it is refused with NOT-ARMED.
From then on no request of any kind is taken, and frames received are discarded without a reply, those with a wrong CRC
or a bad length too (R187, R193). -/
def Obligations.LinkResetIsPreparedFirst : Prop :=
  ∀ (tag : Byte) (s : State),
    (s.Takes ⟨0x23, tag, []⟩ → exec (.resetPrepare tag []) s = .next { s with
      link := { s.link with
        output := s.link.output ++ [.reply 0xA3 tag .ok .nothing]
        requests := s.link.requests.drop 1, prepared := true }
      map := { s.map with armed := false } }) ∧
    (s.Takes ⟨0x24, tag, []⟩ → s.link.prepared = true → exec (.resetNow tag []) s = .next { s with
      link := { s.link with
        output := s.link.output ++ [.reply 0xA4 tag .ok .nothing]
        requests := [], prepared := false, resetAfter := some (s.link.output.length + 1) }
      map := { s.map with armed := false } }) ∧
    (s.Takes ⟨0x24, tag, []⟩ → s.link.prepared = false → exec (.resetNow tag []) s =
      .next (refusedWith ⟨0x24, tag, []⟩ .notArmed s)) ∧
    (∀ n, s.running = true → s.link.resetAfter = some n →
      (∀ (kind : Byte) (line : Bool) (p : List Byte), ∀ i ∈ [Instr.unknownKind kind tag p, .lineReport tag p,
        .directRing tag p, .callAnswer tag p, .callGone tag p, .callQuery tag p, .groupSet tag p, .membersSet tag p,
        .presenceStage tag p, .rosterCommit tag p, .rosterQuery tag p, .callArrive tag p, .fallbackSet tag p,
        .pickupAsk tag p, .pickgroupSet tag p, .extSet tag p, .parkAsk tag p, .orbitSet tag p, .retrieveAsk tag p,
        .pageAsk tag p, .pageStop tag p, .zonesetSet tag p, .pagingSet tag p, .zoneSet tag p, .levelQuery tag p,
        .mapRead line tag p, .mapArm tag p, .mapWrite line tag p, .mapProtect line tag p, .excludeSet tag p,
        .rangeHold tag p, .traceSet tag p, .traceClear tag p, .traceRead tag p, .statusQuery tag p, .resetPrepare tag p,
        .resetNow tag p], exec i s = .next s) ∧
      (s.link.receiver = .hunting →
        (∀ (kind : Byte) (p : List Byte), p.length ≤ 246 → exec (.frameReceive kind tag p) s = .next s) ∧
        (∀ (b : Byte) (body : List Byte) (c1 c0 : Byte), 2 ≤ b.toNat → b.toNat ≤ 248 → body.length = b.toNat →
          crc16 (b :: body) ≠ c1 ++ c0 → exec (.frameError (0xA5 :: b :: (body ++ [c1, c0]))) s = .next s) ∧
        (∀ b : Byte, b.toNat < 2 ∨ 248 < b.toNat → exec (.frameError [0xA5, b]) s = .next s)))

/-! ## Resets -/

/-- With the lines quiet and a store that fails its check, power-on leaves the model's reset state whatever stood
before; the parts of that state for which the manual gives a value are those of R4, R11, R20, R23, R35, R63, R70, R87,
R105, R109, R113, R137, R147, R163, R173 and R194, the rest is log entry 3. -/
def Obligations.PowerOnGivesReset : Prop :=
  ∀ s : State, s.supply.resetLow = false →
    exec (.powerOn { straps := 0, closed := 0, storeHolds := false }) s = .next { State.reset with pending := s.pending }

/-- What a start-up by link or pin finds and keeps: the START-UP notice with its cause stands alone in the output queue,
calls and pages are gone, the contacts are sampled, a good store is the active map, and a damaged store or a map write
in flight leaves the default map (R156, R163, R168). The link reset, which waits for its reply to leave, keeps the lock
latch and a held exclusion range; the pin reset, which releases a part held by RST# or not, does not, and its cause is
POWER-ON when power was applied since the last start-up (R193, R194). MODEL'S CHOICE: the operand `storeHolds` says
whether the store still holds its contents (log entry 12), the CRC of the store is over the model's bytes of the map
(log entry 8), and PIN_RESET of a part without power only releases the line (log entry 11). -/
def Obligations.StartUpSequence : Prop :=
  ∀ (sample : StartSample) (s : State),
    let found (t : State) : Prop :=
      (∀ i < 4, (t.input i).closed = sample.closed.getLsbD i ∧ (t.input i).active = false) ∧
      (∀ m, s.map.store = .copy m (crc16 m.bytes) → m.inRange = true → s.map.writing = none →
        sample.storeHolds = true → t.map.copy = m ∧ t.map.status = .valid) ∧
      (s.map.store = .damaged ∨ s.map.writing ≠ none ∨ sample.storeHolds = false →
        t.map.copy = EmergencyMap.default ∧ t.map.status = .default) ∧
      t.map.writing = none ∧ t.map.armed = false
    (s.running = true → s.link.resetAfter ≠ some 0 → exec (.linkReset sample) s = .next s) ∧
    (s.running = true → s.link.resetAfter = some 0 → ∃ t, exec (.linkReset sample) s = .next t ∧ t.pending = s.pending ∧
      t.running = true ∧ t.clock = 0 ∧ t.calls = [] ∧ t.pages = [] ∧ t.trace = State.reset.trace ∧
      t.groups = State.reset.groups ∧ t.exts = State.reset.exts ∧ t.orbits = State.reset.orbits ∧
      t.pickups = State.reset.pickups ∧ t.levels = State.reset.levels ∧ found t ∧
      t.map.locked = s.map.locked ∧ t.map.rangeHeld = s.map.rangeHeld ∧
      (s.map.rangeHeld = true → t.map.activeRange = s.map.activeRange) ∧
      (s.map.rangeHeld = false → t.map.activeRange = t.map.copy.range) ∧
      t.link.output = [.notice (.startUp .link t.map.status t.map.copy.protection s.map.locked s.map.rangeHeld
        sample.straps)]) ∧
    (s.supply.powered = true → ∃ t, exec (.pinReset sample) s = .next t ∧ t.pending = s.pending ∧
      t.supply = { powered := true, resetLow := false, freshPower := false } ∧ t.clock = 0 ∧ t.calls = [] ∧
      t.pages = [] ∧ found t ∧ t.map.locked = false ∧ t.map.rangeHeld = false ∧ t.map.activeRange = t.map.copy.range ∧
      t.link.output = [.notice (.startUp (if s.supply.freshPower then .powerOn else .pin) t.map.status
        t.map.copy.protection false false sample.straps)]) ∧
    (s.supply.powered = false →
      exec (.pinReset sample) s = .next { s with supply := { s.supply with resetLow := false } })

/-- A part whose reset line is asserted, or that loses its power, stops: its queues and its exchange are gone, and a map
write in flight leaves the store unable to pass its check (R168, R193; log entry 12). MODEL'S CHOICE (log entry 11, from
'the part is held in reset while it is low' of the pin summary): until power or the reset line returns it ignores every
command but the resets and a loss of power. -/
def Obligations.HeldPartDoesNothing : Prop :=
  (∀ s : State,
    (∃ t, exec .resetLineAsserted s = .next t ∧ t.running = false ∧ t.supply.powered = s.supply.powered ∧
      t.link.output = [] ∧ t.link.requests = [] ∧ t.exchange = none ∧ t.map.writing = none ∧
      t.map.store = (if s.map.writing.isSome then .damaged else s.map.store)) ∧
    (∃ t, exec .powerLoss s = .next t ∧ t.running = false ∧ t.supply.powered = false ∧
      t.link.output = [] ∧ t.link.requests = [] ∧ t.exchange = none ∧ t.map.writing = none ∧
      t.map.store = (if s.map.writing.isSome then .damaged else s.map.store))) ∧
  (∀ (c : Instr) (s : State), s.running = false → c.actsAlways = false → exec c s = .next s)

/-! ## Lines and calls -/

/-- A LINE-REPORT outside its ranges is refused (R7). A report of OFFHOOK, INCALL or OUT for an extension without a
ringing mark, which no page it ends has as its source, sets its line state and does nothing else (R7, R9, R10). A report
of IDLE for an extension that holds a mark, and is the source of no page, leaves the ring as it is (R8). A report of
OFFHOOK for an extension that a call rings withdraws the ring with STOP-RING (WITHDRAWN) (R6, R8): a direct call stays
RINGING-DIRECT, unrung; a hunt offer that rings another extension too goes on; one that rings no other, here with no
member that can be rung but one untried, is QUEUED with WAIT-HOLD and a WAIT record (R52 to R54); a recalled call, here
of an orbit without a recall group, leaves the orbit and is diverted (R95, R97). A report of INCALL or OUT does the same
for an extension that no page has as its source (R8). A report of IDLE, INCALL or OUT ends the only page, one of the
host, whose source is the extension, with reason SOURCE-GONE: a waiting page is removed, one LIVE in one zone closes,
and its frames precede the reply (R10, R128, R129). A report of IDLE for an extension without a mark, AVAILABLE in its
only group, runs the arbitration over it: the group's only QUEUED call, which has not tried it, is offered to it, with
RING, an OFFER record and the no-answer timer (R9, R49, R55, R56; here in a group that is neither held nor CIRCULAR). -/
def Obligations.LineReportActsOnLine : Prop :=
  ∀ (tag : Byte) (p : List Byte) (o : LineReportOp) (s : State), LineReportOp.read p = some o → s.Takes ⟨0x01, tag, p⟩ →
    let lifts (st : LineState) : Prop := (o.state, st) ∈ [(1, .offhook), (2, .inCall), (3, .out)] ∧
      (o.state = 1 ∨ ∀ q ∈ s.pages, q.source ≠ .ext o.ext)
    (1023 < o.ext ∨ 3 < o.state → exec (.lineReport tag p) s = .next (refusedWith ⟨0x01, tag, p⟩ .outOfRange s)) ∧
    (∀ st, o.ext ≤ 1023 → (o.state, st) ∈ [(1, LineState.offhook), (2, .inCall), (3, .out)] →
      (s.ext o.ext).ringing = none → (o.state = 1 ∨ ∀ q ∈ s.pages, q.source ≠ .ext o.ext) →
      exec (.lineReport tag p) s =
        .next (answered ⟨0x01, tag, p⟩ .ok .nothing (s.modExt o.ext fun r => { r with line := st }))) ∧
    (o.ext ≤ 1023 → o.state = 0 → (s.ext o.ext).ringing ≠ none → (∀ q ∈ s.pages, q.source ≠ .ext o.ext) →
      exec (.lineReport tag p) s =
        .next (answered ⟨0x01, tag, p⟩ .ok .nothing (s.modExt o.ext fun r => { r with line := .idle }))) ∧
    (∀ st c k, o.ext ≤ 1023 → lifts st → (s.ext o.ext).ringing = some c → s.call? c = some k →
      k.state = .ringingDirect →
      exec (.lineReport tag p) s = .next (answered ⟨0x01, tag, p⟩ .ok .nothing
        (direct (.stopRing o.ext c .withdrawn)
          ((s.modExt o.ext fun r => { r with line := st, ringing := none }).modCall c fun k =>
            { k with ringing := k.ringing.filter (· != o.ext) })))) ∧
    (∀ st g c k, o.ext ≤ 1023 → lifts st → (s.ext o.ext).ringing = some c → s.call? c = some k → k.state = .waiting →
      k.group = some g → (∀ m ∈ (s.group g).members, m.pending = false) →
      ((∃ y ∈ k.ringing, y ≠ o.ext) →
        exec (.lineReport tag p) s = .next (answered ⟨0x01, tag, p⟩ .ok .nothing
          (direct (.stopRing o.ext c .withdrawn)
            ((s.modExt o.ext fun r => { r with line := st, ringing := none }).modCall c fun k =>
              { k with ringing := k.ringing.filter (· != o.ext) })))) ∧
      (k.ringing = [o.ext] → (∀ m ∈ (s.group g).members, m.ext ≠ o.ext → (s.ext m.ext).line ≠ .idle) →
        (∃ m ∈ (s.group g).members, (m.effective = .available ∨ m.effective = .standby) ∧ m.ext ∉ k.tried) →
        exec (.lineReport tag p) s = .next (answered ⟨0x01, tag, p⟩ .ok .nothing
          (offerRecord { TraceRecord.offered .wait k.priority with call := some c, group := some g }
            (direct (.waitHold c) (direct (.stopRing o.ext c .withdrawn)
              ((s.modExt o.ext fun r => { r with line := st, ringing := none }).modCall c fun k =>
                { k with ringing := k.ringing.filter (· != o.ext), noAnswerDue := none }))))))) ∧
    (∀ st n c k, o.ext ≤ 1023 → lifts st → (s.ext o.ext).ringing = some c → s.call? c = some k →
      k.state = .recallRinging → k.orbit = some n → (s.orbit n).call = some c → (s.orbit n).recallGroup = none →
      (s.orbit n).announcePage = none →
      exec (.lineReport tag p) s = .next (answered ⟨0x01, tag, p⟩ .ok .nothing
        (offerRecord { TraceRecord.offered .divert k.priority with call := some c, orbit := some n, detail := k.depth }
          (direct (.divert c s.fallback) (direct (.stopRing o.ext c .withdrawn)
            { (s.modOrbit n fun r =>
              { r with state := .free, call := none, parker := none, parkDue := none, recallDue := none
                       announcePage := none }).modExt o.ext fun r => { r with line := st, ringing := none } with
              calls := s.calls.filter fun k => k.ref != c }))))) ∧
    (∀ st r, o.ext ≤ 1023 → (o.state, st) ∈ [(0, LineState.idle), (2, .inCall), (3, .out)] →
      (s.ext o.ext).ringing = none → o.state ≠ 0 ∨ (s.ext o.ext).memberOf = [] → s.pages = [r] →
      r.source = .ext o.ext → r.alarm = none → r.requester = .host →
      (r.state = .queued ∨ r.state = .suspended → s.ZonesQuiet →
        exec (.lineReport tag p) s = .next (answered ⟨0x01, tag, p⟩ .ok .nothing
          (offerRecord (r.traceRecord .pageEnd 3) (direct (.pageState r.id .freed (some .sourceGone))
            { s.modExt o.ext fun x => { x with line := st } with pages := [] })))) ∧
      (∀ z ch, z ≤ 63 → r.cls ≠ .emergency → r.state = .live → r.channel = some ch → r.audioSent = true →
        (s.zone z).state = .live r.id → (∀ y, y ≠ z → (s.zone y).state = .idle) → s.covered = 0 →
        s.paging.hangTime ≠ 0 → unsolicitedCount s.link.output < 39 →
        ∃ t, exec (.lineReport tag p) s = .next t ∧ t.exts = (s.modExt o.ext fun x => { x with line := st }).exts ∧
          t.zone z = { state := .closing r.id none, chimeDue := none
                       hangDue := some (s.clock + 100 * s.paging.hangTime) } ∧
          t.pages = [{ r with state := .closing, channel := none, audioSent := false, durationDue := none
                              endReason := some .sourceGone }] ∧
          (t.amp z).commanded = { (s.amp z).commanded with gain := 255, ramp := s.paging.hangTime, chime := false } ∧
          t.link.output = s.link.output ++ [.directive (.pageAudio r.id ch r.source false),
            .directive (.pageState r.id .closing (some .sourceGone)), .reply 0x81 tag .ok .nothing])) ∧
    (∀ g c k, o.ext ≤ 1023 → o.state = 0 → (s.ext o.ext).ringing = none → (s.ext o.ext).memberOf = [g] →
      (s.group g).configured = true → s.held g = false → (s.group g).discipline ≠ .circular →
      (∃ m ∈ (s.group g).members, m.ext = o.ext ∧ m.effective = .available) → (s.group g).waiting = [c] →
      s.call? c = some k → k.ringing = [] → o.ext ∉ k.tried → (∀ q ∈ s.pages, q.source ≠ .ext o.ext) →
      exec (.lineReport tag p) s = .next (answered ⟨0x01, tag, p⟩ .ok .nothing
        (offerRecord { TraceRecord.offered .offer k.priority with call := some c, group := some g, ext := some o.ext }
          (direct (.ring o.ext c .hunt)
            ((s.modExt o.ext fun r =>
              { r with line := .idle, ringing := some c, ringStart := min (s.clock / 100) 4294967295 }).modCall c fun k =>
              { k with ringing := k.ringing ++ [o.ext], tried := insertAscending o.ext k.tried
                       noAnswerDue := some (s.clock + 100 * (s.group g).noAnswerTime) })))))

/-- DIRECT-RING's checks in the order of their table, and what a taken one does: a DIRECT context and a ringing mark,
RING with cadence DIRECT, then OK (R5, R14). -/
def Obligations.DirectRingRingsExtension : Prop :=
  ∀ (tag : Byte) (p : List Byte) (o : DirectRingOp) (s : State), DirectRingOp.read p = some o → s.Takes ⟨0x03, tag, p⟩ →
    exec (.directRing tag p) s = .next
      (if o.call = 0 ∨ 65534 < o.call ∨ 1023 < o.ext ∨ (∃ n, o.priority = some n ∧ 3 < n) then
        refusedWith ⟨0x03, tag, p⟩ .outOfRange s
      else if s.call? o.call ≠ none then refusedWith ⟨0x03, tag, p⟩ .duplicate s
      else if (s.ext o.ext).line ≠ .idle ∨ (s.ext o.ext).ringing ≠ none then refusedWith ⟨0x03, tag, p⟩ .wrongState s
      else if 256 ≤ s.calls.length then refusedWith ⟨0x03, tag, p⟩ .tableFull s
      else answered ⟨0x03, tag, p⟩ .ok .nothing (direct (.ring o.ext o.call .direct)
        { s with
          exts := (s.modExt o.ext fun r => { r with ringing := some o.call, ringStart := min (s.clock / 100) 4294967295 }).exts
          calls := s.calls ++ [{ ref := o.call, kind := .direct, state := .ringingDirect, group := none
                                 priority := o.priority.getD 0, waitingSince := min (s.clock / 100) 4294967295, tried := []
                                 passCount := 0, depth := 0, ringing := [o.ext], noAnswerDue := none
                                 maxWaitDue := none, connected := none, orbit := none }] }))

/-- CALL-ANSWER is refused with OUT-OF-RANGE, NO-SUCH-CALL or TOO-LATE, in this order (R15). The answer of a direct call
connects it: the mark is cleared without a STOP-RING, the call is CONNECTED, the extension INCALL, and the only frame is
the OK (R6, R16). The answer of a hunt offer, which may ring others too, also takes the call out of its waiting list,
starts the answerer's idle clock in the group afresh and offers an ANSWER record, with STOP-RING (ANSWERED-ELSEWHERE) to
each of the others in ringing-list order, here with no other call for them (R16, R17). Where the offer rings one other
extension, AVAILABLE and IDLE, the group's next call, QUEUED, is offered to it after the record: RING, an OFFER record
and the no-answer timer, before the reply (R17, R49, R55, R56; here in a group that is neither held nor CIRCULAR). The
parker's answer of a recall ring frees the orbit, without a record (R16, R17, R97). -/
def Obligations.CallAnswerConnectsDirectCall : Prop :=
  ∀ (tag : Byte) (p : List Byte) (o : CallAnswerOp) (s : State), CallAnswerOp.read p = some o → s.Takes ⟨0x04, tag, p⟩ →
    (o.call = 0 ∨ 65534 < o.call ∨ 1023 < o.ext →
      exec (.callAnswer tag p) s = .next (refusedWith ⟨0x04, tag, p⟩ .outOfRange s)) ∧
    (1 ≤ o.call → o.call ≤ 65534 → o.ext ≤ 1023 → s.call? o.call = none →
      exec (.callAnswer tag p) s = .next (refusedWith ⟨0x04, tag, p⟩ .noSuchCall s)) ∧
    (1 ≤ o.call → o.call ≤ 65534 → o.ext ≤ 1023 → s.call? o.call ≠ none → (s.ext o.ext).ringing ≠ some o.call →
      exec (.callAnswer tag p) s = .next (refusedWith ⟨0x04, tag, p⟩ .tooLate s)) ∧
    (∀ k, 1 ≤ o.call → o.call ≤ 65534 → o.ext ≤ 1023 → s.call? o.call = some k →
      (s.ext o.ext).ringing = some o.call → k.state = .ringingDirect → k.ringing = [o.ext] → k.group = none →
      k.orbit = none →
      exec (.callAnswer tag p) s = .next (answered ⟨0x04, tag, p⟩ .ok .nothing
        ((s.modExt o.ext fun r => { r with ringing := none, line := .inCall }).modCall o.call fun k =>
          { k with ringing := k.ringing.filter (· != o.ext), noAnswerDue := none, maxWaitDue := none
                   state := .connected, connected := some o.ext }))) ∧
    (∀ k g, 1 ≤ o.call → o.call ≤ 65534 → o.ext ≤ 1023 → s.call? o.call = some k →
      (s.ext o.ext).ringing = some o.call → k.state = .waiting → k.ringing = [o.ext] → k.group = some g →
      k.orbit = none → (∀ m ∈ (s.group g).members, m.pending = false) →
      exec (.callAnswer tag p) s = .next (answered ⟨0x04, tag, p⟩ .ok .nothing
        (offerRecord { TraceRecord.offered .answer k.priority with
            call := some o.call, group := some g, ext := some o.ext }
          (((s.modExt o.ext fun r => { r with ringing := none, line := .inCall }).modGroup g fun r =>
            { r with
              waiting := r.waiting.filter (· != o.call)
              members := r.members.map fun m => if m.ext = o.ext then { m with idleTenths := 0 } else m }).modCall
            o.call fun k =>
              { k with ringing := k.ringing.filter (· != o.ext), noAnswerDue := none, maxWaitDue := none
                       state := .connected, connected := some o.ext, tried := [], passCount := 0 })))) ∧
    (∀ k g, 1 ≤ o.call → o.call ≤ 65534 → o.ext ≤ 1023 → s.call? o.call = some k →
      (s.ext o.ext).ringing = some o.call → k.state = .waiting → k.group = some g → k.orbit = none →
      (∀ m ∈ (s.group g).members, m.pending = false) →
      let others := k.ringing.filter (· != o.ext)
      let stopped := others.foldl
        (fun t y => direct (.stopRing y o.call .answeredElsewhere) (t.modExt y fun r => { r with ringing := none }))
        (s.modExt o.ext fun r => { r with ringing := none, line := .inCall })
      let connected := offerRecord { TraceRecord.offered .answer k.priority with
          call := some o.call, group := some g, ext := some o.ext }
        ((stopped.modGroup g fun r =>
          { r with
            waiting := r.waiting.filter (· != o.call)
            members := r.members.map fun m => if m.ext = o.ext then { m with idleTenths := 0 } else m }).modCall
          o.call fun r =>
            { r with ringing := r.ringing.filter (· ∉ k.ringing), noAnswerDue := none, maxWaitDue := none
                     state := .connected, connected := some o.ext, tried := [], passCount := 0 })
      (o.ext ∈ k.ringing → (s.group g).waiting = [o.call] → (∀ y ∈ others, ∀ h ∈ (s.ext y).memberOf, h = g) →
        exec (.callAnswer tag p) s = .next (answered ⟨0x04, tag, p⟩ .ok .nothing connected)) ∧
      (∀ y b q, k.ringing = [o.ext, y] ∨ k.ringing = [y, o.ext] → y ≠ o.ext → (s.group g).waiting = [o.call, b] →
        b ≠ o.call → s.call? b = some q → q.ringing = [] → y ∉ q.tried → (s.ext y).line = .idle →
        (s.ext y).memberOf = [g] → (∃ m ∈ (s.group g).members, m.ext = y ∧ m.effective = .available) →
        (s.group g).configured = true → s.held g = false → (s.group g).discipline ≠ .circular →
        exec (.callAnswer tag p) s = .next (answered ⟨0x04, tag, p⟩ .ok .nothing
          (offerRecord { TraceRecord.offered .offer q.priority with call := some b, group := some g, ext := some y }
            (direct (.ring y b .hunt)
              ((connected.modExt y fun r =>
                { r with ringing := some b, ringStart := min (s.clock / 100) 4294967295 }).modCall b fun r =>
                { r with ringing := r.ringing ++ [y], tried := insertAscending y r.tried
                         noAnswerDue := some (s.clock + 100 * (s.group g).noAnswerTime) })))))) ∧
    (∀ k n, 1 ≤ o.call → o.call ≤ 65534 → o.ext ≤ 1023 → s.call? o.call = some k →
      (s.ext o.ext).ringing = some o.call → k.state = .recallRinging → k.ringing = [o.ext] → k.group = none →
      k.orbit = some n → (s.orbit n).call = some o.call → (s.orbit n).announcePage = none →
      exec (.callAnswer tag p) s = .next (answered ⟨0x04, tag, p⟩ .ok .nothing
        (((s.modExt o.ext fun r => { r with ringing := none, line := .inCall }).modCall o.call fun k =>
          { k with ringing := k.ringing.filter (· != o.ext), noAnswerDue := none, maxWaitDue := none
                   state := .connected, connected := some o.ext, orbit := none }).modOrbit n fun r =>
            { r with state := .free, call := none, parker := none, parkDue := none, recallDue := none
                     announcePage := none })))

/-- CALL-GONE frees a CONNECTED call and sends nothing but OK; an unknown reference is refused with NO-SUCH-CALL and one
outside the range with OUT-OF-RANGE (R13, R18). A direct call that rings an extension without memberships is freed with
STOP-RING (CALLER-GONE) (R6, R18); a QUEUED call leaves its waiting list and a PARKED one its orbit, each with an
ABANDON record and without a directive, and a hunt offer or a recall ring at one extension ends so with STOP-RING
(CALLER-GONE) before it, here with no other call for the extension (R65, R93, R100). -/
def Obligations.CallGoneFreesCall : Prop :=
  ∀ (tag : Byte) (p : List Byte) (c : Nat) (s : State), readNumber2 p = some c → s.Takes ⟨0x05, tag, p⟩ →
    (c = 0 ∨ 65534 < c → exec (.callGone tag p) s = .next (refusedWith ⟨0x05, tag, p⟩ .outOfRange s)) ∧
    (1 ≤ c → c ≤ 65534 → s.call? c = none →
      exec (.callGone tag p) s = .next (refusedWith ⟨0x05, tag, p⟩ .noSuchCall s)) ∧
    (∀ k, 1 ≤ c → c ≤ 65534 → s.call? c = some k → k.state = .connected →
      exec (.callGone tag p) s =
        .next (answered ⟨0x05, tag, p⟩ .ok .nothing { s with calls := s.calls.filter fun k => k.ref != c })) ∧
    (∀ k, 1 ≤ c → c ≤ 65534 → s.call? c = some k →
      (∀ x, k.state = .ringingDirect → k.ringing = [x] → (s.ext x).memberOf = [] →
        exec (.callGone tag p) s = .next (answered ⟨0x05, tag, p⟩ .ok .nothing (direct (.stopRing x c .callerGone)
          { s.modExt x fun r => { r with ringing := none } with calls := s.calls.filter fun k => k.ref != c }))) ∧
      (∀ g, k.state = .waiting → k.ringing = [] → k.group = some g → k.orbit = none →
        exec (.callGone tag p) s = .next (answered ⟨0x05, tag, p⟩ .ok .nothing
          (offerRecord { TraceRecord.offered .abandon k.priority with
              call := some c, group := some g, detail := k.depth }
            { s.modGroup g fun r => { r with waiting := r.waiting.filter (· != c) } with
              calls := s.calls.filter fun k => k.ref != c }))) ∧
      (∀ n, k.state = .parked → k.orbit = some n → (s.orbit n).call = some c → (s.orbit n).announcePage = none →
        exec (.callGone tag p) s = .next (answered ⟨0x05, tag, p⟩ .ok .nothing
          (offerRecord { TraceRecord.offered .abandon k.priority with
              call := some c, group := k.group, orbit := some n, detail := k.depth }
            { s.modOrbit n fun r =>
              { r with state := .free, call := none, parker := none, parkDue := none, recallDue := none
                       announcePage := none } with
              calls := s.calls.filter fun k => k.ref != c }))) ∧
      (∀ g x, k.state = .waiting → k.ringing = [x] → k.group = some g → k.orbit = none →
        (∀ m ∈ (s.group g).members, m.pending = false) → (s.group g).waiting = [c] → (∀ h ∈ (s.ext x).memberOf, h = g) →
        exec (.callGone tag p) s = .next (answered ⟨0x05, tag, p⟩ .ok .nothing
          (offerRecord { TraceRecord.offered .abandon k.priority with
              call := some c, group := some g, detail := k.depth }
            (direct (.stopRing x c .callerGone)
              { (s.modExt x fun r => { r with ringing := none }).modGroup g fun r => { r with waiting := [] } with
                calls := s.calls.filter fun k => k.ref != c })))) ∧
      (∀ n x, k.state = .recallRinging → k.ringing = [x] → k.orbit = some n → (s.orbit n).call = some c →
        (s.orbit n).announcePage = none → (s.ext x).memberOf = [] →
        exec (.callGone tag p) s = .next (answered ⟨0x05, tag, p⟩ .ok .nothing
          (offerRecord { TraceRecord.offered .abandon k.priority with
              call := some c, group := k.group, orbit := some n, detail := k.depth }
            (direct (.stopRing x c .callerGone)
              { (s.modExt x fun r => { r with ringing := none }).modOrbit n fun r =>
                { r with state := .free, call := none, parker := none, parkDue := none, recallDue := none
                         announcePage := none } with
                calls := s.calls.filter fun k => k.ref != c })))))

/-- CALL-QUERY reports the context and changes nothing but what answering changes (R19). MODEL'S CHOICE (log entry 1):
R19 states no rounding of the remaining times, so that of a running timer is the exact time in 100 ms units, rounded
down or up by a free value. -/
def Obligations.CallQueryReports : Prop :=
  ∀ (tag : Byte) (p : List Byte) (c : Nat) (k : CallContext) (s : State), readNumber2 p = some c →
    s.Takes ⟨0x21, tag, p⟩ → 1 ≤ c → c ≤ 65534 → s.call? c = some k →
    ∃ noAnswer maxWait, exec (.callQuery tag p) s = .next (answered ⟨0x21, tag, p⟩ .ok (.call
      { ref := k.ref, kind := k.kind
        state := match k.state with
          | .waiting => if k.ringing = [] then .waitingQueued else .waitingRinging
          | .ringingDirect => .ringingDirect
          | .recallRinging => .recallRinging
          | .connected => .connected
          | .parked => .parked
        group := k.group, priority := k.priority
        waited := min (min (s.clock / 100) 4294967295 - k.waitingSince) 65535
        passCount := k.passCount, depth := k.depth, noAnswerLeft := noAnswer, maxWaitLeft := maxWait
        connected := k.connected, orbit := k.orbit, ringing := k.ringing, tried := k.tried }) s) ∧
      (k.noAnswerDue = none → noAnswer = none) ∧ (k.maxWaitDue = none → maxWait = none) ∧
      (∀ t, k.noAnswerDue = some t → ∃ n, noAnswer = some n ∧
        (t - s.clock) / 100 ≤ n ∧ n ≤ (t - s.clock + 99) / 100) ∧
      (∀ t, k.maxWaitDue = some t → ∃ n, maxWait = some n ∧
        (t - s.clock) / 100 ≤ n ∧ n ≤ (t - s.clock + 99) / 100)

/-! ## Groups and rosters -/

/-- GROUP-SET is refused with OUT-OF-RANGE for a value outside those listed, then with WRONG-STATE for unconfiguring a
group with waiting calls or for a clamped depth below the number of waiting calls (R21). A taken one writes every field,
clamped, and a new discipline empties the cursor and the credits (R22); here the group is not under emergency hold.
While the override is active, a safety flag that is set, here in a group without waiting calls, forces every membership
to AVAILABLE and sends OVERRIDE-ALTERED with the number whose programmed presence is another, unless it is 0; one that
is cleared gives every membership its programmed presence, the idle clock 0 in STANDBY and SIGNED-OFF, without a notice
(R28, R37). MODEL'S CHOICE: the overflow target's form codes are 0 GROUP, 1 EXTERNAL and 255 absent (log entry 7, by
R186), and a form code 255 with a value other than 65,535, like any other form code, is OUT-OF-RANGE (log entry 30). -/
def Obligations.GroupSetWritesRecord : Prop :=
  ∀ (tag : Byte) (p : List Byte) (o : GroupSetOp) (s : State), GroupSetOp.read p = some o → s.Takes ⟨0x0C, tag, p⟩ →
    (63 < o.group ∨ 4 < o.discipline ∨ 1 < o.configured ∨ 1 < o.traceEnable ∨ 1 < o.traceAccept ∨ 1 < o.traceThrough ∨
        1 < o.pickable ∨ 1 < o.safety ∨ 1 < o.emergencyHold ∨
        (o.overflow.code ≠ 0 ∧ o.overflow.code ≠ 1 ∧ o.overflow ≠ ⟨255, 65535⟩) ∨
        (o.overflow.code = 0 ∧ 63 < o.overflow.value) ∨
        (o.overflow.code = 1 ∧ (o.overflow.value = 0 ∨ 65534 < o.overflow.value)) ∨ (∃ n, o.homeSet = some n ∧ 31 < n) ∨
        (∃ n, o.autoSet = some n ∧ 31 < n) →
      exec (.groupSet tag p) s = .next (refusedWith ⟨0x0C, tag, p⟩ .outOfRange s)) ∧
    (∀ f, o.fields = some f → o.group ≤ 63 → (∀ n, o.homeSet = some n → n ≤ 31) → (∀ n, o.autoSet = some n → n ≤ 31) →
      ((f.configured = false ∧ (s.group o.group).waiting ≠ []) ∨
          max 1 (min o.waitingDepth 16) < (s.group o.group).waiting.length →
        exec (.groupSet tag p) s = .next (refusedWith ⟨0x0C, tag, p⟩ .wrongState s)) ∧
      ((f.configured = true ∨ (s.group o.group).waiting = []) →
        (s.group o.group).waiting.length ≤ max 1 (min o.waitingDepth 16) → s.held o.group = false →
        let written (presence : Membership → Membership) : State := s.modGroup o.group fun r =>
          { r with
            configured := f.configured, discipline := f.discipline
            members := r.members.map fun m =>
              presence (if f.discipline = r.discipline then m else { m with credit := 0 })
            cursor := if f.discipline = r.discipline then r.cursor else 0
            noAnswerTime := max 50 (min o.noAnswerTime 1200), passLimit := max 1 (min o.passLimit 4)
            waitingDepth := max 1 (min o.waitingDepth 16)
            maximumWait := if o.maximumWait = 0 then 0 else max 100 (min o.maximumWait 36000)
            overflow := f.overflow, traceEnable := f.traceEnable, traceAccept := f.traceAccept
            traceThrough := f.traceThrough, pickable := f.pickable, safety := f.safety
            emergencyHold := f.emergencyHold, homeSet := o.homeSet, autoSet := o.autoSet
            autoThreshold := max 100 (min o.autoThreshold 6000) }
        let done (t : State) : Prop := exec (.groupSet tag p) s = .next (answered ⟨0x0C, tag, p⟩ .ok .nothing t)
        let forced := ((s.group o.group).members.filter fun m => m.programmed ≠ .available).length
        (s.override = false ∨ f.safety = (s.group o.group).safety → done (written fun m => m)) ∧
        (s.override = true → f.safety = true → (s.group o.group).safety = false → (s.group o.group).waiting = [] →
          let t := written fun m => { m with effective := .available }
          done (if forced = 0 then t else notify (.overrideAltered o.group forced) t)) ∧
        (s.override = true → f.safety = false → (s.group o.group).safety = true → done (written fun m =>
          { m with
            effective := m.programmed
            idleTenths := if m.programmed = .standby ∨ m.programmed = .signedOff then 0 else m.idleTenths }))))

/-- MEMBERS-SET's refusals in the order of their table (R24), and a taken one on a group without members and without
waiting calls: every entry becomes a membership in list order, its weight clamped to 1 to 15, its presence the entry's
or SIGNED-OFF, its clock and credit 0; the cursor becomes 0 and each extension lists the group (R25). In a group with
members an extension in both lists keeps its membership but for the place, the weight and the credit, one in the new
list alone joins, and one in the old list alone leaves the group's lists and its calls' tried sets. While the override
is active the memberships that join a safety group are AVAILABLE in effect, and one OVERRIDE-ALTERED carries the number
of those whose programmed presence is another, unless it is 0 (R36). With no override, a removed extension that the
group's only call rings loses the ring with STOP-RING (WITHDRAWN): a call that rings another extension too keeps its
offer, and one that rings no other is QUEUED with WAIT-HOLD and a WAIT record, here with no member that can be rung but
one untried (R25, R26, R51, R52, R54). -/
def Obligations.MembersSetFillsGroup : Prop :=
  ∀ (tag : Byte) (p : List Byte) (o : MembersSetOp) (s : State), MembersSetOp.read p = some o →
    s.Takes ⟨0x0D, tag, p⟩ →
    let range := o.group ≤ 63 ∧ ∀ e ∈ o.entries, e.ext ≤ 1023 ∧ (e.presence ≤ 3 ∨ e.presence = 255)
    let fits := o.entries.length ≤ 32 ∧
      ((List.range 64).map fun g => (s.group g).members.length).sum - (s.group o.group).members.length
        + o.entries.length ≤ 1024 ∧
      ∀ e ∈ o.entries, s.member? o.group e.ext = none → (s.ext e.ext).memberOf.length < 4
    let forcing := s.override = true ∧ (s.group o.group).safety = true
    let programmed (e : MemberEntry) : Presence := (readPresence e.presence).getD .signedOff
    let join (e : MemberEntry) : Membership :=
      { ext := e.ext, weight := max 1 (min e.weight 15), credit := 0, programmed := programmed e
        effective := if forcing then .available else programmed e, staged := none, pending := false, idleTenths := 0 }
    let altered (joined : List MemberEntry) (t : State) : State :=
      let n := (joined.filter fun e => programmed e ≠ .available).length
      if forcing ∧ n ≠ 0 then notify (.overrideAltered o.group n) t else t
    (¬range → exec (.membersSet tag p) s = .next (refusedWith ⟨0x0D, tag, p⟩ .outOfRange s)) ∧
    (range → (s.group o.group).commitInProgress = true →
      exec (.membersSet tag p) s = .next (refusedWith ⟨0x0D, tag, p⟩ .commitPending s)) ∧
    (range → (s.group o.group).commitInProgress = false → ¬(o.entries.map (·.ext)).Nodup →
      exec (.membersSet tag p) s = .next (refusedWith ⟨0x0D, tag, p⟩ .duplicate s)) ∧
    (range → (s.group o.group).commitInProgress = false → (o.entries.map (·.ext)).Nodup → ¬fits →
      exec (.membersSet tag p) s = .next (refusedWith ⟨0x0D, tag, p⟩ .limit s)) ∧
    (range → (s.group o.group).commitInProgress = false → (o.entries.map (·.ext)).Nodup → fits →
      (s.group o.group).members = [] → (s.group o.group).waiting = [] →
      exec (.membersSet tag p) s = .next (answered ⟨0x0D, tag, p⟩ .ok .nothing (altered o.entries
        (o.entries.foldl (fun s e => s.modExt e.ext fun r => { r with memberOf := r.memberOf ++ [o.group] })
          (s.modGroup o.group fun r => { r with cursor := 0, members := o.entries.map join }))))) ∧
    (range → (s.group o.group).commitInProgress = false → (o.entries.map (·.ext)).Nodup → fits →
      let old := (s.group o.group).members
      let gone := (old.map (·.ext)).filter fun x => x ∉ o.entries.map (·.ext)
      let added := (o.entries.map (·.ext)).filter fun x => x ∉ old.map (·.ext)
      let settled := o.entries.map fun e => ((old.find? fun m => m.ext = e.ext).map fun m =>
        { m with weight := max 1 (min e.weight 15), credit := 0 }).getD (join e)
      let listed := added.foldl (fun s x => s.modExt x fun r => { r with memberOf := r.memberOf ++ [o.group] })
        (gone.foldl (fun s x => s.modExt x fun r => { r with memberOf := r.memberOf.filter (· != o.group) })
          (s.modGroup o.group fun r => { r with cursor := 0, members := settled }))
      ((s.group o.group).waiting = [] → (∀ x ∈ gone, (s.ext x).ringing = none) →
        exec (.membersSet tag p) s = .next (answered ⟨0x0D, tag, p⟩ .ok .nothing
          (altered (o.entries.filter fun e => e.ext ∈ added) listed))) ∧
      (∀ c x k, s.override = false → (s.group o.group).waiting = [c] → s.call? c = some k →
        k.state = .waiting → k.group = some o.group →
        x ∈ gone → (s.ext x).ringing = some c → (s.ext x).memberOf = [o.group] →
        (∀ y ∈ gone, y ≠ x → (s.ext y).ringing = none) → (∀ m ∈ settled, (s.ext m.ext).line ≠ .idle) →
        let freed : State := direct (.stopRing x c .withdrawn)
          ((listed.modExt x fun r => { r with ringing := none }).modCall c fun k =>
            { k with ringing := k.ringing.filter (· != x), tried := k.tried.filter fun y => y ∉ gone })
        ((∃ y ∈ k.ringing, y ≠ x) →
          exec (.membersSet tag p) s = .next (answered ⟨0x0D, tag, p⟩ .ok .nothing freed)) ∧
        (k.ringing = [x] →
          (∃ m ∈ settled, (m.effective = .available ∨ m.effective = .standby) ∧ m.ext ∉ k.tried) →
          exec (.membersSet tag p) s = .next (answered ⟨0x0D, tag, p⟩ .ok .nothing
            (offerRecord { TraceRecord.offered .wait k.priority with call := some c, group := some o.group }
              (direct (.waitHold c) (freed.modCall c fun k => { k with noAnswerDue := none })))))))

/-- A taken PRESENCE-STAGE sets the staged presence of each named membership to the entry's value, an absent one
withdrawing it, and changes nothing else; while a commit of the group is in progress it is refused with COMMIT-PENDING
(R29, R33). -/
def Obligations.PresenceStageStages : Prop :=
  ∀ (tag : Byte) (p : List Byte) (o : PresenceStageOp) (s : State), PresenceStageOp.read p = some o →
    s.Takes ⟨0x0F, tag, p⟩ → o.group ≤ 63 → 1 ≤ o.entries.length → o.entries.length ≤ 32 →
    (∀ e ∈ o.entries, e.ext ≤ 1023 ∧ (e.presence ≤ 3 ∨ e.presence = 255)) →
    ((s.group o.group).commitInProgress = true →
      exec (.presenceStage tag p) s = .next (refusedWith ⟨0x0F, tag, p⟩ .commitPending s)) ∧
    ((s.group o.group).commitInProgress = false → (o.entries.map (·.ext)).Nodup →
      (∀ e ∈ o.entries, ∃ m ∈ (s.group o.group).members, m.ext = e.ext) →
      exec (.presenceStage tag p) s = .next (answered ⟨0x0F, tag, p⟩ .ok .nothing (s.modGroup o.group fun r =>
        { r with members := r.members.map fun m =>
            match o.entries.find? (fun e => e.ext == m.ext) with
            | none => m
            | some e => { m with staged := readPresence e.presence } })))

/-- ROSTER-COMMIT is answered BUSY while the group's commit is in progress (R30, R33). A membership that rings an offer
of the group and is staged to another value than AVAILABLE becomes pending, and the reply is PENDING (R30). In a group
none of whose extensions rings for it, with no waiting call, every staged value becomes the programmed presence, and the
effective one but in a safety group under the override, where that is AVAILABLE; the idle clock is cleared in STANDBY
and SIGNED-OFF, the roster-changed flag rises when some programmed presence changed, and the reply is OK. Under the
override a safety group sends OVERRIDE-ALTERED (group, 1) for each change to another value than AVAILABLE (R30, R31,
R36). The end of the offer at the group's only pending membership applies its staged value so, with that notice, and the
commit ends with ROSTER-DONE, after the STOP-RING and before the call advances: by CALL-ANSWER, by CALL-GONE, by a
LINE-REPORT of OFFHOOK, and by the no-answer expiry, here of the group's only call, ringing at that extension alone,
which is QUEUED after the last two because the other members, one of them untried, cannot be rung (R8, R16, R17, R31,
R32, R50, R52, R54, R65). -/
def Obligations.RosterCommitAppliesOrWaits : Prop :=
  (∀ (tag : Byte) (p : List Byte) (g : Nat) (s : State), readNumber1 p = some g → s.Takes ⟨0x10, tag, p⟩ → g ≤ 63 →
    let forcing := s.override = true ∧ (s.group g).safety = true
    ((s.group g).commitInProgress = true →
      exec (.rosterCommit tag p) s = .next (answered ⟨0x10, tag, p⟩ .busy .nothing s)) ∧
    (∀ m v c, (s.group g).commitInProgress = false → (s.group g).members = [m] → m.staged = some v → v ≠ .available →
      s.offerAt g m.ext = some c →
      exec (.rosterCommit tag p) s = .next (answered ⟨0x10, tag, p⟩ .pending .nothing (s.modGroup g fun r =>
        { r with commitInProgress := true, members := [{ m with pending := true }] }))) ∧
    ((s.group g).commitInProgress = false → (s.group g).waiting = [] → ((s.group g).members.map (·.ext)).Nodup →
      (∀ m ∈ (s.group g).members, m.pending = false ∧ s.offerAt g m.ext = none) →
      let changes (m : Membership) : Bool := match m.staged with
        | none => false
        | some v => v ≠ m.programmed
      let overruled := (s.group g).members.filter fun m => changes m && m.staged ≠ some .available
      exec (.rosterCommit tag p) s = .next (answered ⟨0x10, tag, p⟩ .ok .nothing
        ((if forcing then overruled else []).foldl (fun t _ => notify (.overrideAltered g 1) t) (s.modGroup g fun r =>
          { r with
            rosterChanged := r.rosterChanged || r.members.any changes
            members := r.members.map fun m => match m.staged with
              | none => m
              | some v =>
                let e := if forcing then .available else v
                { m with programmed := v, effective := e, staged := none
                         idleTenths := if e = .standby ∨ e = .signedOff then 0 else m.idleTenths } }))))) ∧
  (∀ (c g x : Nat) (m : Membership) (v : Presence) (k : CallContext) (s : State), s.call? c = some k →
    k.state = .waiting → k.group = some g → k.orbit = none → k.ringing = [x] → (s.ext x).ringing = some c →
    (s.group g).waiting = [c] → (∀ h ∈ (s.ext x).memberOf, h = g) → (s.group g).members.find? (·.ext = x) = some m →
    m.pending = true → m.staged = some v → (∀ b ∈ (s.group g).members, b.ext ≠ x → b.pending = false) →
    let forcing := s.override = true ∧ (s.group g).safety = true
    let e := if forcing then .available else v
    let applied (t : State) : State :=
      let t := t.modGroup g fun r =>
        { r with
          commitInProgress := false, rosterChanged := r.rosterChanged || v ≠ m.programmed
          members := r.members.map fun b => if b.ext = x then
              { b with programmed := v, effective := e, staged := none, pending := false
                       idleTenths := if e = .standby ∨ e = .signedOff then 0 else b.idleTenths }
            else b }
      notify (.rosterDone g)
        (if forcing ∧ v ≠ m.programmed ∧ v ≠ .available then notify (.overrideAltered g 1) t else t)
    let stopped (r : StopReason) : State := direct (.stopRing x c r)
      ((s.modExt x fun r => { r with ringing := none }).modCall c fun r =>
        { r with ringing := r.ringing.filter (· != x) })
    let queued (t : State) : State :=
      offerRecord { TraceRecord.offered .wait k.priority with call := some c, group := some g }
        (direct (.waitHold c) (t.modCall c fun r => { r with noAnswerDue := none }))
    let waits : Prop := (∀ b ∈ (s.group g).members, b.ext ≠ x → (s.ext b.ext).line ≠ .idle) ∧
      ∃ b ∈ (s.group g).members, b.ext ≠ x ∧ (b.effective = .available ∨ b.effective = .standby) ∧ b.ext ∉ k.tried
    (∀ tag p, CallAnswerOp.read p = some ⟨c, x⟩ → s.Takes ⟨0x04, tag, p⟩ → 1 ≤ c → c ≤ 65534 → x ≤ 1023 →
      exec (.callAnswer tag p) s = .next (answered ⟨0x04, tag, p⟩ .ok .nothing
        (offerRecord { TraceRecord.offered .answer k.priority with call := some c, group := some g, ext := some x }
          (applied (((s.modExt x fun r => { r with ringing := none, line := .inCall }).modGroup g fun r =>
            { r with
              waiting := []
              members := r.members.map fun b => if b.ext = x then { b with idleTenths := 0 } else b }).modCall c
            fun r =>
              { r with ringing := r.ringing.filter (· != x), noAnswerDue := none, maxWaitDue := none
                       state := .connected, connected := some x, tried := [], passCount := 0 }))))) ∧
    (∀ tag p, readNumber2 p = some c → s.Takes ⟨0x05, tag, p⟩ → 1 ≤ c → c ≤ 65534 →
      exec (.callGone tag p) s = .next (answered ⟨0x05, tag, p⟩ .ok .nothing
        (offerRecord { TraceRecord.offered .abandon k.priority with call := some c, group := some g, detail := k.depth }
          { (applied (stopped .callerGone)).modGroup g fun r => { r with waiting := [] } with
            calls := s.calls.filter fun k => k.ref != c }))) ∧
    (∀ tag p, LineReportOp.read p = some ⟨x, 1⟩ → s.Takes ⟨0x01, tag, p⟩ → x ≤ 1023 → waits →
      exec (.lineReport tag p) s = .next (answered ⟨0x01, tag, p⟩ .ok .nothing
        (queued (applied ((stopped .withdrawn).modExt x fun r => { r with line := .offhook }))))) ∧
    (∀ d, s.running = true → k.noAnswerDue = some d → d ≤ s.clock → x ∈ k.tried → waits →
      exec (.noAnswerExpiry c) s = .next (queued
        (offerRecord { TraceRecord.offered .noAnswer k.priority with call := some c, group := some g, ext := some x }
          (applied (stopped .noAnswer))))))

/-- ROSTER-QUERY reports at most 16 memberships from the first position asked for, and clears the roster-changed flag
after the reply has been built (R34). -/
def Obligations.RosterQueryReportsAndClears : Prop :=
  ∀ (tag : Byte) (p : List Byte) (o : RosterQueryOp) (s : State), RosterQueryOp.read p = some o →
    s.Takes ⟨0x11, tag, p⟩ →
    (63 < o.group ∨ 31 < o.first → exec (.rosterQuery tag p) s = .next (refusedWith ⟨0x11, tag, p⟩ .outOfRange s)) ∧
    (o.group ≤ 63 → o.first ≤ 31 → exec (.rosterQuery tag p) s = .next (answered ⟨0x11, tag, p⟩ .ok (.roster
      { group := o.group, configured := (s.group o.group).configured
        commitInProgress := (s.group o.group).commitInProgress, rosterChanged := (s.group o.group).rosterChanged
        forcing := s.override && (s.group o.group).safety, memberCount := (s.group o.group).members.length
        first := o.first
        members := (((s.group o.group).members.drop o.first).take 16).map fun m =>
          { ext := m.ext, weight := m.weight, programmed := m.programmed, effective := m.effective, staged := m.staged
            pending := m.pending, idleSeconds := m.idleTenths / 10, credit := m.credit } })
      (s.modGroup o.group fun r => { r with rosterChanged := false })))

/-- The start of the muster override forces every membership of every safety group to AVAILABLE, queues OVERRIDE-ALTERED
with the number forced, and its end gives every one its programmed presence back and queues OVERRIDE-RELEASED; here for
a part with one safety group, which has no waiting call (R27, R35, R38). -/
def Obligations.OverrideForcesSafetyGroup : Prop :=
  ∀ (g : Nat) (s : State), g ≤ 63 → (∀ h, h ≤ 63 → ((s.group h).safety = true ↔ h = g)) → (s.group g).waiting = [] →
    (∃ m ∈ (s.group g).members, m.programmed ≠ .available) →
    startOverride s = notify (.overrideAltered g ((s.group g).members.filter fun m => m.programmed ≠ .available).length)
      { s.modGroup g fun r => { r with members := r.members.map fun m => { m with effective := .available } } with
        override := true } ∧
    endOverride s = notify .overrideReleased
      { s.modGroup g fun r => { r with members := r.members.map fun m => { m with
          effective := m.programmed
          idleTenths := if m.programmed = .standby ∨ m.programmed = .signedOff then 0 else m.idleTenths } } with
        override := false }

/-! ## Call distribution -/

/-- CALL-ARRIVE is refused with OUT-OF-RANGE, DUPLICATE or TABLE-FULL, in this order (R40). An arrival for an
unconfigured group is diverted to the fallback destination, its DIVERT record is offered, and no context remains (R41,
R62). -/
def Obligations.CallArriveChecksAndDiverts : Prop :=
  ∀ (tag : Byte) (p : List Byte) (o : CallArriveOp) (s : State), CallArriveOp.read p = some o → s.Takes ⟨0x02, tag, p⟩ →
    let range := 1 ≤ o.call ∧ o.call ≤ 65534 ∧ o.group ≤ 63 ∧ o.priority ≤ 3
    (¬range → exec (.callArrive tag p) s = .next (refusedWith ⟨0x02, tag, p⟩ .outOfRange s)) ∧
    (range → s.call? o.call ≠ none → exec (.callArrive tag p) s = .next (refusedWith ⟨0x02, tag, p⟩ .duplicate s)) ∧
    (range → s.call? o.call = none → 256 ≤ s.calls.length →
      exec (.callArrive tag p) s = .next (refusedWith ⟨0x02, tag, p⟩ .tableFull s)) ∧
    (range → s.call? o.call = none → s.calls.length < 256 → (s.group o.group).configured = false →
      exec (.callArrive tag p) s = .next (answered ⟨0x02, tag, p⟩ .ok (.arrival .diverted none)
        (offerRecord { TraceRecord.offered .divert o.priority with call := some o.call, group := some o.group }
          (direct (.divert o.call s.fallback) s))))

/-- An arrival for a group with room, none of whose memberships is eligible while one of them is AVAILABLE or STANDBY,
is QUEUED: it enters the waiting list behind every call of its priority or a higher one, its maximum wait starts,
WAIT-HOLD is sent, a WAIT record is offered and the reply is WAITING (R39, R41 to R43, R54, and the third case of
R52). -/
def Obligations.CallArriveQueues : Prop :=
  ∀ (tag : Byte) (p : List Byte) (o : CallArriveOp) (s : State), CallArriveOp.read p = some o → s.Takes ⟨0x02, tag, p⟩ →
    1 ≤ o.call → o.call ≤ 65534 → o.group ≤ 63 → o.priority ≤ 3 → s.call? o.call = none → s.calls.length < 256 →
    (s.group o.group).configured = true → (s.group o.group).waiting.length < (s.group o.group).waitingDepth →
    (s.held o.group = true ∨
      ∀ m ∈ (s.group o.group).members, (s.ext m.ext).line ≠ .idle ∨ (s.ext m.ext).ringing ≠ none) →
    (∃ m ∈ (s.group o.group).members, m.effective = .available ∨ m.effective = .standby) →
    exec (.callArrive tag p) s = .next (answered ⟨0x02, tag, p⟩ .ok (.arrival .waiting (some o.group))
      (offerRecord { TraceRecord.offered .wait o.priority with call := some o.call, group := some o.group }
        (direct (.waitHold o.call)
          { s with
            calls := s.calls ++ [{ ref := o.call, kind := .hunt, state := .waiting, group := some o.group
                                   priority := o.priority, waitingSince := min (s.clock / 100) 4294967295, tried := []
                                   passCount := 0, depth := 0, ringing := [], noAnswerDue := none
                                   maxWaitDue := if (s.group o.group).maximumWait = 0 then none
                                     else some (s.clock + 100 * (s.group o.group).maximumWait)
                                   connected := none, orbit := none }]
            groups := (s.modGroup o.group fun r =>
              { r with
                waiting := insertBefore (fun _ b => ((s.call? b).map fun k => k.priority < o.priority ||
                    (o.priority = k.priority && min (s.clock / 100) 4294967295 < k.waitingSince)).getD false)
                  o.call r.waiting }).groups })))

/-- An arrival for a LINEAR group with room and an eligible AVAILABLE member is offered to the first of them in list
order: the call waits RINGING at it with the no-answer timer running, RING is sent, an OFFER record is offered and the
reply is OFFERED (R43, R45, R49). A ZONESET-SET that takes every covered zone out of a group's home set ends the group's
emergency hold, and the group is serviced before the reply: its first call, QUEUED, is offered in the same way, and the
calls behind it that ring, or for which nobody else is eligible, are left as they are (R57, R68, R69, R108; here the
only held group). -/
def Obligations.CallArriveOffersFirstMember : Prop :=
  (∀ (tag : Byte) (p : List Byte) (o : CallArriveOp) (m : Membership) (s : State), CallArriveOp.read p = some o →
    s.Takes ⟨0x02, tag, p⟩ → 1 ≤ o.call → o.call ≤ 65534 → o.group ≤ 63 → o.priority ≤ 3 → s.call? o.call = none →
    s.calls.length < 256 → (s.group o.group).configured = true → s.held o.group = false →
    (s.group o.group).waiting.length < (s.group o.group).waitingDepth → (s.group o.group).discipline = .linear →
    (s.group o.group).members.find? (fun m => m.effective = .available && (s.ext m.ext).line = .idle
      && (s.ext m.ext).ringing.isNone) = some m →
    exec (.callArrive tag p) s = .next (answered ⟨0x02, tag, p⟩ .ok (.arrival .offered (some o.group))
      (offerRecord { TraceRecord.offered .offer o.priority with
          call := some o.call, group := some o.group, ext := some m.ext }
        (direct (.ring m.ext o.call .hunt)
          { s with
            exts := (s.modExt m.ext fun r =>
              { r with ringing := some o.call, ringStart := min (s.clock / 100) 4294967295 }).exts
            calls := s.calls ++ [{ ref := o.call, kind := .hunt, state := .waiting, group := some o.group
                                   priority := o.priority, waitingSince := min (s.clock / 100) 4294967295
                                   tried := [m.ext], passCount := 0, depth := 0, ringing := [m.ext]
                                   noAnswerDue := some (s.clock + 100 * (s.group o.group).noAnswerTime)
                                   maxWaitDue := if (s.group o.group).maximumWait = 0 then none
                                     else some (s.clock + 100 * (s.group o.group).maximumWait)
                                   connected := none, orbit := none }]
            groups := (s.modGroup o.group fun r =>
              { r with
                waiting := insertBefore (fun _ b => ((s.call? b).map fun k => k.priority < o.priority ||
                    (o.priority = k.priority && min (s.clock / 100) 4294967295 < k.waitingSince)).getD false)
                  o.call r.waiting }).groups })))) ∧
  ∀ (tag : Byte) (p : List Byte) (o : ZoneSetSetOp) (g c : Nat) (rest : List Nat) (k : CallContext) (m : Membership)
    (s : State), ZoneSetSetOp.read p = some o → s.Takes ⟨0x14, tag, p⟩ → o.number ≤ 31 →
    (∀ h, s.held h = true ↔ h = g) → (s.group g).homeSet = some o.number → o.zones &&& s.covered = 0 →
    (s.group g).configured = true → (s.group g).discipline = .linear → (s.group g).waiting = c :: rest →
    s.call? c = some k → k.ringing = [] →
    (s.group g).members.find? (fun m => m.effective = .available && (s.ext m.ext).line = .idle
      && (s.ext m.ext).ringing.isNone && !k.tried.contains m.ext) = some m →
    (∀ b ∈ rest, b ≠ c ∧ ∃ q, s.call? b = some q ∧ (q.ringing ≠ [] ∨ ∀ x ∈ (s.group g).members,
      x.ext = m.ext ∨ x.ext ∈ q.tried ∨ (s.ext x.ext).line ≠ .idle)) →
    exec (.zonesetSet tag p) s = .next (answered ⟨0x14, tag, p⟩ .ok .nothing
      (offerRecord { TraceRecord.offered .offer k.priority with call := some c, group := some g, ext := some m.ext }
        (direct (.ring m.ext c .hunt)
          { (s.modExt m.ext fun r =>
              { r with ringing := some c, ringStart := min (s.clock / 100) 4294967295 }).modCall c fun k =>
              { k with ringing := k.ringing ++ [m.ext], tried := insertAscending m.ext k.tried
                       noAnswerDue := some (s.clock + 100 * (s.group g).noAnswerTime) } with
            zoneSets := tabModify s.zoneSets o.number fun _ => o.zones })))

/-- A call precedes another when its priority is higher, or at equal priority its waiting-since is earlier; in an
ordered waiting list no call precedes one that stands before it. A call that enters a group's ordered list stands behind
every call that it does not precede and ahead of every call that it precedes, nothing else changes, and the list is
ordered again; the lists of the other groups, and every list that a call leaves, stay ordered (R39). -/
def Obligations.WaitingListKeepsItsOrder : Prop :=
  ∀ (g c : Nat) (k : CallContext) (s : State), s.call? c = some k →
    let precedes (a b : CallContext) : Prop :=
      b.priority < a.priority ∨ (a.priority = b.priority ∧ a.waitingSince < b.waitingSince)
    let ordered (t : State) (h : Nat) : Prop := (t.group h).waiting.Pairwise fun a b =>
      ∀ x y, t.call? a = some x → t.call? b = some y → ¬precedes y x
    (g ≤ 63 → (∀ b ∈ (s.group g).waiting, s.call? b ≠ none) → ordered s g →
      ordered (insertWaiting g c s) g ∧
      ∃ ahead behind, (s.group g).waiting = ahead ++ behind ∧
        insertWaiting g c s = (s.modGroup g fun r => { r with waiting := ahead ++ c :: behind }) ∧
        (∀ b ∈ ahead, ∀ q, s.call? b = some q → ¬precedes k q) ∧ ∀ b ∈ behind, ∀ q, s.call? b = some q → precedes k q) ∧
    ∀ h, ordered s h →
      (h ≠ g → ordered (insertWaiting g c s) h) ∧ ordered (leaveList c s) h ∧
      ((leaveList c s).group h).waiting =
        (if k.group = some h then (s.group h).waiting.filter (· != c) else (s.group h).waiting)

/-- What each discipline chooses from a non-empty eligible set in list order: LINEAR the lowest position; CIRCULAR the
lowest position above the cursor, or else the lowest; LONGEST-IDLE the longest idle clock in whole seconds, the lowest
position among equals; WEIGHTED the highest credit, the lowest position among equals; RING-ALL the first eight (R45 to
R48). What the choice leaves of the group: a CIRCULAR cursor at the chosen position (R45); in a WEIGHTED group, where
the credits compared are those after every eligible member's weight has been added to its own, the credits so raised,
the chosen one's less the sum of the eligible weights, each kept within -1024 to 1023 (R47); nothing in the others. -/
def Obligations.DisciplinesChoose : Prop :=
  ∀ (cursor : Nat) (e : List (Membership × Nat)), e ≠ [] → e.Pairwise (fun a b => a.2 < b.2) →
    (∃ m ∈ e, chosenFrom .linear cursor e = [m] ∧ ∀ n ∈ e, m.2 ≤ n.2) ∧
    (∃ m ∈ e, chosenFrom .circular cursor e = [m] ∧
      ((cursor < m.2 ∧ ∀ n ∈ e, cursor < n.2 → m.2 ≤ n.2) ∨ ∀ n ∈ e, n.2 ≤ cursor ∧ m.2 ≤ n.2)) ∧
    (∃ m ∈ e, chosenFrom .longestIdle cursor e = [m] ∧ ∀ n ∈ e, n.1.idleTenths / 10 ≤ m.1.idleTenths / 10 ∧
      (n.1.idleTenths / 10 = m.1.idleTenths / 10 → m.2 ≤ n.2)) ∧
    (∃ m ∈ e, chosenFrom .weighted cursor e = [m] ∧ ∀ n ∈ e, n.1.credit ≤ m.1.credit ∧
      (n.1.credit = m.1.credit → m.2 ≤ n.2)) ∧
    chosenFrom .ringAll cursor e = e.take 8 ∧
    ∀ r : GroupRecord,
      let add (c d : Int) : Int := max (-1024) (min (c + d) 1023)
      let total : Int := (e.map fun m => (m.1.weight : Int)).sum
      (r.discipline = .linear ∨ r.discipline = .longestIdle ∨ r.discipline = .ringAll →
        chooseFrom r e = ((chosenFrom r.discipline r.cursor e).map (·.1.ext), r)) ∧
      (r.discipline = .circular → ∃ m ∈ e, chosenFrom .circular r.cursor e = [m] ∧
        chooseFrom r e = ([m.1.ext], { r with cursor := m.2 })) ∧
      (r.discipline = .weighted → ∃ m ∈ e,
        (∀ n ∈ e, add n.1.credit n.1.weight ≤ add m.1.credit m.1.weight ∧
          (add n.1.credit n.1.weight = add m.1.credit m.1.weight → m.2 ≤ n.2)) ∧
        chooseFrom r e = ([m.1.ext], { r with members := r.members.map fun x =>
          if ∃ n ∈ e, n.1.ext = x.ext then
            { x with credit := if x.ext = m.1.ext then add (add x.credit x.weight) (-total) else add x.credit x.weight }
          else x }))

/-- The no-answer expiry of an offer at one extension of the group's only call: STOP-RING (NO-ANSWER) and a NO-ANSWER
record, then the call advances. It is QUEUED, with WAIT-HOLD and a WAIT record, when no other member can be rung but one
is untried; in a LINEAR group it is offered to the first untried member that is free. With every member tried the pass
count rises and the tried set is emptied: below the pass limit, or at it without an overflow target, where the count
returns to 0, the call is offered to the first free member, the same one perhaps, or QUEUED; at it with an EXTERNAL
target it is diverted there (R6, R45, R49, R50, R52 to R54, R60). The maximum wait of a call that is QUEUED, or RINGING
at one extension, which gets STOP-RING (OVERFLOWED): with no target, or at depth 3, it is diverted to the fallback
destination, and with an EXTERNAL target there, one overflow deeper: it leaves its list, a DIVERT record is offered and
its context is freed (R59, R60, R62). The freed extension, IDLE, is offered the group's next call (R55, R56). With a
target GROUP(h): an unconfigured h diverts to the fallback destination, as does a full one without a target or where
depth 3 is reached, h being the record's target (R60, R61, R176). A group with room, h or the target n of a full h,
takes the call, one overflow deeper for each: it enters the list, tried set and passes empty, its maximum wait starting,
an OVERFLOW record is offered with the full group passed through, and, no member free but one AVAILABLE or STANDBY, it
is QUEUED (R39, R42, R52, R54, R60, R61, R64, R175). So it is in a group that is its own target (R61). Unless named
otherwise, no other call waits for the extension that rang. -/
def Obligations.CallTimersExpire : Prop :=
  (∀ (c x g d : Nat) (k : CallContext) (s : State), s.running = true → s.call? c = some k → k.noAnswerDue = some d →
    d ≤ s.clock → k.state = .waiting → k.group = some g → g ≤ 63 → k.ringing = [x] → x ∈ k.tried →
    (∀ h ∈ (s.ext x).memberOf, h = g) → (s.group g).waiting = [c] →
    (∀ m ∈ (s.group g).members, m.pending = false) →
    let ended (onward : CallContext → CallContext) : State :=
      offerRecord { TraceRecord.offered .noAnswer k.priority with call := some c, group := some g, ext := some x }
        (direct (.stopRing x c .noAnswer)
          ((s.modExt x fun r => { r with ringing := none }).modCall c fun k =>
            onward { k with ringing := k.ringing.filter (· != x), noAnswerDue := none }))
    let queued (t : State) : State :=
      offerRecord { TraceRecord.offered .wait k.priority with call := some c, group := some g } (direct (.waitHold c) t)
    let offered (y : Nat) (t : State) : State :=
      offerRecord { TraceRecord.offered .offer k.priority with call := some c, group := some g, ext := some y }
        (direct (.ring y c .hunt)
          ((t.modExt y fun r => { r with ringing := some c, ringStart := min (s.clock / 100) 4294967295 }).modCall c
            fun k => { k with ringing := k.ringing ++ [y], tried := insertAscending y k.tried
                              noAnswerDue := some (s.clock + 100 * (s.group g).noAnswerTime) }))
    let first (tried : List Nat) (y : Nat) : Prop := (s.group g).configured = true ∧ s.held g = false ∧
      (s.group g).discipline = .linear ∧ ∃ m, m.ext = y ∧ (s.group g).members.find? (fun m =>
        m.effective = .available && (s.ext m.ext).line = .idle && ((s.ext m.ext).ringing.isNone || m.ext = x)
          && m.ext ∉ tried) = some m
    let allBusy : Prop := ∀ m ∈ (s.group g).members, (s.ext m.ext).line ≠ .idle
    ((∀ m ∈ (s.group g).members, m.ext ≠ x → (s.ext m.ext).line ≠ .idle) →
      (∃ m ∈ (s.group g).members, (m.effective = .available ∨ m.effective = .standby) ∧ m.ext ∉ k.tried) →
      exec (.noAnswerExpiry c) s = .next (queued (ended fun k => k))) ∧
    (∀ y, first k.tried y → exec (.noAnswerExpiry c) s = .next (offered y (ended fun k => k))) ∧
    ((∀ m ∈ (s.group g).members, m.effective = .available ∨ m.effective = .standby → m.ext ∈ k.tried) →
      let passes := k.passCount + 1
      let goesOn : Prop := passes < (s.group g).passLimit ∨ (s.group g).overflow = none
      let again := ended fun r =>
        { r with tried := [], passCount := if passes < (s.group g).passLimit then r.passCount + 1 else 0 }
      (goesOn → allBusy → exec (.noAnswerExpiry c) s = .next (queued again)) ∧
      (∀ y, goesOn → first [] y → exec (.noAnswerExpiry c) s = .next (offered y again)) ∧
      (∀ code, (s.group g).passLimit ≤ passes → (s.group g).overflow = some (.external code) → k.depth < 3 →
        exec (.noAnswerExpiry c) s = .next
          (offerRecord { TraceRecord.offered .divert k.priority with
              call := some c, group := some g, detail := k.depth + 1 }
            (direct (.divert c (some code))
              { (ended fun k => k).modGroup g fun r => { r with waiting := [] } with
                calls := s.calls.filter fun k => k.ref != c }))))) ∧
  (∀ (c g d : Nat) (k : CallContext) (s u : State), s.running = true → s.call? c = some k → k.maxWaitDue = some d →
    d ≤ s.clock → k.state = .waiting → k.group = some g → g ≤ 63 →
    let silenced (x : Nat) : State := direct (.stopRing x c .overflowed)
      ((s.modExt x fun r => { r with ringing := none }).modCall c fun k =>
        { k with ringing := k.ringing.filter (· != x) })
    let diverted (code target : Option Nat) (depth : Nat) (u : State) : State :=
      offerRecord { TraceRecord.offered .divert k.priority with
          call := some c, group := some g, target := target, detail := depth }
        (direct (.divert c code)
          { u.modGroup g fun r => { r with waiting := r.waiting.filter (· != c) } with
            calls := s.calls.filter fun k => k.ref != c })
    (∀ x b q, k.ringing = [x] → (∀ m ∈ (s.group g).members, m.pending = false) → (s.group g).overflow = none →
      (s.group g).waiting = [c, b] → b ≠ c → s.call? b = some q → q.ringing = [] → x ∉ q.tried →
      (s.ext x).line = .idle → (s.ext x).memberOf = [g] →
      (∃ m ∈ (s.group g).members, m.ext = x ∧ m.effective = .available) → (s.group g).configured = true →
      s.held g = false → (s.group g).discipline ≠ .circular →
      exec (.maximumWaitExpiry c) s = .next
        (offerRecord { TraceRecord.offered .offer q.priority with call := some b, group := some g, ext := some x }
          (direct (.ring x b .hunt)
            (((diverted s.fallback none k.depth (silenced x)).modExt x fun r =>
              { r with ringing := some b, ringStart := min (s.clock / 100) 4294967295 }).modCall b fun r =>
              { r with ringing := r.ringing ++ [x], tried := insertAscending x r.tried
                       noAnswerDue := some (s.clock + 100 * (s.group g).noAnswerTime) })))) ∧
    ((k.ringing = [] ∧ u = s) ∨ (∃ x, k.ringing = [x] ∧ u = silenced x ∧ (s.group g).waiting = [c] ∧
        (∀ h ∈ (s.ext x).memberOf, h = g) ∧ ∀ m ∈ (s.group g).members, m.pending = false) →
      let full (n : Nat) : Prop := (s.group n).configured = true ∧ (s.group n).waitingDepth ≤ (s.group n).waiting.length
      let left (n : Nat) : List Nat := if n = g then (s.group g).waiting.filter (· != c) else (s.group n).waiting
      let takesIt (n : Nat) : Prop := n ≤ 63 ∧ (s.group n).configured = true ∧ c ∉ left n ∧
        (left n).length < (s.group n).waitingDepth ∧
        (s.held n = true ∨ ∀ m ∈ (s.group n).members, (u.ext m.ext).line ≠ .idle ∨ (u.ext m.ext).ringing ≠ none) ∧
        ∃ m ∈ (s.group n).members, m.effective = .available ∨ m.effective = .standby
      let queued (n hops : Nat) (through : List Nat) : State :=
        offerRecord { TraceRecord.offered .wait k.priority with call := some c, group := some n }
          (direct (.waitHold c)
            (offerThrough { TraceRecord.offered .overflow k.priority with
                call := some c, group := some g, target := some n, detail := k.depth + hops } through
              (((u.modGroup g fun r => { r with waiting := r.waiting.filter (· != c) }).modGroup n fun r =>
                { r with
                  waiting := insertBefore (fun _ b => ((s.call? b).map fun q => q.priority < k.priority ||
                      (k.priority = q.priority && min (s.clock / 100) 4294967295 < q.waitingSince)).getD false)
                    c r.waiting }).modCall c fun r =>
                { r with
                  group := some n, waitingSince := min (s.clock / 100) 4294967295, tried := [], passCount := 0
                  depth := k.depth + hops, state := .waiting, noAnswerDue := none
                  maxWaitDue := if (s.group n).maximumWait = 0 then none
                    else some (s.clock + 100 * (s.group n).maximumWait) })))
      ((s.group g).overflow = none ∨ 3 ≤ k.depth →
        exec (.maximumWaitExpiry c) s = .next (diverted s.fallback none k.depth u)) ∧
      (∀ code, (s.group g).overflow = some (.external code) → k.depth < 3 →
        exec (.maximumWaitExpiry c) s = .next (diverted (some code) none (k.depth + 1) u)) ∧
      (∀ h, (s.group g).overflow = some (.group h) → k.depth < 3 →
        ((s.group h).configured = false →
          exec (.maximumWaitExpiry c) s = .next (diverted s.fallback none (k.depth + 1) u)) ∧
        (h ≠ g → full h → (s.group h).overflow = none ∨ k.depth = 2 →
          exec (.maximumWaitExpiry c) s = .next (diverted s.fallback (some h) (k.depth + 1) u)) ∧
        (takesIt h → exec (.maximumWaitExpiry c) s = .next (queued h 1 [])) ∧
        (∀ n, h ≠ g → full h → (s.group h).overflow = some (.group n) → k.depth < 2 → takesIt n →
          exec (.maximumWaitExpiry c) s = .next (queued n 2 [h])))))

/-- An auto-page falls due once its group's oldest QUEUED call has waited the threshold and the re-arm time has passed.
When no zone of its set can be used it is refused and the re-arm time starts anew; while every zone of it is faulted and
no other page exists, it is admitted and stays QUEUED, with its id as the group's live auto-page (R66, R67, R111,
R120). -/
def Obligations.AutoPageIsPlaced : Prop :=
  ∀ (g n since : Nat) (s : State), s.running = true → g ≤ 63 → (s.group g).configured = true →
    (s.group g).liveAutoPage = none → (s.group g).autoSet = some n → s.oldestQueued g = some since →
    100 * max (s.group g).rearm (since + (s.group g).autoThreshold) ≤ s.clock → s.clock / 100 ≤ 4294967295 →
    let zones := s.targetOf .normal (s.zoneSet n)
    (zones = 0 → exec (.autoPageDue g) s =
      .next (s.modGroup g fun r => { r with rearm := s.clock / 100 + r.autoThreshold })) ∧
    (zones ≠ 0 → s.pages = [] → s.ZonesQuiet → (∀ z, zoneIn zones z = true → (s.amp z).fault ≠ none) →
      exec (.autoPageDue g) s = .next (direct (.pageState (s.lastPageId % 255 + 1) .queued none)
        { s.modGroup g fun r => { r with liveAutoPage := some (s.lastPageId % 255 + 1) } with
          lastPageId := s.lastPageId % 255 + 1, nextArrival := s.nextArrival + 1
          pages := [{ id := s.lastPageId % 255 + 1, alarm := none, cls := .normal, source := .prompt g
                      requester := .hunt g, target := zones, mode := .partially, suspendAllowed := true
                      maxDuration := 80, arrival := s.nextArrival, state := .queued, channel := none
                      audioSent := false, durationStarted := false, durationDue := none, suspensionDue := none
                      endReason := none }] }))

/-! ## Configuration requests -/

/-- The setting requests write what they carry, clamped where the manual clamps, and refuse values outside their ranges:
FALLBACK-SET (R63), PICKGROUP-SET (R71), EXT-SET (R72), ORBIT-SET (R88), ZONESET-SET while no group is under emergency
hold (R108) and PAGING-SET (R109). -/
def Obligations.SettingRequestsWrite : Prop :=
  ∀ (tag : Byte) (p : List Byte) (s : State),
    (∀ code, readFallback p = some code → s.Takes ⟨0x0E, tag, p⟩ → exec (.fallbackSet tag p) s = .next
      (if code = some 0 then refusedWith ⟨0x0E, tag, p⟩ .outOfRange s
      else answered ⟨0x0E, tag, p⟩ .ok .nothing { s with fallback := code })) ∧
    (∀ o, PickgroupSetOp.read p = some o → s.Takes ⟨0x12, tag, p⟩ → exec (.pickgroupSet tag p) s = .next
      (if 4 < o.assist.length then refusedWith ⟨0x12, tag, p⟩ .badLength s
      else if 1 < o.configured ∨ 1 < o.directedOpen ∨ 127 < o.group ∨ (∃ q ∈ o.assist, 127 < q) then
        refusedWith ⟨0x12, tag, p⟩ .outOfRange s
      else if ¬o.assist.Nodup ∨ o.group ∈ o.assist then refusedWith ⟨0x12, tag, p⟩ .duplicate s
      else answered ⟨0x12, tag, p⟩ .ok .nothing { s with pickups := tabModify s.pickups o.group fun _ =>
        { configured := o.configured = 1, assist := o.assist, directedOpen := o.directedOpen = 1 } })) ∧
    (∀ o, ExtSetOp.read p = some o → s.Takes ⟨0x0B, tag, p⟩ → exec (.extSet tag p) s = .next
      (if 1023 < o.ext ∨ (∃ n, o.pickupGroup = some n ∧ 127 < n) then refusedWith ⟨0x0B, tag, p⟩ .outOfRange s
      else answered ⟨0x0B, tag, p⟩ .ok .nothing (s.modExt o.ext fun r => { r with pickupGroup := o.pickupGroup }))) ∧
    (∀ o, OrbitSetOp.read p = some o → s.Takes ⟨0x13, tag, p⟩ → exec (.orbitSet tag p) s = .next
      (if 31 < o.orbit ∨ 1 < o.recallMode ∨ (∃ n, o.recallGroup = some n ∧ 63 < n) ∨
          (∃ n, o.announceSet = some n ∧ 31 < n) then refusedWith ⟨0x13, tag, p⟩ .outOfRange s
      else answered ⟨0x13, tag, p⟩ .ok .nothing (s.modOrbit o.orbit fun r =>
        { r with
          parkTime := max 100 (min o.parkTime 6000), recallRingTime := max 100 (min o.recallRingTime 1200)
          recallMode := if o.recallMode = 0 then .parkerThenGroup else .groupOnly
          recallGroup := o.recallGroup, announceSet := o.announceSet }))) ∧
    (∀ o, ZoneSetSetOp.read p = some o → s.Takes ⟨0x14, tag, p⟩ → (∀ g, s.held g = false) →
      exec (.zonesetSet tag p) s = .next
        (if 31 < o.number then refusedWith ⟨0x14, tag, p⟩ .outOfRange s
        else answered ⟨0x14, tag, p⟩ .ok .nothing
          { s with zoneSets := tabModify s.zoneSets o.number fun _ => o.zones })) ∧
    (∀ o, PagingSetOp.read p = some o → s.Takes ⟨0x16, tag, p⟩ → exec (.pagingSet tag p) s = .next
      (answered ⟨0x16, tag, p⟩ .ok .nothing { s with paging :=
        { chime :=
            { emergency := min o.chime.emergency 30, urgent := min o.chime.urgent 30
              normal := min o.chime.normal 30, background := min o.chime.background 30 }
          hangTime := min o.hangTime 20, suspensionLimit := min o.suspensionLimit 600
          margin :=
            { emergency := max (-40) (min o.margin.emergency 60), urgent := max (-40) (min o.margin.urgent 60)
              normal := max (-40) (min o.margin.normal 60)
              background := max (-40) (min o.margin.background 60) } } }))

/-! ## Call pickup -/

/-- PICKUP-ASK in DIRECTED mode: its refusals in order, OUT-OF-RANGE for an absent target too, and NOT-PERMITTED but for
a target whose configured pickup group is directed-open, is the picker's own, or stands in the assist list of the
picker's configured group (R74, R78, R79). What a permitted one takes, whatever the pickable flag: a direct call, a hunt
offer that is its group's only call, or a recall ring, each at the target alone, which no other call wants. The mark is
cleared with STOP-RING (PICKED-UP), the call is CONNECTED to the picker, who is INCALL, CONNECT is sent and a PICKUP
record offered; a hunt offer leaves its waiting list and starts the picker's idle clock in the group afresh, and a
recall ring frees its orbit (R16, R17, R80, R83). -/
def Obligations.DirectedPickupConnects : Prop :=
  ∀ (tag : Byte) (p : List Byte) (o : PickupAskOp) (s : State), PickupAskOp.read p = some o → s.Takes ⟨0x06, tag, p⟩ →
    o.mode = 1 →
    (1023 < o.picker ∨ o.target = none ∨ (∃ t, o.target = some t ∧ 1023 < t) ∨ o.expected = some 0 →
      exec (.pickupAsk tag p) s = .next (refusedWith ⟨0x06, tag, p⟩ .outOfRange s)) ∧
    (∀ t, o.target = some t → o.picker ≤ 1023 → t ≤ 1023 → o.expected ≠ some 0 →
      let permitted : Prop := ∃ q, (s.ext t).pickupGroup = some q ∧ (s.pickup q).configured = true ∧
        ((s.pickup q).directedOpen = true ∨ ∃ own, (s.ext o.picker).pickupGroup = some own ∧
          (s.pickup own).configured = true ∧ (own = q ∨ q ∈ (s.pickup own).assist))
      ((s.ext o.picker).line ≠ .offhook →
        exec (.pickupAsk tag p) s = .next (refusedWith ⟨0x06, tag, p⟩ .wrongState s)) ∧
      ((s.ext o.picker).line = .offhook →
        ((s.ext t).ringing = none →
          exec (.pickupAsk tag p) s = .next (refusedWith ⟨0x06, tag, p⟩ .tooLate s)) ∧
        (∀ c k, (s.ext t).ringing = some c → s.call? c = some k →
          (∀ e, o.expected = some e → e ≠ c →
            exec (.pickupAsk tag p) s = .next (refusedWith ⟨0x06, tag, p⟩ .tooLate s)) ∧
          (o.expected = none ∨ o.expected = some c →
            (¬permitted → exec (.pickupAsk tag p) s = .next (refusedWith ⟨0x06, tag, p⟩ .notPermitted s)) ∧
            (permitted → k.ringing = [t] → t ≠ o.picker →
              let picked (group : Option Nat) (orbit : Option Nat) (u : State) : State :=
                answered ⟨0x06, tag, p⟩ .ok (.picked c k.kind t group orbit)
                  (offerRecord { TraceRecord.offered .pickup k.priority with
                      call := some c, group := group, ext := some o.picker, orbit := orbit, detail := 1 }
                    (direct (.connect o.picker c) (direct (.stopRing t c .pickedUp)
                      ((u.modExt t fun r => { r with ringing := none }).modExt o.picker fun r =>
                        { r with line := .inCall }))))
              let connect (r : CallContext) : CallContext := { r with
                ringing := r.ringing.filter (· != t), noAnswerDue := none, maxWaitDue := none, state := .connected
                connected := some o.picker }
              (k.state = .ringingDirect → k.group = none → k.orbit = none → (s.ext t).memberOf = [] →
                exec (.pickupAsk tag p) s = .next (picked none none (s.modCall c connect))) ∧
              (∀ g, k.state = .waiting → k.group = some g → k.orbit = none → (s.group g).waiting = [c] →
                (∀ m ∈ (s.group g).members, m.pending = false) → (∀ h ∈ (s.ext t).memberOf, h = g) →
                exec (.pickupAsk tag p) s = .next (picked (some g) none
                  ((s.modCall c fun r => { connect r with tried := [], passCount := 0 }).modGroup g fun r => { r with
                    waiting := []
                    members := r.members.map fun m => if m.ext = o.picker then { m with idleTenths := 0 } else m }))) ∧
              (∀ n, k.state = .recallRinging → k.group = none → k.orbit = some n → (s.orbit n).call = some c →
                (s.orbit n).announcePage = none → (s.ext t).memberOf = [] →
                exec (.pickupAsk tag p) s = .next (picked none (some n)
                  ((s.modCall c fun r => { connect r with orbit := none }).modOrbit n fun r =>
                    { r with state := .free, call := none, parker := none, parkDue := none, recallDue := none
                             announcePage := none }))))))))

/-- A mark at another extension of the searched pickup group is a candidate when its call is RINGING-DIRECT or
RECALL-RINGING, or WAITING in a pickable group; the choice among the candidates is the call of the highest priority,
then the mark that has rung longest, then the lowest extension, and there is none only where there is no candidate (R73,
R76). A PICKUP-ASK in GROUP mode is refused in the order of R74; otherwise it searches the picker's own group, then the
configured groups of its assist list, and takes the choice of the first that has a candidate (R75, R77). The call is
connected: STOP-RING (PICKED-UP), CONNECT, a PICKUP record and a reply that names it, the picker INCALL; here a direct
call, a hunt offer that is its group's only call, and a recall ring, each at one extension that no other call wants
(R16, R80, R83). -/
def Obligations.GroupPickupChoosesMark : Prop :=
  ∀ s : State,
    let candidate (q picker y : Nat) (l : CallContext) : Prop := y ≠ picker ∧ (s.ext y).pickupGroup = some q ∧
      (∃ c, (s.ext y).ringing = some c ∧ s.call? c = some l) ∧ (l.state = .ringingDirect ∨ l.state = .recallRinging ∨
        (l.state = .waiting ∧ ∃ g, l.group = some g ∧ (s.group g).pickable = true))
    let chosen (q picker x : Nat) (k : CallContext) : Prop := candidate q picker x k ∧
      ∀ y l, candidate q picker y l → l.priority ≤ k.priority ∧ (l.priority = k.priority →
        (s.ext x).ringStart ≤ (s.ext y).ringStart ∧ ((s.ext x).ringStart = (s.ext y).ringStart → x ≤ y))
    (∀ q picker, (s.chooseMark q picker = none ↔ ∀ y l, ¬candidate q picker y l) ∧
      ∀ x k, s.chooseMark q picker = some (x, k) ↔ chosen q picker x k) ∧
    ∀ (tag : Byte) (p : List Byte) (o : PickupAskOp), PickupAskOp.read p = some o → s.Takes ⟨0x06, tag, p⟩ →
      (1023 < o.picker ∨ 1 < o.mode →
        exec (.pickupAsk tag p) s = .next (refusedWith ⟨0x06, tag, p⟩ .outOfRange s)) ∧
      (o.mode = 0 → o.picker ≤ 1023 → (s.ext o.picker).line ≠ .offhook →
        exec (.pickupAsk tag p) s = .next (refusedWith ⟨0x06, tag, p⟩ .wrongState s)) ∧
      (o.mode = 0 → o.picker ≤ 1023 → (s.ext o.picker).line = .offhook →
        ((∀ q, (s.ext o.picker).pickupGroup = some q → (s.pickup q).configured = false) →
          exec (.pickupAsk tag p) s = .next (refusedWith ⟨0x06, tag, p⟩ .notConfigured s)) ∧
        ∀ own, (s.ext o.picker).pickupGroup = some own → (s.pickup own).configured = true →
          let searched := own :: (s.pickup own).assist.filter fun q => (s.pickup q).configured
          ((∀ q ∈ searched, ∀ y l, ¬candidate q o.picker y l) →
            exec (.pickupAsk tag p) s = .next (refusedWith ⟨0x06, tag, p⟩ .nothingToPick s)) ∧
          ∀ before q after x k, searched = before ++ q :: after → (∀ e ∈ before, ∀ y l, ¬candidate e o.picker y l) →
            chosen q o.picker x k → k.ringing = [x] →
            let picked (group : Option Nat) (orbit : Option Nat) (t : State) : State :=
              answered ⟨0x06, tag, p⟩ .ok (.picked k.ref k.kind x group orbit)
                (offerRecord { TraceRecord.offered .pickup k.priority with
                    call := some k.ref, group := group, ext := some o.picker, orbit := orbit, detail := 0 }
                  (direct (.connect o.picker k.ref) (direct (.stopRing x k.ref .pickedUp)
                    ((t.modExt x fun r => { r with ringing := none }).modExt o.picker fun r =>
                      { r with line := .inCall }))))
            let connect (r : CallContext) : CallContext := { r with
              ringing := r.ringing.filter (· != x), noAnswerDue := none, maxWaitDue := none, state := .connected
              connected := some o.picker }
            (k.state = .ringingDirect → k.group = none → k.orbit = none → (s.ext x).memberOf = [] →
              exec (.pickupAsk tag p) s = .next (picked none none (s.modCall k.ref connect))) ∧
            (∀ g, k.state = .waiting → k.group = some g → k.orbit = none → (s.group g).waiting = [k.ref] →
              (∀ m ∈ (s.group g).members, m.pending = false) → (∀ h ∈ (s.ext x).memberOf, h = g) →
              exec (.pickupAsk tag p) s = .next (picked (some g) none
                ((s.modCall k.ref fun r => { connect r with tried := [], passCount := 0 }).modGroup g fun r => { r with
                  waiting := []
                  members := r.members.map fun m => if m.ext = o.picker then { m with idleTenths := 0 } else m }))) ∧
            (∀ n, k.state = .recallRinging → k.group = none → k.orbit = some n → (s.orbit n).call = some k.ref →
              (s.orbit n).announcePage = none → (s.ext x).memberOf = [] →
              exec (.pickupAsk tag p) s = .next (picked none (some n)
                ((s.modCall k.ref fun r => { connect r with orbit := none }).modOrbit n fun r =>
                  { r with state := .free, call := none, parker := none, parkDue := none, recallDue := none
                           announcePage := none }))))

/-! ## Park orbits -/

/-- PARK-ASK: its refusals in order, BUSY for a named orbit that is not FREE, and the park: the orbit is HELD with its
park timer running, the call PARKED, the parker OFFHOOK if it was INCALL, PARK-HOLD is sent and a PARK record offered
(R90, R91). The reply says what became of the announcement: NOT-ASKED; NO-ZONE-SET for an orbit without a zone set;
NOT-PLACED when no zone of the set can be used or the page table is full; or PLACED with its page id, here for a page of
the parker's voice that is QUEUED, with PAGE-STATE (QUEUED) behind PARK-HOLD, because every zone of its target is
faulted and no other page exists; the orbit holds the id (R92, R106, R111, R120). -/
def Obligations.ParkAskHoldsCall : Prop :=
  ∀ (tag : Byte) (p : List Byte) (o : ParkAskOp) (s : State), ParkAskOp.read p = some o → s.Takes ⟨0x07, tag, p⟩ →
    let range := 1 ≤ o.call ∧ o.call ≤ 65534 ∧ o.parker ≤ 1023 ∧ o.announce ≤ 1 ∧ ∀ n, o.orbit = some n → n ≤ 31
    (¬range → exec (.parkAsk tag p) s = .next (refusedWith ⟨0x07, tag, p⟩ .outOfRange s)) ∧
    (range → s.call? o.call = none → exec (.parkAsk tag p) s = .next (refusedWith ⟨0x07, tag, p⟩ .noSuchCall s)) ∧
    (∀ k, range → s.call? o.call = some k →
      (k.state ≠ .connected ∨ k.connected ≠ some o.parker →
        exec (.parkAsk tag p) s = .next (refusedWith ⟨0x07, tag, p⟩ .wrongState s)) ∧
      (k.state = .connected → k.connected = some o.parker →
        (∀ n, o.orbit = some n → (s.orbit n).state ≠ .free →
          exec (.parkAsk tag p) s = .next (answered ⟨0x07, tag, p⟩ .busy .nothing s)) ∧
        (o.orbit = none → (∀ n, n ≤ 31 → (s.orbit n).state ≠ .free) →
          exec (.parkAsk tag p) s = .next (refusedWith ⟨0x07, tag, p⟩ .tableFull s)) ∧
        (∀ n, n ≤ 31 → (s.orbit n).state = .free →
          o.orbit = some n ∨ (o.orbit = none ∧ ∀ j, j < n → (s.orbit j).state ≠ .free) →
          let held : State := direct (.parkHold o.call n)
            (((s.modOrbit n fun r =>
              { r with state := .held, call := some o.call, parker := some o.parker
                       parkDue := some (s.clock + 100 * r.parkTime) }).modCall o.call fun k =>
                { k with state := .parked, connected := none, orbit := some n }).modExt o.parker fun r =>
                  { r with line := if r.line = .inCall then .offhook else r.line })
          let parked (a : Announcement) (page : Option Nat) (t : State) : Prop :=
            exec (.parkAsk tag p) s = .next (answered ⟨0x07, tag, p⟩ .ok (.parked n a page)
              (offerRecord { TraceRecord.offered .park k.priority with
                call := some o.call, group := k.group, ext := some o.parker, orbit := some n } t))
          (o.announce = 0 → parked .notAsked none held) ∧
          (o.announce = 1 → (s.orbit n).announceSet = none → parked .noZoneSet none held) ∧
          (∀ set, o.announce = 1 → (s.orbit n).announceSet = some set →
            let target := s.targetOf .normal (s.zoneSet set)
            let id := s.lastPageId % 255 + 1
            (target = 0 ∨ 24 ≤ (s.pages.filter fun r => r.alarm.isNone).length → parked .notPlaced none held) ∧
            (target ≠ 0 → s.pages = [] → s.ZonesQuiet → (∀ z, zoneIn target z = true → (s.amp z).fault ≠ none) →
              parked .placed (some id) (direct (.pageState id .queued none)
                { held.modOrbit n fun r => { r with announcePage := some id } with
                  lastPageId := id, nextArrival := s.nextArrival + 1
                  pages := [{ id := id, alarm := none, cls := .normal, source := .ext o.parker, requester := .orbit n
                              target := target, mode := .partially, suspendAllowed := true, maxDuration := 100
                              arrival := s.nextArrival, state := .queued, channel := none, audioSent := false
                              durationStarted := false, durationDue := none, suspensionDue := none
                              endReason := none }] }))))))

/-- The two timers of an orbit: at the end of the park time a call with recall to the parker rings an IDLE parker with
cadence RECALL, the recall ring timer starts and the call is RECALL-RINGING; in mode GROUP-ONLY, or with a parker who is
not IDLE or rings, it is recalled into the orbit's recall group (R94). At the end of the recall ring the mark is cleared
with STOP-RING (NO-ANSWER) and the call is recalled so (R96). A recall frees the orbit: without a recall group, or with
one that is unconfigured or full, the call is diverted to the fallback destination with a DIVERT record; with room it
becomes RECALLED, its priority one higher up to 3, enters the group's list afresh with its depth kept, and a RECALL
record is offered; here with no member that can be rung but one present, it is QUEUED with WAIT-HOLD and a WAIT record
(R39, R42, R52, R54, R93, R95). MODEL'S CHOICE (log entry 25): the RECALL record is offered before the records of the
call's advance, the WAIT record here, an order that R185 leaves to inference. -/
def Obligations.OrbitTimersRecall : Prop :=
  ∀ (n c x d : Nat) (k : CallContext) (s : State), s.running = true → n ≤ 31 → x ≤ 1023 → (s.orbit n).call = some c →
    (s.orbit n).parker = some x → s.call? c = some k → d ≤ s.clock →
    let now := min (s.clock / 100) 4294967295
    let freed (t : State) : State := t.modOrbit n fun r =>
      { r with state := .free, call := none, parker := none, parkDue := none, recallDue := none, announcePage := none }
    let diverted (group : Option Nat) (t : State) : State :=
      offerRecord { TraceRecord.offered .divert k.priority with
          call := some c, group := group, orbit := some n, detail := k.depth }
        (direct (.divert c s.fallback) { freed t with calls := s.calls.filter fun k => k.ref != c })
    let recalled (g : Nat) (t : State) : State :=
      let priority := min (k.priority + 1) 3
      offerRecord { TraceRecord.offered .wait priority with call := some c, group := some g }
        (direct (.waitHold c)
          (((offerRecord { TraceRecord.offered .recall priority with
              call := some c, group := some g, orbit := some n } (freed t)).modGroup g fun r =>
            { r with
              waiting := insertBefore (fun _ b => ((s.call? b).map fun q => q.priority < priority ||
                  (priority = q.priority && now < q.waitingSince)).getD false) c r.waiting }).modCall c fun k =>
            { k with
              kind := .recalled, priority := priority, group := some g, orbit := none, state := .waiting
              waitingSince := now, tried := [], passCount := 0
              maxWaitDue := if (s.group g).maximumWait = 0 then none
                else some (s.clock + 100 * (s.group g).maximumWait) }))
    let takesIt (g : Nat) : Prop := (s.group g).configured = true ∧ c ∉ (s.group g).waiting ∧
      (s.group g).waiting.length < (s.group g).waitingDepth ∧ (∀ m ∈ (s.group g).members, (s.ext m.ext).line ≠ .idle) ∧
      ∃ m ∈ (s.group g).members, m.effective = .available ∨ m.effective = .standby
    let turnedAway (group : Option Nat) : Prop := ∀ g, group = some g →
      (s.group g).configured = false ∨ (s.group g).waitingDepth ≤ (s.group g).waiting.length
    ((s.orbit n).parkDue = some d → (s.orbit n).recallMode = .parkerThenGroup → (s.ext x).line = .idle →
      (s.ext x).ringing = none →
      exec (.parkTimerExpiry n) s = .next (direct (.ring x c .recall)
        (((s.modOrbit n fun r =>
          { r with state := .recalling, parkDue := none, recallDue := some (s.clock + 100 * r.recallRingTime) }).modCall c
          fun k => { k with state := .recallRinging, ringing := k.ringing ++ [x] }).modExt x fun r =>
            { r with ringing := some c, ringStart := min (s.clock / 100) 4294967295 }))) ∧
    ((s.orbit n).parkDue = some d →
      (s.orbit n).recallMode ≠ .parkerThenGroup ∨ (s.ext x).line ≠ .idle ∨ (s.ext x).ringing ≠ none →
      (s.orbit n).announcePage = none →
      (turnedAway (s.orbit n).recallGroup →
        exec (.parkTimerExpiry n) s = .next (diverted (s.orbit n).recallGroup s)) ∧
      (∀ g, (s.orbit n).recallGroup = some g → takesIt g →
        exec (.parkTimerExpiry n) s = .next (recalled g s))) ∧
    ((s.orbit n).recallDue = some d → k.state = .recallRinging → (s.orbit n).announcePage = none →
      (s.ext x).memberOf = [] →
      let silent := direct (.stopRing x c .noAnswer)
        ((s.modExt x fun r => { r with ringing := none }).modCall c fun k =>
          { k with ringing := k.ringing.filter (· != x) })
      (turnedAway (s.orbit n).recallGroup →
        exec (.recallRingExpiry n) s = .next (diverted (s.orbit n).recallGroup silent)) ∧
      (∀ g, (s.orbit n).recallGroup = some g → takesIt g →
        exec (.recallRingExpiry n) s = .next (recalled g silent)))

/-- RETRIEVE-ASK: its refusals in order, and the retrieve of a PARKED call, or of one that rings its parker, whom no
other call wants and who gets STOP-RING (RETRIEVED): it is CONNECTED to the extension, which is INCALL, the idle clock
of the extension's membership of the call's group starts afresh, CONNECT is sent, the orbit is freed, and a RETRIEVE
record offered with the call's group; the reply carries the group too (R16, R93, R98, R99). -/
def Obligations.RetrieveAskConnects : Prop :=
  ∀ (tag : Byte) (p : List Byte) (o : RetrieveAskOp) (s : State), RetrieveAskOp.read p = some o →
    s.Takes ⟨0x08, tag, p⟩ →
    let range := o.orbit ≤ 31 ∧ o.ext ≤ 1023 ∧ o.expected ≠ some 0
    (¬range → exec (.retrieveAsk tag p) s = .next (refusedWith ⟨0x08, tag, p⟩ .outOfRange s)) ∧
    (range → (s.ext o.ext).line ≠ .offhook →
      exec (.retrieveAsk tag p) s = .next (refusedWith ⟨0x08, tag, p⟩ .wrongState s)) ∧
    (range → (s.ext o.ext).line = .offhook → (s.orbit o.orbit).call = none →
      exec (.retrieveAsk tag p) s = .next (refusedWith ⟨0x08, tag, p⟩ .empty s)) ∧
    (∀ c k, range → (s.ext o.ext).line = .offhook → (s.orbit o.orbit).call = some c → s.call? c = some k →
      (∀ e, o.expected = some e → e ≠ c →
        exec (.retrieveAsk tag p) s = .next (refusedWith ⟨0x08, tag, p⟩ .tooLate s)) ∧
      (∀ t, o.expected = none ∨ o.expected = some c → k.orbit = some o.orbit →
        (s.orbit o.orbit).announcePage = none →
        (k.state = .parked ∧ k.ringing = [] ∧ t = s) ∨ (∃ x, k.state = .recallRinging ∧ k.ringing = [x] ∧ x ≠ o.ext ∧
          (s.ext x).memberOf = [] ∧ t = direct (.stopRing x c .retrieved)
            ((s.modExt x fun r => { r with ringing := none }).modCall c fun k =>
              { k with ringing := k.ringing.filter (· != x) })) →
        let clocked (t : State) : State := match k.group with
          | none => t
          | some g => t.modGroup g fun r =>
            { r with members := r.members.map fun m => if m.ext = o.ext then { m with idleTenths := 0 } else m }
        exec (.retrieveAsk tag p) s = .next (answered ⟨0x08, tag, p⟩ .ok (.retrieved c o.orbit k.kind k.group)
          (offerRecord { TraceRecord.offered .retrieve k.priority with
              call := some c, group := k.group, ext := some o.ext, orbit := some o.orbit }
            (direct (.connect o.ext c)
              (((clocked (t.modExt o.ext fun r => { r with line := .inCall })).modCall c fun k =>
                { k with noAnswerDue := none, maxWaitDue := none, state := .connected, connected := some o.ext
                         orbit := none }).modOrbit o.orbit fun r =>
                  { r with state := .free, call := none, parker := none, parkDue := none, recallDue := none
                           announcePage := none }))))))

/-! ## Page scheduling -/

/-- Class comes first, then, within EMERGENCY, the alarm pages of inputs 0 to 3 in this order and below them every host
page; a page outranks another when its class is higher or both are EMERGENCY and its rank is higher. Among pages that
neither outranks the other the earlier arrival comes first, but a zone that sounds for one of them is not usable for
the other (R103). -/
def Obligations.PagePrecedence : Prop :=
  (∀ c : PageClass, PageClass.emergency.order ≤ c.order) ∧
  PageClass.emergency.order < PageClass.urgent.order ∧ PageClass.urgent.order < PageClass.normal.order ∧
  PageClass.normal.order < PageClass.background.order ∧
  ∀ (p q : PageRecord), (∀ i, p.alarm = some i → i ≤ 3) → (∀ i, q.alarm = some i → i ≤ 3) →
    let higherRank := match p.alarm, q.alarm with
      | some i, some j => i < j
      | some _, none => True
      | none, _ => False
    (outranks p q = true ↔
      p.cls.order < q.cls.order ∨ (p.cls = .emergency ∧ q.cls = .emergency ∧ higherRank)) ∧
    (outranks p q = true → pagePrecedes p q = true ∧ pagePrecedes q p = false) ∧
    (outranks p q = false → outranks q p = false → (pagePrecedes p q = true ↔ p.arrival < q.arrival)) ∧
    ∀ (s : State) (z : Nat), s.page? q.id = some q → (s.zone z).state = .opening q.id ∨ (s.zone z).state = .live q.id →
      outranks p q = false → s.usable p z = false

/-- PAGE-ASK: its refusals, and the admission of a page that cannot start because every zone of its target is faulted
while no other page exists: it is QUEUED under the next page id, PAGE-STATE (QUEUED) is sent and the reply gives the id,
the state and the number of zones (R106, R110, R111, R120, R122). MODEL'S CHOICE: a suspend-allowed byte other than 0
is yes (log entry 17), and the form codes of source and target are those of log entry 7 (R186). -/
def Obligations.PageAskQueuesPage : Prop :=
  ∀ (tag : Byte) (p : List Byte) (o : PageAskOp) (s : State), PageAskOp.read p = some o → s.Takes ⟨0x09, tag, p⟩ →
    (3 < o.cls ∨ 1 < o.mode ∨ 1 < o.source.code ∨ (o.source.code = 0 ∧ 1023 < o.source.value) ∨ o.source.value = 65535 ∨
        1 < o.target.code ∨ (o.target.code = 0 ∧ 31 < o.target.value) ∨ (o.target.code = 1 ∧ 63 < o.target.value) →
      exec (.pageAsk tag p) s = .next (refusedWith ⟨0x09, tag, p⟩ .outOfRange s)) ∧
    ∀ source cls zones mode, readSource o.source = some source → readClass o.cls = some cls →
      s.readTarget o.target = some zones → readMode o.mode = some mode →
      ((∃ x, source = .ext x ∧ (s.ext x).line ≠ .offhook) →
        exec (.pageAsk tag p) s = .next (refusedWith ⟨0x09, tag, p⟩ .wrongState s)) ∧
      ((∀ x, source = .ext x → (s.ext x).line = .offhook) →
        (s.targetOf cls zones = 0 → exec (.pageAsk tag p) s = .next (refusedWith ⟨0x09, tag, p⟩ .allExcluded s)) ∧
        (s.targetOf cls zones ≠ 0 → 24 ≤ (s.pages.filter fun r => r.alarm.isNone).length →
          exec (.pageAsk tag p) s = .next (refusedWith ⟨0x09, tag, p⟩ .tableFull s)) ∧
        (s.targetOf cls zones ≠ 0 → cls ≠ .emergency → s.pages = [] → s.ZonesQuiet →
          (∀ z, zoneIn (s.targetOf cls zones) z = true → (s.amp z).fault ≠ none) →
          exec (.pageAsk tag p) s = .next (answered ⟨0x09, tag, p⟩ .ok
            (.page (s.lastPageId % 255 + 1) .queued (zonesOf (s.targetOf cls zones)).length)
            (direct (.pageState (s.lastPageId % 255 + 1) .queued none)
              { s with
                lastPageId := s.lastPageId % 255 + 1, nextArrival := s.nextArrival + 1
                pages := [{ id := s.lastPageId % 255 + 1, alarm := none, cls := cls, source := source
                            requester := .host, target := s.targetOf cls zones, mode := mode
                            suspendAllowed := o.suspendAllowed ≠ 0 || cls = .background
                            maxDuration := if o.maxDuration = 0 then 0 else max 10 (min o.maxDuration 6000)
                            arrival := s.nextArrival, state := .queued, channel := none, audioSent := false
                            durationStarted := false, durationDue := none, suspensionDue := none
                            endReason := none }] }))))

/-- A PAGE-ASK of class URGENT, NORMAL or BACKGROUND with a chime, for a target of one usable zone while no page exists,
starts at once: the page takes channel 0 and is OPENING, the zone opens for it with the computed gain code, the chime
time as ramp and the chime on, and PAGE-STATE (QUEUED), PAGE-STATE (OPENING) and the reply are sent (R111, R114, R121,
R122, R138). An URGENT PAGE-ASK for the zone in which a lower page of the host is LIVE takes that zone: the victim gives
up its channel with PAGE-AUDIO off and is SUSPENDED, with the suspension limit as its timer unless it is BACKGROUND,
when it may be, and is FREED with reason PREEMPTED otherwise; the new page opens on the lowest channel free before
(R118, R121 to R123). A page takes the lowest free general channel; with none free a BACKGROUND page takes none, an
URGENT or NORMAL one that of the lowest class and latest arrival when it is of a strictly lower class; an EMERGENCY page
takes EC when it is free or held by a page it outranks (R117, R121). MODEL'S CHOICE: a suspend-allowed byte other than 0
is yes (log entry 17), and the form codes of source and target are those of log entry 7 (R186). -/
def Obligations.PageAskOpensZone : Prop :=
  (∀ (tag : Byte) (p : List Byte) (o : PageAskOp) (source : PageSource) (cls : PageClass) (zones : ZoneSet)
    (mode : PageMode) (z : Nat) (s : State), PageAskOp.read p = some o → s.Takes ⟨0x09, tag, p⟩ →
    readSource o.source = some source → readClass o.cls = some cls → s.readTarget o.target = some zones →
    readMode o.mode = some mode → (∀ x, source = .ext x → (s.ext x).line = .offhook) → cls ≠ .emergency →
    s.pages = [] → s.ZonesQuiet → zonesOf (s.targetOf cls zones) = [z] → (s.amp z).fault = none →
    (s.amp z).commanded = .idle → s.paging.chime.of cls ≠ 0 → unsolicitedCount s.link.output < 39 →
    let id := s.lastPageId % 255 + 1
    ∃ t, exec (.pageAsk tag p) s = .next t ∧
      t.pages = [{ id := id, alarm := none, cls := cls, source := source, requester := .host
                   target := s.targetOf cls zones, mode := mode
                   suspendAllowed := o.suspendAllowed ≠ 0 || cls = .background
                   maxDuration := if o.maxDuration = 0 then 0 else max 10 (min o.maxDuration 6000)
                   arrival := s.nextArrival, state := .opening, channel := some 0, audioSent := false
                   durationStarted := false, durationDue := none, suspensionDue := none, endReason := none }] ∧
      t.zone z = { state := .opening id, chimeDue := some (s.clock + 100 * s.paging.chime.of cls), hangDue := none } ∧
      (∀ y, y ≠ z → t.zone y = s.zone y ∧ t.amp y = s.amp y) ∧
      (t.amp z).commanded = { channel := 0, gain := s.gainCode z cls, ramp := s.paging.chime.of cls, chime := true } ∧
      (t.amp z).deliveryPending = true ∧
      t.link.output = s.link.output ++ [.directive (.pageState id .queued none), .directive (.pageState id .opening none),
        .reply 0x89 tag .ok (.page id .opening 1)] ∧
      t.exts = s.exts ∧ t.calls = s.calls ∧ t.groups = s.groups ∧ t.orbits = s.orbits ∧ t.inputs = s.inputs) ∧
  (∀ (tag : Byte) (p : List Byte) (o : PageAskOp) (source : PageSource) (zones : ZoneSet) (mode : PageMode) (z ch : Nat)
    (q : PageRecord) (s : State), PageAskOp.read p = some o → s.Takes ⟨0x09, tag, p⟩ →
    readSource o.source = some source → readClass o.cls = some .urgent → s.readTarget o.target = some zones →
    readMode o.mode = some mode → (∀ x, source = .ext x → (s.ext x).line = .offhook) →
    s.pages = [q] → q.alarm = none → q.requester = .host → q.cls = .normal ∨ q.cls = .background → q.state = .live →
    q.channel = some ch → ch ≤ 5 → q.audioSent = true → zonesOf q.target = [z] → (s.zone z).state = .live q.id →
    (∀ y, y ≠ z → (s.zone y).state = .idle) → s.covered = 0 → zonesOf (s.targetOf .urgent zones) = [z] →
    (s.amp z).fault = none → s.paging.chime.urgent ≠ 0 → q.id ≠ s.lastPageId % 255 + 1 →
    unsolicitedCount s.link.output < 37 →
    let id := s.lastPageId % 255 + 1
    let kept := q.suspendAllowed && (decide (q.cls = .background) || decide (s.paging.suspensionLimit ≠ 0))
    let taken := if ch = 0 then 1 else 0
    ∃ t, exec (.pageAsk tag p) s = .next t ∧
      t.pages = (if kept = true then [{ q with
        state := .suspended, channel := none, audioSent := false
        suspensionDue := if q.cls = .background then none else some (s.clock + 100 * s.paging.suspensionLimit) }] else []) ++
        [{ id := id, alarm := none, cls := .urgent, source := source, requester := .host
           target := s.targetOf .urgent zones, mode := mode, suspendAllowed := o.suspendAllowed ≠ 0
           maxDuration := if o.maxDuration = 0 then 0 else max 10 (min o.maxDuration 6000)
           arrival := s.nextArrival, state := .opening, channel := some taken, audioSent := false
           durationStarted := false, durationDue := none, suspensionDue := none, endReason := none }] ∧
      t.zone z = { state := .opening id, chimeDue := some (s.clock + 100 * s.paging.chime.urgent), hangDue := none } ∧
      (∀ y, y ≠ z → t.zone y = s.zone y ∧ t.amp y = s.amp y) ∧
      (t.amp z).commanded =
        { channel := taken, gain := s.gainCode z .urgent, ramp := s.paging.chime.urgent, chime := true } ∧
      t.link.output = s.link.output ++ [.directive (.pageState id .queued none),
        .directive (.pageAudio q.id ch q.source false),
        .directive (.pageState q.id (if kept = true then .suspended else .freed) (some .preempted)),
        .directive (.pageState id .opening none), .reply 0x89 tag .ok (.page id .opening 1)]) ∧
  (∀ (p : PageRecord) (s : State), p.cls ≠ .emergency →
    (∀ k, k ≤ 5 → s.holder k = none → (∀ j, j < k → s.holder j ≠ none) → s.channelFor p = some (k, none)) ∧
    ∀ h : Nat → PageRecord, (∀ j, j ≤ 5 → s.holder j = some (h j)) →
      (p.cls = .background → s.channelFor p = none) ∧
      (p.cls ≠ .background → ∀ k, k ≤ 5 → (∀ j, j ≤ 5 → j ≠ k → (h j).cls.order < (h k).cls.order ∨
          ((h j).cls.order = (h k).cls.order ∧ (h j).arrival < (h k).arrival)) →
        s.channelFor p = if p.cls.order < (h k).cls.order then some (k, some (h k).id) else none)) ∧
  (∀ (p : PageRecord) (s : State), p.cls = .emergency →
    (s.holder 6 = none → s.channelFor p = some (6, none)) ∧
    ∀ q, s.holder 6 = some q → s.channelFor p = if outranks p q = true then some (6, some q.id) else none)

/-- A host page that waits, with no other page and every zone IDLE, is removed by PAGE-STOP with reason STOPPED, and a
SUSPENDED one by the end of its suspension timer with reason SUSPEND-TIMEOUT: PAGE-STATE (FREED) is sent and PAGE-END
offered. PAGE-STOP is refused with TOO-LATE for an id of no page and with NOT-PERMITTED for an alarm page (R112, R125,
R129). A PAGE-STOP of the only page, OPENING or LIVE in one zone, closes it: the zone is CLOSING for the hang time with
its amplifier muted, PAGE-AUDIO off is sent when its audio was sent, the channel is given up, PAGE-STATE (CLOSING,
STOPPED) precedes the OK and PAGE-END is offered; with a hang time of 0 the zone is IDLE and the page freed in the same
event. A page that is CLOSING is left as it is, with OK (R112, R114, R128). -/
def Obligations.WaitingPageIsRemoved : Prop :=
  (∀ (tag : Byte) (p : List Byte) (id : Nat) (s : State), readNumber2 p = some id → s.Takes ⟨0x0A, tag, p⟩ →
    (id = 0 ∨ 255 < id → exec (.pageStop tag p) s = .next (refusedWith ⟨0x0A, tag, p⟩ .outOfRange s)) ∧
    (1 ≤ id → id ≤ 255 → s.page? id = none →
      exec (.pageStop tag p) s = .next (refusedWith ⟨0x0A, tag, p⟩ .tooLate s)) ∧
    (∀ r, 1 ≤ id → id ≤ 255 → s.page? id = some r → r.alarm ≠ none →
      exec (.pageStop tag p) s = .next (refusedWith ⟨0x0A, tag, p⟩ .notPermitted s)) ∧
    (∀ r, 1 ≤ id → id ≤ 255 → s.pages = [r] → r.id = id → r.alarm = none → r.requester = .host →
      r.state = .queued ∨ r.state = .suspended → s.ZonesQuiet →
      exec (.pageStop tag p) s = .next (answered ⟨0x0A, tag, p⟩ .ok .nothing
        (offerRecord (r.traceRecord .pageEnd 1)
          (direct (.pageState id .freed (some .stopped)) { s with pages := [] })))) ∧
    (∀ r, 1 ≤ id → id ≤ 255 → s.page? id = some r → r.alarm = none → r.state = .closing →
      exec (.pageStop tag p) s = .next (answered ⟨0x0A, tag, p⟩ .ok .nothing s)) ∧
    (∀ r z, 1 ≤ id → id ≤ 255 → z ≤ 63 → s.pages = [r] → r.id = id → r.alarm = none → r.requester = .host →
      r.cls ≠ .emergency →
      (r.state = .opening ∧ (s.zone z).state = .opening id) ∨ (r.state = .live ∧ (s.zone z).state = .live id) →
      (∀ y, y ≠ z → (s.zone y).state = .idle) → s.covered = 0 → unsolicitedCount s.link.output < 38 →
      let hang := s.paging.hangTime
      ∃ t, exec (.pageStop tag p) s = .next t ∧ (∀ y, y ≠ z → t.zone y = s.zone y ∧ t.amp y = s.amp y) ∧
        t.trace = (offerRecord (r.traceRecord .pageEnd 1) s).trace ∧
        t.link.output = s.link.output ++
          (if r.audioSent = true then [.directive (.pageAudio id (r.channel.getD 7) r.source false)] else []) ++
          [.directive (.pageState id .closing (some .stopped))] ++
          (if hang = 0 then [.directive (.pageState id .freed (some .stopped))] else []) ++
          [.reply 0x8A tag .ok .nothing] ∧
        (hang ≠ 0 →
          t.zone z = { state := .closing id none, chimeDue := none, hangDue := some (s.clock + 100 * hang) } ∧
          t.pages = [{ r with state := .closing, channel := none, audioSent := false, durationDue := none
                              endReason := some .stopped }] ∧
          (t.amp z).commanded = { (s.amp z).commanded with gain := 255, ramp := hang, chime := false }) ∧
        (hang = 0 → t.zone z = { state := .idle, chimeDue := none, hangDue := none } ∧ t.pages = [] ∧
          (t.amp z).commanded = .idle))) ∧
  (∀ (id d : Nat) (r : PageRecord) (s : State), s.running = true → s.pages = [r] → r.id = id → r.alarm = none →
    r.requester = .host → r.state = .suspended → r.suspensionDue = some d → d ≤ s.clock → s.ZonesQuiet →
    exec (.suspensionTimerExpiry id) s = .next (offerRecord (r.traceRecord .pageEnd 7)
      (direct (.pageState id .freed (some .suspendTimeout)) { s with pages := [] })))

/-- The timers of the only page and its only zone. At the end of the chime the zone goes LIVE with ramp 0 and the chime
off, the page's audio is switched on and it is LIVE, its duration starting (R115). At the end of the duration the zone
closes for the hang time, the audio is switched off, the channel given up and the page is CLOSING (R128). At the end of
the hang the zone goes IDLE and the page is freed (R116). With a second page r beside the closing one: a zone reserved
for r opens for it at the end of the hang, with a gain code and the chime time of r's class, on the channel r holds
(R116); a SUSPENDED r whose target is the zone resumes there on channel 0, and PAGE-STATE (OPENING) is sent (R122,
R126); a LIVE PARTIAL r with the zone in its target joins it late, without a frame (R127). -/
def Obligations.PageTimersMovePageOn : Prop :=
  (∀ (z d : Nat) (r : PageRecord) (s : State), z ≤ 63 → s.running = true → d ≤ s.clock → s.pages = [r] →
    r.alarm = none → r.requester = .host → r.cls ≠ .emergency → s.covered = 0 →
    (∀ y, y ≠ z → (s.zone y).state = .idle) → s.link.output.length < 46 → unsolicitedCount s.link.output < 38 →
    (∀ ch, (s.zone z).state = .opening r.id → (s.zone z).chimeDue = some d → r.state = .opening →
      r.channel = some ch → r.durationStarted = false →
      ∃ t, exec (.chimeTimerExpiry z) s = .next t ∧
        t.zone z = { state := .live r.id, chimeDue := none, hangDue := none } ∧
        t.pages = [{ r with
          state := .live, audioSent := !(ch = 6 && (match r.source with | .alarm _ => true | _ => false)) || r.audioSent
          durationStarted := r.maxDuration ≠ 0
          durationDue := if r.maxDuration = 0 then r.durationDue else some (s.clock + 100 * r.maxDuration) }] ∧
        (t.amp z).commanded = { (s.amp z).commanded with ramp := 0, chime := false } ∧
        (∀ x, r.source = .ext x → t.link.output = s.link.output ++ [.directive (.pageAudio r.id ch (.ext x) true),
          .directive (.pageState r.id .live none)])) ∧
    (∀ ch, (s.zone z).state = .live r.id → r.state = .live → r.durationDue = some d → r.channel = some ch →
      r.audioSent = true → s.paging.hangTime ≠ 0 →
      ∃ t, exec (.durationExpiry r.id) s = .next t ∧
        t.zone z = { state := .closing r.id none, chimeDue := none
                     hangDue := some (s.clock + 100 * s.paging.hangTime) } ∧
        t.pages = [{ r with state := .closing, channel := none, audioSent := false, durationDue := none
                            endReason := some .duration }] ∧
        (t.amp z).commanded = { (s.amp z).commanded with gain := 255, ramp := s.paging.hangTime, chime := false } ∧
        t.link.output = s.link.output ++ [.directive (.pageAudio r.id ch r.source false),
          .directive (.pageState r.id .closing (some .duration))]) ∧
    ((s.zone z).state = .closing r.id none → (s.zone z).hangDue = some d → r.state = .closing →
      ∃ t, exec (.hangTimerExpiry z) s = .next t ∧ t.zone z = { state := .idle, chimeDue := none, hangDue := none } ∧
        t.pages = [] ∧ (t.amp z).commanded = .idle ∧
        t.link.output = s.link.output ++ [.directive (.pageState r.id .freed r.endReason)])) ∧
  ∀ (z d : Nat) (q r : PageRecord) (s : State), z ≤ 63 → s.running = true → (s.zone z).hangDue = some d → d ≤ s.clock →
    s.pages = [q, r] → q.id ≠ r.id → q.alarm = none → r.alarm = none → q.state = .closing → q.channel = none →
    r.cls ≠ .emergency → s.covered = 0 → s.paging.chime.of r.cls ≠ 0 → s.installed z = true → (s.amp z).fault = none →
    r.cls = .urgent ∨ s.map.activeRange.excludes z = false →
    s.link.output.length < 46 → unsolicitedCount s.link.output < 38 →
    let opened := { state := .opening r.id, chimeDue := some (s.clock + 100 * s.paging.chime.of r.cls), hangDue := none }
    let freed := OutFrame.directive (.pageState q.id .freed q.endReason)
    (∀ ch, (s.zone z).state = .closing q.id (some r.id) → r.state = .opening → r.channel = some ch →
      (∀ y, y ≠ z → (s.zone y).state = .idle) →
      ∃ t, exec (.hangTimerExpiry z) s = .next t ∧ t.zone z = opened ∧ t.pages = [r] ∧
        (t.amp z).commanded =
          { channel := ch, gain := s.gainCode z r.cls, ramp := s.paging.chime.of r.cls, chime := true } ∧
        t.link.output = s.link.output ++ [freed]) ∧
    ((s.zone z).state = .closing q.id none → r.state = .suspended → r.channel = none → zonesOf r.target = [z] →
      (∀ y, y ≠ z → (s.zone y).state = .idle) →
      ∃ t, exec (.hangTimerExpiry z) s = .next t ∧ t.zone z = opened ∧
        t.pages = [{ r with state := .opening, channel := some 0, suspensionDue := none }] ∧
        (t.amp z).commanded =
          { channel := 0, gain := s.gainCode z r.cls, ramp := s.paging.chime.of r.cls, chime := true } ∧
        t.link.output = s.link.output ++ [freed, .directive (.pageState r.id .opening none)]) ∧
    (∀ ch, (s.zone z).state = .closing q.id none → r.state = .live → r.mode = .partially → r.channel = some ch →
      zoneIn r.target z = true →
      (∀ y, y ≠ z → (s.zone y).state = .live r.id ∨ ((s.zone y).state = .idle ∧ zoneIn r.target y = false)) →
      ∃ t, exec (.hangTimerExpiry z) s = .next t ∧ t.zone z = opened ∧ t.pages = [r] ∧
        (∀ y, y ≠ z → t.zone y = s.zone y) ∧
        (t.amp z).commanded =
          { channel := ch, gain := s.gainCode z r.cls, ramp := s.paging.chime.of r.cls, chime := true } ∧
        t.link.output = s.link.output ++ [freed])

/-! ## Zone link and levels -/

/-- How an exchange with a zone ends, by a reply within its time or by the time's end (R140); then the next exchange
begins. At an installed zone that is not faulted a missed or a bad reply counts, and the third in a row, be it missed or
bad, faults the zone with NO-REPLY and sends ZONE-FAULT (R142); a fault reply faults it with its cause (R143); a good
reply clears the count, confirms the delivery unless a hand-over changed the commanded state since, and hands the
reading to the Level Unit when the frame commanded silence (R141). At a faulted zone a missed or a bad reply only makes
delivery pending and the emergency mark no, as does a fault reply of the same cause, and one of another cause replaces
it and sends ZONE-FAULT (R143, R145); a good reply clears the fault, makes delivery pending yes, sends ZONE-RESTORED,
guards the reading and runs a scheduling pass, here with no page (R144). The outcome for a zone that has left the
installed set is discarded (R145). MODEL'S CHOICE (log entry 15): the deadline of the exchange is counted from its
start. -/
def Obligations.ExchangesEnd : Prop :=
  ∀ (e : Exchange) (s : State), s.running = true → s.exchange = some e → e.zone ≤ 63 →
    let amp := s.amp e.zone
    let next (t : State) : State := startExchange { t with exchange := none }
    let counted := next (s.modAmp e.zone fun a => { a with missCount := a.missCount + 1 })
    let seen := next (s.modAmp e.zone fun a => { a with deliveryPending := false, emergencyMark := false })
    let faulted (c : FaultCause) := next (notify (.zoneFault e.zone c) (s.modAmp e.zone fun a =>
      { a with fault := some c, missCount := 0, deliveryPending := false, emergencyMark := false }))
    let heard (reading : Byte) (t : State) : State :=
      next (if e.sent.channel = 7 ∧ e.sent.gain = 255 then takeReading e.zone reading.toNat t else t)
    let unfaulted : Prop := s.installed e.zone = true ∧ amp.fault = none
    let troubled : Prop := s.installed e.zone = true ∧ amp.fault ≠ none
    (e.deadline ≤ s.clock →
      (s.installed e.zone = false → exec .zoneReplyTimeout s = .next (next s)) ∧
      (unfaulted → amp.missCount < 2 → exec .zoneReplyTimeout s = .next counted) ∧
      (unfaulted → 2 ≤ amp.missCount → exec .zoneReplyTimeout s = .next (faulted .noReply)) ∧
      (troubled → exec .zoneReplyTimeout s = .next seen)) ∧
    (∀ a r st ap ck : Byte, s.clock ≤ e.deadline →
      let bad : Prop :=
        a + r + st + ap + ck ≠ 0 ∨ a.toNat ≠ e.zone + 1 ∨ 3 < st.toNat ∨ (st = 0 ∧ ap.toNat ≠ e.sent.channel)
      let statusOf (c : FaultCause) : Prop := a + r + st + ap + ck = 0 ∧ a.toNat = e.zone + 1 ∧
        ((st = 1 ∧ c = .amplifier) ∨ (st = 2 ∧ c = .lineOpen) ∨ (st = 3 ∧ c = .overtemperature))
      let good : Prop := a + r + st + ap + ck = 0 ∧ a.toNat = e.zone + 1 ∧ st = 0 ∧ ap.toNat = e.sent.channel
      (s.installed e.zone = false → exec (.zoneReply a r st ap ck) s = .next (next s)) ∧
      (bad → unfaulted → amp.missCount < 2 → exec (.zoneReply a r st ap ck) s = .next counted) ∧
      (bad → unfaulted → 2 ≤ amp.missCount → exec (.zoneReply a r st ap ck) s = .next (faulted .noReply)) ∧
      (bad → troubled → exec (.zoneReply a r st ap ck) s = .next seen) ∧
      (∀ c, statusOf c → s.installed e.zone = true → exec (.zoneReply a r st ap ck) s = .next
        (if amp.fault = some c then seen else faulted c)) ∧
      (good → unfaulted → exec (.zoneReply a r st ap ck) s = .next (heard r (s.modAmp e.zone fun a =>
        if e.superseded = true then { a with missCount := 0 }
        else { a with missCount := 0, deliveryPending := false, emergencyMark := false }))) ∧
      (good → troubled → s.pages = [] → s.ZonesQuiet → exec (.zoneReply a r st ap ck) s = .next
        (heard r (notify (.zoneRestored e.zone) (s.modAmp e.zone fun a =>
          { a with fault := none, missCount := 0, deliveryPending := true, emergencyMark := false })))))

/-- The next exchange is with the lowest installed zone that has an emergency change pending, or else with the lowest
that has any change pending, or else with the next installed zone of the rotation, whose position moves to it; the state
frame carries the zone's commanded state (R135, R139): the exchange holds the six bytes sent, the address z + 1, the
channel, the gain, the ramp, the chime and the check byte, and they sum to 0 modulo 256 (R136). MODEL'S CHOICE (log
entry 15): the 4 ms of R140 are counted from the start of the exchange. -/
def Obligations.NextExchangeIsChosen : Prop :=
  (∀ (z : Nat) (c : Commanded), (stateFrame z c).length = 6 ∧ byteSum (stateFrame z c) = 0 ∧
    (z ≤ 63 → c.channel ≤ 7 → c.gain ≤ 255 → c.ramp ≤ 255 →
      ((stateFrame z c).take 5).map BitVec.toNat = [z + 1, c.channel, c.gain, c.ramp, if c.chime then 1 else 0])) ∧
  ∀ s : State, s.exchange = none →
    let waits (z : Nat) : Prop := z ≤ 63 ∧ s.installed z = true ∧ (s.amp z).deliveryPending = true
    let begun (z : Nat) : Exchange :=
      { zone := z, sent := (s.amp z).commanded, frame := stateFrame z (s.amp z).commanded, superseded := false
        deadline := s.clock + 4 }
    (∀ z, waits z → (s.amp z).emergencyMark = true → (∀ y, y < z → waits y → (s.amp y).emergencyMark = false) →
      startExchange s = { s with exchange := some (begun z) }) ∧
    (∀ z, waits z → (∀ y, waits y → (s.amp y).emergencyMark = false ∧ z ≤ y) →
      startExchange s = { s with exchange := some (begun z) }) ∧
    ((∀ y, ¬waits y) → ∀ z, z ≤ 63 → s.installed z = true →
      (s.rotation < z ∧ ∀ y, s.rotation < y → y < z → s.installed y = false) ∨
        ((∀ y, s.rotation < y → y ≤ 63 → s.installed y = false) ∧ ∀ y, y < z → s.installed y = false) →
      startExchange s = { s with exchange := some (begun z), rotation := z })

/-- A reading of 1 to 255 at zone z seeds an unseeded estimate with its level, and moves a seeded one by the truncated
product of the difference and the rise or fall factor over 64, at least one step, within 30.0 to 130.0 dB; it clears
STALE. With factors of 1 to 64 every reading that differs from the estimate brings it strictly nearer. A reading of 0 is
discarded (R149, R150). -/
def Obligations.NoiseFollowsReadings : Prop :=
  ∀ (z q : Nat) (s : State), z ≤ 63 → q ≤ 255 →
    let l := s.level z
    let r : Int := if q ≤ 201 then 480 + 8 * ((q : Int) - 1) else 2080
    let d := r - l.noise
    let k : Int := if 0 < d then l.riseFactor else l.fallFactor
    let step : Int := if Int.tdiv (d * k) 64 ≠ 0 then Int.tdiv (d * k) 64 else if 0 < d then 1 else if d < 0 then -1 else 0
    (q = 0 → takeReading z q s = s) ∧
    (1 ≤ q → l.seeded = false → (takeReading z q s).level z =
      { l with lastReading := some s.now, stale := false, noise := r, seeded := true }) ∧
    (1 ≤ q → l.seeded = true → (takeReading z q s).level z =
      { l with lastReading := some s.now, stale := false, noise := max 480 (min (l.noise + step) 2080) }) ∧
    (1 ≤ q → l.seeded = true → l.Bounded → r ≠ l.noise → 1 ≤ l.riseFactor → l.riseFactor ≤ 64 → 1 ≤ l.fallFactor →
      l.fallFactor ≤ 64 → |r - ((takeReading z q s).level z).noise| < |r - l.noise|)

/-- The target level is the estimate plus the class margin, raised to the zone's floor, then lowered to the ceiling, the
map's for EMERGENCY; the gain code is the nearest 0.5 dB step of the target less the sensitivity, kept within 0 to 144
and, but for EMERGENCY, within the zone's limits, the maximum governing; a change by those limits sets level-limited
(R152, R153). -/
def Obligations.GainCodeFollowsTarget : Prop :=
  ∀ (z : Nat) (cls : PageClass) (s : State), z ≤ 63 →
    let l := s.level z
    let margin := match cls with
      | .emergency => s.paging.margin.emergency
      | .urgent => s.paging.margin.urgent
      | .normal => s.paging.margin.normal
      | .background => s.paging.margin.background
    let ceiling : Nat := if cls = .emergency then s.map.copy.ceiling else l.ceiling
    let target : Int := min (max (l.noise + 8 * margin) (8 * l.floor)) (8 * ceiling)
    let gain : Int := target - 8 * ((tabGet s.map.copy.sensitivity z 190 : Nat) : Int)
    let code : Nat := (max 0 (min ((gain + 960 + 4) / 8) 144)).toNat
    let limited : Nat := if l.maxCode < l.minCode then l.maxCode else if code < l.minCode then l.minCode
      else if l.maxCode < code then l.maxCode else code
    s.gainCode z cls = (if cls = .emergency then code else limited) ∧
    noteLimited z cls s =
      if cls ≠ .emergency ∧ limited ≠ code then s.modLevel z fun l => { l with limited := true } else s

/-- STALE_TIME_EXPIRY makes a zone STALE (R151). ZONE-SET writes the zone's parameters clamped, and seeds the estimate
anew when it is asked to or when the zone is not seeded; where the zone is OPENING or LIVE for a page below EMERGENCY, a
commanded gain code outside the new limits, the maximum governing, is clamped into them, which sets level-limited and
hands the code over with delivery pending, so that an exchange in flight no longer confirms it; any other zone's code
stays (R138, R141, R148). LEVEL-QUERY reports the zone and clears level-limited (R155). -/
def Obligations.LevelUnitCommands : Prop :=
  (∀ (z : Nat) (s : State), s.running = true → z ≤ 63 → (s.level z).stale = false →
    100 * ((s.level z).lastReading.getD 0 + (s.level z).staleTime) ≤ s.clock → s.clock / 100 ≤ 4294967295 →
    exec (.staleTimeExpiry z) s = .next (s.modLevel z fun l => { l with stale := true })) ∧
  (∀ (tag : Byte) (p : List Byte) (o : ZoneSetOp) (s : State), ZoneSetOp.read p = some o → s.Takes ⟨0x15, tag, p⟩ →
    (63 < o.zone ∨ 1 < o.reseed → exec (.zoneSet tag p) s = .next (refusedWith ⟨0x15, tag, p⟩ .outOfRange s)) ∧
    (o.zone ≤ 63 → o.reseed ≤ 1 →
      let initial := max 60 (min o.initialNoise 260)
      let staleTime := max 50 (min o.staleTime 3000)
      let written (limited : Bool) : State := s.modLevel o.zone fun l =>
        { l with
          initialNoise := initial, floor := max 80 (min o.floor 200), ceiling := max 140 (min o.ceiling 250)
          minCode := min o.minCode 144, maxCode := min o.maxCode 144, riseFactor := max 1 (min o.riseFactor 64)
          fallFactor := max 1 (min o.fallFactor 64), staleTime := staleTime
          noise := if o.reseed = 1 ∨ l.seeded = false then 8 * (initial : Int) else l.noise
          seeded := l.seeded && o.reseed = 0
          stale := l.stale || l.lastReading.getD 0 + staleTime ≤ min (s.clock / 100) 4294967295
          limited := l.limited || limited }
      let done (t : State) : Prop := exec (.zoneSet tag p) s = .next (answered ⟨0x15, tag, p⟩ .ok .nothing t)
      let low := min o.minCode 144
      let high := min o.maxCode 144
      let gain := (s.amp o.zone).commanded.gain
      let code := if high < low then high else if gain < low then low else if high < gain then high else gain
      ((s.zone o.zone).state = .idle ∨ (∃ q r, (s.zone o.zone).state = .closing q r) → done (written false)) ∧
      (∀ q r, (s.zone o.zone).state = .opening q ∨ (s.zone o.zone).state = .live q → s.page? q = some r →
        (r.cls = .emergency → done (written false)) ∧
        (r.cls ≠ .emergency → code = gain → done (written false)) ∧
        (r.cls ≠ .emergency → code ≠ gain → done
          { (written true).modAmp o.zone fun a =>
            { a with commanded := { a.commanded with gain := code }, deliveryPending := true } with
            exchange := s.exchange.map fun e => if e.zone = o.zone then { e with superseded := true } else e })))) ∧
  (∀ (tag : Byte) (p : List Byte) (z : Nat) (s : State), readNumber1 p = some z → s.Takes ⟨0x17, tag, p⟩ →
    (63 < z → exec (.levelQuery tag p) s = .next (refusedWith ⟨0x17, tag, p⟩ .outOfRange s)) ∧
    (z ≤ 63 → exec (.levelQuery tag p) s = .next (answered ⟨0x17, tag, p⟩ .ok (.level
      { zone := z, installed := zoneIn s.map.copy.installed z, noise := (s.level z).noise
        seeded := (s.level z).seeded, stale := (s.level z).stale
        sinceReading := (s.level z).lastReading.map fun t => min (min (s.clock / 100) 4294967295 - t) 65535
        limited := (s.level z).limited, gain := (s.amp z).commanded.gain
        deliveryPending := (s.amp z).deliveryPending, faulted := (s.amp z).fault.isSome, fault := (s.amp z).fault })
      (s.modLevel z fun l => { l with limited := false }))))

/-! ## Alarm inputs and the map -/

/-- A change of a contact starts the 50 ms debounce when the new level differs from the debounced state, and stops it
when it agrees (R157); naming the level the contact has changes nothing, MODEL'S CHOICE (log entry 14). At its end a
closed input becomes ACTIVE with the mode and zones of the active map, and ALARM-CHANGE is sent; a MUSTER input then
tells the trace and starts the override unless it is active. A mode other than UNUSED places the page: it waits while
the input's record is in use, and an empty target places none; an ALERT page whose zones are all faulted, with no other
page, is QUEUED (R158, R159, R161). An open input becomes INACTIVE: its QUEUED or SUSPENDED page, here the only page, is
removed with reason ALARM-CLEARED, its LIVE one closes, and the last MUSTER input ends the override (R160, R161). -/
def Obligations.AlarmContactDebounces : Prop :=
  ∀ (i : Nat) (s : State), s.running = true → i ≤ 3 →
    (∀ closed, exec (.alarmLevelChange i closed) s = .next (s.modInput i fun r =>
      if closed = r.closed then r
      else { r with closed := closed, debounceDue := if closed = r.active then none else some (s.clock + 50) })) ∧
    (∀ d m, (s.input i).debounceDue = some d → d ≤ s.clock → (s.input i).closed = true → s.meaning i = m →
      let active (pending : Bool) := notify (.alarmChange i true m.mode) (s.modInput i fun r =>
        { r with debounceDue := none, active := true, latchedMode := m.mode, latchedSet := m.zones
                 placementPending := r.placementPending || pending })
      let mustered (t : State) : State :=
        if s.override = true then musterActivation t else startOverride (musterActivation t)
      let target := zonesWhere fun z => zoneIn m.zones z && s.installed z
      (m.mode = .unused → exec (.debounceExpiry i) s = .next (active false)) ∧
      (m.mode = .evacuate ∨ m.mode = .alert → s.alarmPage i ≠ none →
        exec (.debounceExpiry i) s = .next (active true)) ∧
      (m.mode = .muster → s.alarmPage i ≠ none → exec (.debounceExpiry i) s = .next
        ((mustered (active false)).modInput i fun r => { r with placementPending := true })) ∧
      (m.mode = .evacuate ∨ m.mode = .alert → s.alarmPage i = none → target = 0 →
        exec (.debounceExpiry i) s = .next (active false)) ∧
      (m.mode = .muster → s.alarmPage i = none → target = 0 →
        exec (.debounceExpiry i) s = .next (mustered (active false))) ∧
      (m.mode = .alert → s.pages = [] → s.ZonesQuiet → target ≠ 0 →
        (∀ z, zoneIn target z = true → (s.amp z).fault ≠ none) →
        exec (.debounceExpiry i) s = .next (direct (.pageState (s.lastPageId % 255 + 1) .queued none)
          { (active false).modInput i fun r => { r with page := some (s.lastPageId % 255 + 1) } with
            lastPageId := s.lastPageId % 255 + 1, nextArrival := s.nextArrival + 1
            pages := [{ id := s.lastPageId % 255 + 1, alarm := some i, cls := .urgent, source := .prompt (65280 + i)
                        requester := .alarm i, target := target, mode := .partially, suspendAllowed := true
                        maxDuration := 0, arrival := s.nextArrival, state := .queued, channel := none
                        audioSent := false, durationStarted := false, durationDue := none, suspensionDue := none
                        endReason := none }] }))) ∧
    (∀ d, (s.input i).debounceDue = some d → d ≤ s.clock → (s.input i).closed = false →
      let mode := (s.input i).latchedMode
      let cleared := notify (.alarmChange i false mode) (s.modInput i fun r =>
        { r with debounceDue := none, active := false, placementPending := false })
      let others : Prop := ∃ j, j ≤ 3 ∧ j ≠ i ∧ (s.input j).active = true ∧ (s.input j).latchedMode = .muster
      ((s.input i).page = none → mode ≠ .muster ∨ others → exec (.debounceExpiry i) s = .next cleared) ∧
      ((s.input i).page = none → mode = .muster → ¬others →
        exec (.debounceExpiry i) s = .next (endOverride cleared)) ∧
      (∀ r, mode ≠ .muster → (s.input i).page = some r.id → s.pages = [r] → r.alarm = some i → r.requester = .alarm i →
        (r.state = .queued ∨ r.state = .suspended → s.ZonesQuiet →
          exec (.debounceExpiry i) s = .next (offerRecord (r.traceRecord .pageEnd 4)
            (direct (.pageState r.id .freed (some .alarmCleared))
              { cleared.modInput i fun a => { a with page := none } with pages := [] }))) ∧
        (∀ z ch, z ≤ 63 → r.state = .live → r.cls = .urgent → r.channel = some ch → r.audioSent = true →
          (s.zone z).state = .live r.id → (∀ y, y ≠ z → (s.zone y).state = .idle) → s.covered = 0 →
          s.paging.hangTime ≠ 0 → s.link.output.length < 46 → unsolicitedCount s.link.output < 38 →
          ∃ t, exec (.debounceExpiry i) s = .next t ∧
            t.input i = { s.input i with
              debounceDue := none, active := false, placementPending := false, page := none } ∧
            t.zone z = { state := .closing r.id none, chimeDue := none
                         hangDue := some (s.clock + 100 * s.paging.hangTime) } ∧
            t.pages = [{ r with state := .closing, channel := none, audioSent := false, durationDue := none
                                endReason := some .alarmCleared }] ∧
            t.link.output = s.link.output ++ [.notice (.alarmChange i false mode),
              .directive (.pageAudio r.id ch r.source false),
              .directive (.pageState r.id .closing (some .alarmCleared))])))

/-- An evacuation takes the speakers at once: when an input whose map mode is EVACUATE settles closed while no page
exists, its EMERGENCY page holds the emergency channel and every installed zone of the input's set, faulted or excluded
zones among them, is LIVE for it in the same event when EMERGENCY has no chime, and OPENING otherwise; the other zones
are left as they are (R114, R115, R120 to R122, R158, R159). The start freezes the trace when freeze-on-alarm is set
(R179). When the only page is the LIVE evacuation page of a higher-numbered input, which it outranks, that page gives up
the emergency channel and is SUSPENDED without a timer, its zones outside the new set going IDLE at once (R103, R124).
-/
def Obligations.EvacuationTakesItsZones : Prop :=
  (∀ (i d : Nat) (s : State), s.running = true → i ≤ 3 → (s.input i).debounceDue = some d → d ≤ s.clock →
    (s.input i).closed = true → (s.meaning i).mode = .evacuate → s.pages = [] → (∀ z, (s.zone z).state = .idle) →
    (∃ z, z ≤ 63 ∧ zoneIn (s.meaning i).zones z = true ∧ s.installed z = true) →
    ∃ t r, exec (.debounceExpiry i) s = .next t ∧ t.pages = [r] ∧ r.cls = .emergency ∧ r.alarm = some i ∧
      r.channel = some 6 ∧ (t.input i).active = true ∧ (t.input i).latchedMode = .evacuate ∧
      t.trace.frozen = (s.trace.frozen || s.trace.freezeOnAlarm) ∧ (t.input i).page = some r.id ∧
      r.state = (if s.paging.chime.emergency = 0 then .live else .opening) ∧
      ∀ z, z ≤ 63 →
        (zoneIn (s.meaning i).zones z = true ∧ s.installed z = true →
          (t.zone z).state = (if s.paging.chime.emergency = 0 then .live r.id else .opening r.id)) ∧
        (zoneIn (s.meaning i).zones z = false ∨ s.installed z = false → t.zone z = s.zone z)) ∧
  ∀ (i j d : Nat) (q : PageRecord) (s : State), s.running = true → i < j → j ≤ 3 →
    (s.input i).debounceDue = some d → d ≤ s.clock → (s.input i).closed = true → (s.meaning i).mode = .evacuate →
    s.pages = [q] → q.cls = .emergency → q.alarm = some j → q.state = .live → q.channel = some 6 → q.audioSent = false →
    (∀ z, (s.zone z).state = .idle ∨ (s.zone z).state = .live q.id) →
    (∃ z, z ≤ 63 ∧ zoneIn (s.meaning i).zones z = true ∧ s.installed z = true) →
    ∃ t r, exec (.debounceExpiry i) s = .next t ∧
      t.pages = [{ q with state := .suspended, channel := none, suspensionDue := none }, r] ∧ r.cls = .emergency ∧
      r.alarm = some i ∧ r.channel = some 6 ∧ (t.input i).page = some r.id ∧ r.id ≠ q.id ∧
      r.state = (if s.paging.chime.emergency = 0 then .live else .opening) ∧
      ∀ z, z ≤ 63 → (t.zone z).state =
        (if zoneIn (s.meaning i).zones z = false ∨ s.installed z = false then .idle
        else if s.paging.chime.emergency = 0 then .live r.id else .opening r.id)

/-- MODEL'S CHOICE (log entry 13): the level of the enable line is the operand `line` of the commands that sample it.
MAP-READ reports the active copy and the sampled enable line (R164); MAP-ARM sets the arm latch, or is BUSY during a map
write (R165); RANGE-HOLD sets the range hold, or is BUSY (R171); EXCLUDE-SET is BUSY during a map write, HELD under the
hold, OUT-OF-RANGE for a bad range, and otherwise replaces the active range (R170): with no page that is all, and the
only page, a NORMAL or BACKGROUND one of the host, closes with reason ALL-EXCLUDED, its PAGE-AUDIO off and PAGE-STATE
before the reply, when it is LIVE in one zone and the new range excludes that; stays LIVE without a frame when it keeps
another zone, while the excluded one closes; and is removed with reason ALL-EXCLUDED when it is QUEUED or SUSPENDED with
every zone of its target excluded (R128 to R130). -/
def Obligations.MapRequestsAct : Prop :=
  ∀ (tag : Byte) (p : List Byte) (s : State),
    (∀ line, s.Takes ⟨0x1D, tag, []⟩ → exec (.mapRead line tag []) s = .next (answered ⟨0x1D, tag, []⟩ .ok (.map
      { contents := s.map.copy, status := s.map.status, locked := s.map.locked, rangeHeld := s.map.rangeHeld
        activeRange := s.map.activeRange, enableLine := line })
      { s with map := { s.map with enableLine := line } })) ∧
    (s.Takes ⟨0x1A, tag, []⟩ → s.map.writing = none → exec (.mapArm tag []) s = .next
      { s with
        link := { s.link with
          output := s.link.output ++ [.reply 0x9A tag .ok .nothing], requests := s.link.requests.drop 1
          prepared := false }
        map := { s.map with armed := true } }) ∧
    (s.Takes ⟨0x1A, tag, []⟩ → s.map.writing ≠ none →
      exec (.mapArm tag []) s = .next (answered ⟨0x1A, tag, []⟩ .busy .nothing s)) ∧
    (s.Takes ⟨0x19, tag, []⟩ → exec (.rangeHold tag []) s = .next
      (if s.map.writing = none then
        answered ⟨0x19, tag, []⟩ .ok .nothing { s with map := { s.map with rangeHeld := true } }
      else answered ⟨0x19, tag, []⟩ .busy .nothing s)) ∧
    (∀ o, ExcludeSetOp.read p = some o → s.Takes ⟨0x18, tag, p⟩ → s.pages = [] → s.ZonesQuiet →
      exec (.excludeSet tag p) s = .next
        (if s.map.writing ≠ none then answered ⟨0x18, tag, p⟩ .busy .nothing s
        else if s.map.rangeHeld = true then refusedWith ⟨0x18, tag, p⟩ .held s
        else if 1 < o.enabled ∨ 1 < o.invert ∨ 63 < o.upper ∨ o.upper < o.lower then
          refusedWith ⟨0x18, tag, p⟩ .outOfRange s
        else answered ⟨0x18, tag, p⟩ .ok .nothing { s with map := { s.map with activeRange :=
          { enabled := o.enabled = 1, lower := o.lower, upper := o.upper, invert := o.invert = 1 } } })) ∧
    (∀ o r, ExcludeSetOp.read p = some o → s.Takes ⟨0x18, tag, p⟩ → s.map.writing = none →
      s.map.rangeHeld = false → o.enabled = 1 → o.invert ≤ 1 → o.upper ≤ 63 → o.lower ≤ o.upper → s.pages = [r] →
      r.alarm = none → r.requester = .host → r.cls = .normal ∨ r.cls = .background → s.covered = 0 →
      s.paging.hangTime ≠ 0 → unsolicitedCount s.link.output < 39 →
      let out (z : Nat) : Prop := if o.invert = 1 then z < o.lower ∨ o.upper < z else o.lower ≤ z ∧ z ≤ o.upper
      let range : ExclusionRange := { enabled := true, lower := o.lower, upper := o.upper, invert := o.invert = 1 }
      let closing : PageZone := { state := .closing r.id none, chimeDue := none
                                  hangDue := some (s.clock + 100 * s.paging.hangTime) }
      (∀ z ch, z ≤ 63 → out z → r.state = .live → r.channel = some ch → r.audioSent = true →
        (s.zone z).state = .live r.id → (∀ y, y ≠ z → (s.zone y).state = .idle) →
        ∃ t, exec (.excludeSet tag p) s = .next t ∧ t.map = { s.map with armed := false, activeRange := range } ∧
          t.zone z = closing ∧
          t.pages = [{ r with state := .closing, channel := none, audioSent := false, durationDue := none
                              endReason := some .allExcluded }] ∧
          (t.amp z).commanded = { (s.amp z).commanded with gain := 255, ramp := s.paging.hangTime, chime := false } ∧
          t.link.output = s.link.output ++ [.directive (.pageAudio r.id ch r.source false),
            .directive (.pageState r.id .closing (some .allExcluded)), .reply 0x98 tag .ok .nothing]) ∧
      (∀ z y, z ≤ 63 → y ≤ 63 → out z → ¬out y → r.state = .live → (s.zone z).state = .live r.id →
        (s.zone y).state = .live r.id →
        (∀ x, x ≠ z → x ≠ y → (s.zone x).state = .idle ∧ zoneIn r.target x = false) →
        ∃ t, exec (.excludeSet tag p) s = .next t ∧ t.map = { s.map with armed := false, activeRange := range } ∧
          t.zone z = closing ∧ (∀ x, x ≠ z → t.zone x = s.zone x ∧ t.amp x = s.amp x) ∧ t.pages = [r] ∧
          t.link.output = s.link.output ++ [.reply 0x98 tag .ok .nothing]) ∧
      (r.state = .queued ∨ r.state = .suspended → s.ZonesQuiet → (∀ z, zoneIn r.target z = true → out z) →
        exec (.excludeSet tag p) s = .next (answered ⟨0x18, tag, p⟩ .ok .nothing
          (offerRecord (r.traceRecord .pageEnd 8) (direct (.pageState r.id .freed (some .allExcluded))
            { s with pages := [], map := { s.map with activeRange := range } })))))

/-- MODEL'S CHOICE: the level of the enable line is the operand `line` (log entry 13), and a range enabled or invert
byte other than 0 of a MAP-WRITE is yes (log entry 17). MAP-WRITE and MAP-PROTECT pass the same checks in order: BUSY
during a write, NOT-ARMED without the arm latch, PROTECTED in mode PERMANENT, under the lock, or in mode LINE with the
enable line low. A MAP-WRITE that passes is refused with OUT-OF-RANGE for a bad mode, action or range, or starts a write
of 60 ms with its levels clamped; a MAP-PROTECT starts a write of the map with the new mode, or sets the lock (R166 to
R168). -/
def Obligations.MapWriteIsGuarded : Prop :=
  ∀ (line : Bool) (tag : Byte) (p : List Byte) (s : State),
    let sampled : State := { s with map := { s.map with enableLine := line } }
    let guarded (f : Frame) (passed : State) : State :=
      if s.map.writing ≠ none then answered f .busy .nothing sampled
      else if s.map.armed = false then refusedWith f .notArmed sampled
      else if s.map.copy.protection = .permanent ∨ s.map.locked = true ∨
        (s.map.copy.protection = .line ∧ line = false) then refusedWith f .protectedMap sampled
      else passed
    let started (m : EmergencyMap) (byMapWrite : Bool) : State :=
      { s with map := { s.map with
        enableLine := line, status := .writing
        writing := some { contents := m, byMapWrite := byMapWrite, due := s.clock + 60 } } }
    (∀ o, MapWriteOp.read p = some o → s.Takes ⟨0x1B, tag, p⟩ →
      let bad := (∃ i ∈ o.inputs, 3 < i.mode) ∨ 2 < o.protection ∨ 63 < o.upper ∨ o.upper < o.lower
      (bad → exec (.mapWrite line tag p) s =
        .next (guarded ⟨0x1B, tag, p⟩ (refusedWith ⟨0x1B, tag, p⟩ .outOfRange sampled))) ∧
      (¬bad → ∃ m, exec (.mapWrite line tag p) s =
          .next (guarded ⟨0x1B, tag, p⟩ (answered ⟨0x1B, tag, p⟩ .pending .nothing (started m true))) ∧
        m.installed = o.installed ∧
        (∀ z, z ≤ 63 → tabGet m.sensitivity z 0 = 140 + min (o.sensitivity.getD z 0) 90) ∧
        (∀ i, i ≤ 3 → ∃ e mode, o.inputs[i]? = some e ∧ readAlarmMode e.mode = some mode ∧
          tabGet m.inputs i { mode := .unused, zones := 0 } = { mode := mode, zones := e.zones }) ∧
        m.ceiling = 160 + min o.ceiling 90 ∧
        m.range = { enabled := o.enabled ≠ 0, lower := o.lower, upper := o.upper, invert := o.invert ≠ 0 } ∧
        readProtection o.protection = some m.protection)) ∧
    (∀ action, readNumber1 p = some action → s.Takes ⟨0x1C, tag, p⟩ → exec (.mapProtect line tag p) s =
      .next (guarded ⟨0x1C, tag, p⟩
        (match action with
        | 0 => answered ⟨0x1C, tag, p⟩ .pending .nothing (started { s.map.copy with protection := .anyone } false)
        | 1 => answered ⟨0x1C, tag, p⟩ .pending .nothing (started { s.map.copy with protection := .line } false)
        | 2 => answered ⟨0x1C, tag, p⟩ .pending .nothing (started { s.map.copy with protection := .permanent } false)
        | 3 => answered ⟨0x1C, tag, p⟩ .ok .nothing { sampled with map := { sampled.map with locked := true } }
        | _ => refusedWith ⟨0x1C, tag, p⟩ .outOfRange sampled)))

/-- MODEL'S CHOICE: the operand says whether the store reads back as written (log entry 12), and the stored CRC is taken
over the model's bytes of the map (log entry 8). At the end of a map write that verifies, the new contents are stored
with their CRC and become the active copy, the status is VALID and MAP-DONE (ok) is sent; a MAP-WRITE's range becomes
the active range unless the range is held; then the next exchange begins if none is in flight. With no page and the
installed set as it was, that is all. With a new installed set and no page, a zone that leaves it is IDLE with a muted
amplifier that is neither polled nor faulted, a zone that joins it starts IDLE with its delivery pending, and the others
stay (R131, R146). The only page, here of the host and LIVE in one zone that leaves the set, ends with reason
UNINSTALLED and is freed in the same event (R128, R131). When the store does not verify, the active copy stays, the
status is STORE-INVALID and MAP-DONE (failed) is sent (R169). -/
def Obligations.MapWriteCompletes : Prop :=
  ∀ (w : MapWriting) (s : State), s.running = true → s.map.writing = some w → w.due ≤ s.clock →
    let written : MapUnit := { s.map with
      store := .copy w.contents (crc16 w.contents.bytes), copy := w.contents, status := .valid, writing := none
      activeRange := if w.byMapWrite = true ∧ s.map.rangeHeld = false then w.contents.range else s.map.activeRange }
    exec (.mapWriteComplete false) s = .next (notify (.mapDone false)
      { s with map := { s.map with store := .damaged, status := .storeInvalid, writing := none } }) ∧
    (w.contents.installed = s.map.copy.installed → s.pages = [] → s.ZonesQuiet →
      exec (.mapWriteComplete true) s = .next (startExchange (notify (.mapDone true) { s with map := written }))) ∧
    (w.contents.installed ≠ s.map.copy.installed → s.pages = [] → s.ZonesQuiet →
      ∃ t, exec (.mapWriteComplete true) s = .next t ∧ t.map = written ∧ t.pages = [] ∧
        t.link = (notify (.mapDone true) s).link ∧
        ∀ z, z ≤ 63 → t.amp z = (match s.installed z, zoneIn w.contents.installed z with
            | true, false => { commanded := .idle, deliveryPending := false, emergencyMark := false, missCount := 0
                               fault := none }
            | false, true => { commanded := .idle, deliveryPending := true, emergencyMark := false, missCount := 0
                               fault := none }
            | true, true => s.amp z
            | false, false => s.amp z) ∧
          (t.zone z).state = .idle) ∧
    (∀ z ch r, z ≤ 63 → s.installed z = true → zoneIn w.contents.installed z = false →
      s.pages = [r] → r.alarm = none → r.requester = .host → r.cls ≠ .emergency → r.state = .live →
      r.channel = some ch → r.audioSent = true → (s.zone z).state = .live r.id →
      (∀ y, y ≠ z → (s.zone y).state = .idle) → s.covered = 0 → s.link.output.length < 45 →
      unsolicitedCount s.link.output < 37 →
      ∃ t, exec (.mapWriteComplete true) s = .next t ∧ t.map = written ∧ t.pages = [] ∧
        (∀ y, (t.zone y).state = .idle) ∧
        t.amp z =
          { commanded := .idle, deliveryPending := false, emergencyMark := false, missCount := 0, fault := none } ∧
        t.link.output = s.link.output ++ [.notice (.mapDone true), .directive (.pageAudio r.id ch r.source false),
          .directive (.pageState r.id .closing (some .uninstalled)),
          .directive (.pageState r.id .freed (some .uninstalled))])

/-! ## Disposition trace -/

/-- A count below 1024 is encoded with exponent 0 and itself as mantissa; a larger one, its highest one bit at position
p, with exponent p - 9 and the whole part of c ÷ 2^(E-1) less 1024 as mantissa. Counts up to 2047 decode exactly, larger
ones rounded down to a multiple of 2^(E-1), and the saturated counter as E 7, M 1023, which decodes as 131,008 (R178).
-/
def Obligations.ElapsedCountEncodes : Prop :=
  (∀ c, c < 1024 → elapsedExponent c = 0 ∧ elapsedMantissa c = c) ∧
  (∀ c p, 1024 ≤ c → 2 ^ p ≤ c → c < 2 ^ (p + 1) →
    elapsedExponent c = p - 9 ∧ elapsedMantissa c = c / 2 ^ (elapsedExponent c - 1) - 1024) ∧
  (∀ m, elapsedDecoded 0 m = m) ∧ (∀ e m, e ≠ 0 → elapsedDecoded e m = (1024 + m) * 2 ^ (e - 1)) ∧
  (∀ c, c ≤ 2047 → elapsedDecoded (elapsedExponent c) (elapsedMantissa c) = c) ∧
  (∀ c, 2048 ≤ c → c ≤ 131071 →
    elapsedDecoded (elapsedExponent c) (elapsedMantissa c) =
      c / 2 ^ (elapsedExponent c - 1) * 2 ^ (elapsedExponent c - 1)) ∧
  (∀ c, c ≤ 131071 → elapsedExponent c ≤ 7 ∧ elapsedMantissa c ≤ 1023) ∧
  (∀ c, c ≤ 131071 → elapsedExponent c = 7 → elapsedMantissa c = 1023 → 131008 ≤ c) ∧
  elapsedExponent 131071 = 7 ∧ elapsedMantissa 131071 = 1023 ∧ elapsedDecoded 7 1023 = 131008

/-- TRACE-CLEAR is always taken: it empties every entry, sets the record sequence and the elapsed counter to 0 and
clears the next-record flag; the depth, the filter, the ungrouped and freeze-on-alarm flags and the frozen flag are
unchanged (R183). -/
def Obligations.TraceClearEmptiesTrace : Prop :=
  ∀ (tag : Byte) (s : State), s.Takes ⟨0x20, tag, []⟩ →
    exec (.traceClear tag []) s = .next (answered ⟨0x20, tag, []⟩ .ok .nothing { s with trace :=
      { s.trace with records := [], sequence := 0, elapsed := 0, nextValid := false } })

/-- An offered record that its filter bit and its group's trace-enable, or for a record without a group the ungrouped
flag, admit enters at entry 0 with the encoded elapsed count and its valid flag, the oldest past the depth leaves, the
counter returns to 0 and the sequence rises; a frozen trace keeps none (R173, R174, R177). An OVERFLOW record is kept by
the trace-enable flags of its source and target: whole with both, without its group field with the target's alone, and
without its target field with the source's alone when the target has trace-accept and every group between has
trace-through (R175). With freeze-on-alarm set, the start of an EMERGENCY page freezes the trace in place of its record,
and a muster activation freezes it; TRACE-FROZEN is sent unless it was frozen (R179). TRACE-SET selects the largest
supported depth not above the one asked for, a new one clearing the trace, writes the filter and flags, and thaws or
freezes (R181, R182). TRACE-READ returns up to 8 entries (R184). -/
def Obligations.TraceKeepsAndReads : Prop :=
  (∀ (r : TraceRecord) (s : State), offerRecord r s = offerThrough r [] s ∧
    let shut : Prop := s.trace.frozen = true ∨ s.trace.filter.getLsbD r.kind.code = false
    let kept (r : TraceRecord) : State := { s with trace := { s.trace with
      records := ({ r with
        exponent := elapsedExponent s.trace.elapsed, mantissa := elapsedMantissa s.trace.elapsed
        valid := s.trace.nextValid } :: s.trace.records).take s.trace.depth
      nextValid := true, elapsed := 0, sequence := (s.trace.sequence + 1) % 65536 } }
    (shut → ∀ through, offerThrough r through s = s) ∧
    (¬shut → r.kind ≠ .overflow → ∀ through,
      (∀ g, r.group = some g →
        offerThrough r through s = if (s.group g).traceEnable = true then kept r else s) ∧
      (r.group = none → offerThrough r through s = if s.trace.ungrouped = true then kept r else s)) ∧
    (¬shut → r.kind = .overflow → ∀ through g h, r.group = some g → r.target = some h →
      let source := (s.group g).traceEnable
      let target := (s.group h).traceEnable
      let named := (s.group h).traceAccept = true ∧ ∀ i ∈ through, (s.group i).traceThrough = true
      (source = true → target = true → offerThrough r through s = kept r) ∧
      (source = false → target = true → offerThrough r through s = kept { r with group := none }) ∧
      (source = true → target = false → named → offerThrough r through s = kept { r with target := none }) ∧
      (source = true → target = false → ¬named → offerThrough r through s = s) ∧
      (source = false → target = false → offerThrough r through s = s))) ∧
  (∀ s : State,
    let frozen (c : FreezeCause) : State := if s.trace.frozen = true then s
      else notify (.traceFrozen c) { s with trace := { s.trace with frozen := true } }
    musterActivation s = (if s.trace.freezeOnAlarm = true then frozen .muster else s) ∧
    ∀ (p : PageRecord) (resumed : Bool), offerPageStart p resumed s =
      if p.cls = .emergency ∧ s.trace.freezeOnAlarm = true then frozen .emergencyPage
      else offerThrough (p.traceRecord .pageStart (if resumed = true then 1 else 0)) [] s) ∧
  (∀ (tag : Byte) (p : List Byte) (o : TraceSetOp) (s : State), TraceSetOp.read p = some o → s.Takes ⟨0x1E, tag, p⟩ →
    let depth := if o.depth < 32 then 16 else if o.depth < 64 then 32 else if o.depth < 128 then 64
      else if o.depth < 256 then 128 else 256
    let kept : TraceUnit := if depth = s.trace.depth then s.trace
      else { s.trace with depth := depth, records := [], sequence := 0, elapsed := 0, nextValid := false }
    let written : TraceUnit :=
      { kept with filter := o.filter, ungrouped := o.ungrouped = 1, freezeOnAlarm := o.freezeOnAlarm = 1 }
    let bad := 1 < o.ungrouped ∨ 1 < o.freezeOnAlarm ∨ o.filter.getLsbD 0 = true ∨ o.filter.getLsbD 15 = true ∨
      ∃ n, o.control = some n ∧ 1 < n
    (bad → exec (.traceSet tag p) s = .next (refusedWith ⟨0x1E, tag, p⟩ .outOfRange s)) ∧
    (¬bad → o.control = none → exec (.traceSet tag p) s = .next (answered ⟨0x1E, tag, p⟩ .ok
      (.traceDepth depth s.trace.frozen) { s with trace := written })) ∧
    (¬bad → o.control = some 1 → exec (.traceSet tag p) s = .next (answered ⟨0x1E, tag, p⟩ .ok
      (.traceDepth depth false) { s with trace := { written with nextValid := false, frozen := false } })) ∧
    (¬bad → o.control = some 0 → exec (.traceSet tag p) s = .next (answered ⟨0x1E, tag, p⟩ .ok
      (.traceDepth depth true)
      (if s.trace.frozen = true then { s with trace := { written with nextValid := false } }
      else notify (.traceFrozen .host) { s with trace := { written with nextValid := false, frozen := true } })))) ∧
  (∀ (tag : Byte) (p : List Byte) (o : TraceReadOp) (s : State), TraceReadOp.read p = some o →
    s.Takes ⟨0x1F, tag, p⟩ → exec (.traceRead tag p) s = .next
      (if o.count = 0 ∨ 8 < o.count then refusedWith ⟨0x1F, tag, p⟩ .outOfRange s
      else answered ⟨0x1F, tag, p⟩ .ok (.traceEntries o.start o.count s.trace.depth s.trace.records.length
        s.trace.frozen s.trace.sequence ((List.range o.count).map fun i => s.trace.records[o.start + i]?)) s))
end

