-- ==== Sys2Proof/Laws/Link.lean ====
section
/-! SUPPORT. What taking and answering a request does, and what joins the output queue, said once (R188 to R190). -/

namespace Sys2Proof.Machine

/-! ## The output queue -/

theorem put_joins {l : LinkUnit} {f : OutFrame} (h : mayJoin l.output f = true) :
    l.put f = { l with output := l.output ++ [f] } := by simp [LinkUnit.put, h]

theorem put_drops {l : LinkUnit} {f : OutFrame} (h : mayJoin l.output f = false) :
    l.put f = { l with lost := min (l.lost + 1) 255 } := by simp [LinkUnit.put, h]

theorem mayJoin_reply {q : List OutFrame} (h : q.length < Config.outputPlaces) (k t : Byte) (v : Verdict)
    (b : ReplyBody) : mayJoin q (.reply k t v b) = true := by simp [mayJoin, OutFrame.unsolicited, h]

@[simp] theorem put_requests (l : LinkUnit) (f : OutFrame) : (l.put f).requests = l.requests := by
  unfold LinkUnit.put; split <;> rfl
@[simp] theorem put_prepared (l : LinkUnit) (f : OutFrame) : (l.put f).prepared = l.prepared := by
  unfold LinkUnit.put; split <;> rfl
@[simp] theorem put_resetAfter (l : LinkUnit) (f : OutFrame) : (l.put f).resetAfter = l.resetAfter := by
  unfold LinkUnit.put; split <;> rfl
@[simp] theorem put_receiver (l : LinkUnit) (f : OutFrame) : (l.put f).receiver = l.receiver := by
  unfold LinkUnit.put; split <;> rfl
@[simp] theorem put_straps (l : LinkUnit) (f : OutFrame) : (l.put f).straps = l.straps := by
  unfold LinkUnit.put; split <;> rfl
@[simp] theorem put_cause (l : LinkUnit) (f : OutFrame) : (l.put f).cause = l.cause := by
  unfold LinkUnit.put; split <;> rfl
@[simp] theorem put_sentBytes (l : LinkUnit) (f : OutFrame) : (l.put f).sentBytes = l.sentBytes := by
  unfold LinkUnit.put; split <;> rfl

theorem put_bounded {l : LinkUnit} (f : OutFrame) (h : l.Bounded) : (l.put f).Bounded := by
  unfold LinkUnit.put
  split
  · rename_i hj
    simp only [mayJoin, Bool.and_eq_true, decide_eq_true_eq, Bool.or_eq_true, Bool.not_eq_true'] at hj
    refine ⟨?_, ?_, h.waiting, h.lost⟩
    · simp only [List.length_append, List.length_singleton]; omega
    · obtain ⟨_, hu | hu⟩ := hj
      · simpa [unsolicitedCount, List.filter_append, hu] using h.unsolicited
      · have h1 : unsolicitedCount (l.output ++ [f]) ≤ unsolicitedCount l.output + 1 := by
          simp only [unsolicitedCount, List.filter_append, List.length_append]
          have := List.length_filter_le OutFrame.unsolicited [f]
          simp at this; omega
        dsimp only
        omega
  · exact ⟨h.places, h.unsolicited, h.waiting, by dsimp only; omega⟩

/-! ## Taking a request -/

theorem serve_answered (f : Frame) (owner : State → State × Answer) (s : State) :
    serve f owner s = answered f (owner s).2.verdict (owner s).2.body (owner s).1 := by
  simp [serve, answered, emit, armedAfter, preparedAfter]

/-- A taken request is handled by its owner and answered. -/
theorem takeRequest_takes {s : State} {f : Frame} (h : s.Takes f) (owner : State → State × Answer) :
    takeRequest f owner s = answered f (owner s).2.verdict (owner s).2.body (owner s).1 := by
  have hne : s.link.requests.isEmpty = false := by
    have := h.front; cases hr : s.link.requests <;> simp_all
  have hn : s.takesNone = false := by simp [State.takesNone, h.running, h.noReset]
  have hs : standInQueue f s = s := by simp [standInQueue, hne]
  simp only [takeRequest, hn, hs, h.front, h.room, Bool.false_eq_true, if_false, decide_true, Bool.and_self, if_true]
  exact serve_answered f owner s

/-- A taken request whose payload reads as `o` is handled by its owner and answered. -/
theorem takeKind_takes {α : Type} {s : State} {kind tag : Byte} {payload : List Byte} {read : List Byte → Option α}
    {o : α} (h : s.Takes ⟨kind, tag, payload⟩) (hr : read payload = some o) (owner : α → State → State × Answer) :
    takeKind kind tag payload read owner s =
      answered ⟨kind, tag, payload⟩ (owner o s).2.verdict (owner o s).2.body (owner o s).1 := by
  unfold takeKind
  rw [takeRequest_takes h]
  simp only [hr]

/-- A taken request whose payload cannot be read is refused with BAD-LENGTH (R188). -/
theorem takeKind_badLength {α : Type} {s : State} {kind tag : Byte} {payload : List Byte}
    {read : List Byte → Option α} (h : s.Takes ⟨kind, tag, payload⟩) (hr : read payload = none)
    (owner : α → State → State × Answer) :
    takeKind kind tag payload read owner s = refusedWith ⟨kind, tag, payload⟩ .badLength s := by
  unfold takeKind
  rw [takeRequest_takes h]
  simp only [hr]
  rfl

/-- A request that another stands before, or that waits for room, changes nothing (R188). -/
theorem takeRequest_waits {s : State} {f : Frame} (owner : State → State × Answer)
    (h : s.link.requests ≠ []) (hw : s.link.requests.head? ≠ some f ∨ Config.takeBelow ≤ s.link.output.length) :
    takeRequest f owner s = s := by
  have hs : standInQueue f s = s := by simp [standInQueue, h]
  unfold takeRequest
  split
  · rfl
  · dsimp only
    rw [hs]
    rcases hw with hw | hw
    · simp [hw]
    · simp [Nat.not_lt.mpr hw]

end Sys2Proof.Machine
end

