-- ==== Sys2Proof/Laws/Startup.lean ====
section
/-! SUPPORT. What the beginning of an exchange and a start-up can do, said once (R139, R194). -/

namespace Sys2Proof.Machine

/-- The choice of the next exchange changes the exchange and the rotation position alone (R139). -/
theorem startExchange_eq (s : State) : ∃ e r, startExchange s = { s with exchange := e, rotation := r } := by
  unfold startExchange
  repeat' split
  all_goals exact ⟨_, _, rfl⟩

/-- With an exchange in flight none begins (R135). -/
theorem startExchange_busy {s : State} (h : s.exchange ≠ none) : startExchange s = s := by
  unfold startExchange
  split
  · rfl
  · contradiction

/-- A start-up leaves the reset state but for the commands waiting, what it sampled, what the map store gave, and the
first exchange (R194). -/
theorem startUp_eq (cause : ResetCause) (sample : StartSample) (s : State) :
    ∃ e r, startUp cause sample s =
      { State.reset with
        pending := s.pending
        link := LinkUnit.startUp cause sample.straps (s.map.startUp (cause = .link) sample.storeHolds)
        map := s.map.startUp (cause = .link) sample.storeHolds, exchange := e, rotation := r
        amps := tabBuild 64 fun z =>
          AmpState.atReset (zoneIn (s.map.startUp (cause = .link) sample.storeHolds).copy.installed z)
        inputs := tabBuild 4 fun i => AlarmInput.sampled (sample.closed.getLsbD i) 0 } := by
  unfold startUp
  exact ⟨_, _, (startExchange_eq _).choose_spec.choose_spec⟩

end Sys2Proof.Machine
end

