-- ==== Sys2Proof/Laws/Steady.lean ====
section
/-! SUPPORT. What the shared operations can do, said once: a property of the state that survives every primitive change
survives every operation built from them. With `P t` read as `t.paging = p`, say, this is the frame of each operation;
with `P` a bound on a queue it is an invariant. -/

namespace Sys2Proof.Machine

/-- The property survives every primitive change that the blocks make to the state while they handle an event. -/
structure Steady (P : State → Prop) : Prop where
  modExt (s : State) (x : Nat) (f : ExtRecord → ExtRecord) : P s → P (s.modExt x f)
  modGroup (s : State) (g : Nat) (f : GroupRecord → GroupRecord) : P s → P (s.modGroup g f)
  modOrbit (s : State) (o : Nat) (f : OrbitRecord → OrbitRecord) : P s → P (s.modOrbit o f)
  modCall (s : State) (c : Nat) (f : CallContext → CallContext) : P s → P (s.modCall c f)
  freeCall (s : State) (c : Nat) : P s → P (s.freeCall c)
  setPages (s : State) (l : List PageRecord) : P s → P { s with pages := l }
  setIds (s : State) (i n : Nat) : P s → P { s with lastPageId := i, nextArrival := n }
  modZone (s : State) (z : Nat) (f : PageZone → PageZone) : P s → P (s.modZone z f)
  modAmp (s : State) (z : Nat) (f : AmpState → AmpState) : P s → P (s.modAmp z f)
  limit (s : State) (z : Nat) : P s → P (s.modLevel z fun l => { l with limited := true })
  modInput (s : State) (i : Nat) (f : AlarmInput → AlarmInput) : P s → P (s.modInput i f)
  emit (s : State) (f : OutFrame) : P s → P (emit f s)
  keep (s : State) (r : TraceRecord) : P s → P { s with trace := s.trace.keep r }
  freezeTrace (s : State) : P s → P { s with trace := { s.trace with frozen := true } }
  setOverride (s : State) (b : Bool) : P s → P { s with override := b }
  setCovered (s : State) (c : ZoneSet) : P s → P { s with covered := c }
  setExchange (s : State) (e : Option Exchange) (r : Nat) : P s → P { s with exchange := e, rotation := r }

variable {P : State → Prop}

theorem foldl_steady {α : Type} {f : State → α → State} (hf : ∀ s a, P s → P (f s a)) :
    ∀ (l : List α) (s : State), P s → P (l.foldl f s)
  | [], _, h => h
  | a :: l, s, h => foldl_steady hf l (f s a) (hf s a h)

theorem ite_steady {c : Prop} [Decidable c] {a b : State} (ha : P a) (hb : P b) : P (if c then a else b) := by
  split <;> assumption

section
variable (hP : Steady P) {s : State}
include hP

/-! ## Frames and records -/

theorem direct_steady (d : Directive) (h : P s) : P (direct d s) := hP.emit _ _ h
theorem notify_steady (n : Notice) (h : P s) : P (notify n s) := hP.emit _ _ h

theorem offerThrough_steady (r : TraceRecord) (l : List Nat) (h : P s) : P (offerThrough r l s) := by
  unfold offerThrough
  split
  · exact h
  · exact hP.keep _ _ h

theorem offerRecord_steady (r : TraceRecord) (h : P s) : P (offerRecord r s) := offerThrough_steady hP _ _ h

theorem freeze_steady (c : FreezeCause) (h : P s) : P (freeze c s) :=
  ite_steady h (notify_steady hP _ (hP.freezeTrace _ h))

theorem offerPageStart_steady (p : PageRecord) (b : Bool) (h : P s) : P (offerPageStart p b s) :=
  ite_steady (freeze_steady hP _ h) (offerRecord_steady hP _ h)

theorem musterActivation_steady (h : P s) : P (musterActivation s) := ite_steady (freeze_steady hP _ h) h

theorem noteLimited_steady (z : Nat) (c : PageClass) (h : P s) : P (noteLimited z c s) :=
  ite_steady h (hP.limit _ _ h)

/-! ## The zone link -/

theorem handOver_steady (z : Nat) (c : Commanded) (b : Bool) (h : P s) : P (handOver z c b s) :=
  ite_steady h (hP.setExchange _ _ _ (hP.modAmp _ _ _ h))

theorem beginExchange_steady (z : Nat) (h : P s) : P (beginExchange z s) := hP.setExchange _ _ _ h

theorem startExchange_steady (h : P s) : P (startExchange s) := by
  unfold startExchange
  split
  · exact h
  · split
    · exact beginExchange_steady hP _ h
    · split
      · exact beginExchange_steady hP _ (hP.setExchange s s.exchange _ h)
      · exact h

theorem zoneLinkSetChange_steady (old : ZoneSet) (h : P s) : P (zoneLinkSetChange old s) :=
  foldl_steady (fun _ _ h => ite_steady (hP.modAmp _ _ _ h) (ite_steady (hP.modAmp _ _ _ h) h)) _ _ h

/-! ## Rosters -/

theorem modMember_steady (g x : Nat) (f : Membership → Membership) (h : P s) : P (s.modMember g x f) :=
  hP.modGroup _ _ _ h

theorem recomputeGroup_steady (g : Nat) (h : P s) : P (recomputeGroup g s) := hP.modGroup _ _ _ h

theorem applyStaged_steady (g x : Nat) (h : P s) : P (applyStaged g x s) := by
  unfold applyStaged
  split
  · exact h
  · split
    · exact h
    · exact ite_steady
        (notify_steady hP _ (ite_steady (hP.modGroup _ _ _ (hP.modGroup _ _ _ h)) (hP.modGroup _ _ _ h)))
        (ite_steady (hP.modGroup _ _ _ (hP.modGroup _ _ _ h)) (hP.modGroup _ _ _ h))

theorem offerEnded_steady (g x : Nat) (h : P s) : P (offerEnded g x s) :=
  ite_steady (ite_steady (applyStaged_steady hP _ _ h)
    (notify_steady hP _ (hP.modGroup _ _ _ (applyStaged_steady hP _ _ h)))) h

theorem offersEnded_steady (g : Nat) (xs : List Nat) (h : P s) : P (offersEnded g xs s) :=
  foldl_steady (fun _ _ h => offerEnded_steady hP _ _ h) _ _ h

theorem forceGroup_steady (g : Nat) (h : P s) : P (forceGroup g s) :=
  ite_steady (recomputeGroup_steady hP _ h) (notify_steady hP _ (recomputeGroup_steady hP _ h))

theorem endOverride_steady (h : P s) : P (endOverride s) :=
  notify_steady hP _ (foldl_steady (fun _ _ h => recomputeGroup_steady hP _ h) _ _ (hP.setOverride _ _ h))

/-! ## Hunting -/

theorem placeMark_steady (x c : Nat) (k : Cadence) (h : P s) : P (placeMark x c k s) :=
  ite_steady h (direct_steady hP _ (hP.modCall _ _ _ (hP.modExt _ _ _ h)))

theorem clearMark_steady (x c : Nat) (r : Option StopReason) (h : P s) : P (clearMark x c r s) := by
  unfold clearMark
  split
  · exact hP.modCall _ _ _ (hP.modExt _ _ _ h)
  · exact direct_steady hP _ (hP.modCall _ _ _ (hP.modExt _ _ _ h))

theorem clearMarks_steady (xs : List Nat) (c : Nat) (r : StopReason) (h : P s) : P (clearMarks xs c r s) :=
  foldl_steady (fun _ _ h => clearMark_steady hP _ _ _ h) _ _ h

theorem ringForOffer_steady (g c x : Nat) (h : P s) : P (ringForOffer g c x s) := by
  unfold ringForOffer
  dsimp only
  split
  · exact hP.modCall _ _ _ (placeMark_steady hP _ _ _ h)
  · exact offerRecord_steady hP _ (hP.modCall _ _ _ (placeMark_steady hP _ _ _ h))

theorem makeOffer_steady (g c : Nat) (xs : List Nat) (h : P s) : P (makeOffer g c xs s) :=
  hP.modCall _ _ _ (foldl_steady (fun _ _ h => ringForOffer_steady hP _ _ _ h) _ _ h)

theorem offerCall_steady (g c : Nat) (h : P s) : P (offerCall g c s) := by
  unfold offerCall
  split
  · exact h
  · exact ite_steady h (makeOffer_steady hP _ _ _ (hP.modGroup _ _ _ h))

theorem moveCursorTo_steady (g x : Nat) (h : P s) : P (moveCursorTo g x s) := hP.modGroup _ _ _ h

theorem arbitrate_steady (x : Nat) (h : P s) : P (arbitrate x s) := by
  unfold arbitrate
  split
  · split
    · exact h
    · exact makeOffer_steady hP _ _ _ (moveCursorTo_steady hP _ _ h)
  · exact h

theorem arbitrateAll_steady (xs : List Nat) (h : P s) : P (arbitrateAll xs s) :=
  foldl_steady (fun _ _ h => arbitrate_steady hP _ h) _ _ h

theorem service_steady (g : Nat) (h : P s) : P (service g s) :=
  ite_steady (foldl_steady (fun _ _ h => ite_steady (offerCall_steady hP _ _ h) h) _ _ h) h

theorem serviceAll_steady (gs : List Nat) (h : P s) : P (serviceAll gs s) :=
  foldl_steady (fun _ _ h => service_steady hP _ h) _ _ h

theorem startOverride_steady (h : P s) : P (startOverride s) :=
  serviceAll_steady hP _ (foldl_steady (fun _ _ h => forceGroup_steady hP _ h) _ _ (hP.setOverride _ _ h))

theorem insertWaiting_steady (g c : Nat) (h : P s) : P (insertWaiting g c s) := by
  unfold insertWaiting
  split
  · exact h
  · exact hP.modGroup _ _ _ h

theorem leaveList_steady (c : Nat) (h : P s) : P (leaveList c s) := by
  unfold leaveList
  split
  · exact h
  · exact hP.modGroup _ _ _ h

theorem becomeQueued_steady (g c : Nat) (h : P s) : P (becomeQueued g c s) := by
  unfold becomeQueued
  split
  · exact h
  · exact offerRecord_steady hP _ (direct_steady hP _ h)

theorem divertCall_steady (c : Nat) (code : Option Nat) (g : Nat) (l : List Nat) (h : P s) :
    P (divertCall c code g l s) := by
  unfold divertCall
  split
  · exact h
  · exact hP.freeCall _ _ (offerThrough_steady hP _ _ (direct_steady hP _ h))

theorem offerOrQueue_steady (g c : Nat) (h : P s) : P (offerOrQueue g c s) := by
  unfold offerOrQueue
  split
  · exact h
  · exact ite_steady (becomeQueued_steady hP _ _ h) (offerCall_steady hP _ _ h)

theorem advanceWith_steady {f : State → State} (hf : ∀ s, P s → P (f s)) (g c : Nat) (h : P s) :
    P (advanceWith f g c s) := by
  unfold advanceWith
  split
  · exact h
  · exact ite_steady (offerCall_steady hP _ _ h)
      (ite_steady
        (ite_steady
          (ite_steady (hf _ (hP.modCall _ _ _ h)) (offerOrQueue_steady hP _ _ (hP.modCall _ _ _ (hP.modCall _ _ _ h))))
          (offerOrQueue_steady hP _ _ (hP.modCall _ _ _ h)))
        (becomeQueued_steady hP _ _ h))

theorem enterWith_steady {f : State → State} (hf : ∀ s, P s → P (f s)) (g c : Nat) (h : P s) :
    P (enterWith f g c s) :=
  advanceWith_steady hP hf _ _ (insertWaiting_steady hP _ _ (hP.modCall _ _ _ h))

theorem leaveForOverflow_steady (c : Nat) (h : P s) : P (leaveForOverflow c s) :=
  hP.modCall _ _ _ (leaveList_steady hP _ h)

theorem offerOverflow_steady (c a b : Nat) (l : List Nat) (h : P s) : P (offerOverflow c a b l s) := by
  unfold offerOverflow
  split
  · exact h
  · exact offerThrough_steady hP _ _ h

theorem overflowHops_steady : ∀ (n c a g : Nat) (l : List Nat) (s : State), P s → P (overflowHops n c a g l s)
  | 0, _, _, _, _, _, h => divertCall_steady hP _ _ _ _ (leaveForOverflow_steady hP _ h)
  | n + 1, c, a, g, l, s, h => by
    have h' := leaveForOverflow_steady hP c h
    unfold overflowHops
    dsimp only
    split
    · exact divertCall_steady hP _ _ _ _ h'
    · exact divertCall_steady hP _ _ _ _ (hP.modCall _ _ _ h')
    · refine ite_steady (divertCall_steady hP _ _ _ _ (hP.modCall _ _ _ h')) (ite_steady ?_ ?_)
      · exact enterWith_steady hP (fun s h => overflowHops_steady n _ _ _ _ s h) _ _
          (offerOverflow_steady hP _ _ _ _ (hP.modCall _ _ _ h'))
      · exact overflowHops_steady n _ _ _ _ _ (hP.modCall _ _ _ h')

theorem overflowFrom_steady (g c : Nat) (h : P s) : P (overflowFrom g c s) := overflowHops_steady hP _ _ _ _ _ _ h

theorem advance_steady (g c : Nat) (h : P s) : P (advance g c s) :=
  advanceWith_steady hP (fun _ h => overflowFrom_steady hP _ _ h) _ _ h

theorem enterGroup_steady (g c : Nat) (h : P s) : P (enterGroup g c s) :=
  enterWith_steady hP (fun _ h => overflowFrom_steady hP _ _ h) _ _ h

theorem releasingHolds_steady {f : State → State} (hf : P (f s)) : P (releasingHolds f s) :=
  serviceAll_steady hP _ hf

/-! ## Pages -/

theorem modPage_steady (p : Nat) (f : PageRecord → PageRecord) (h : P s) : P (s.modPage p f) := hP.setPages _ _ h
theorem dropPage_steady (p : Nat) (h : P s) : P (s.dropPage p) := hP.setPages _ _ h

theorem putZone_steady (z : Nat) (pz : PageZone) (c : Commanded) (h : P s) : P (putZone z pz c s) :=
  handOver_steady hP _ _ _ (hP.modZone _ _ _ h)

theorem zoneToIdle_steady (z : Nat) (h : P s) : P (zoneToIdle z s) := putZone_steady hP _ _ _ h
theorem zoneToClosing_steady (z p : Nat) (h : P s) : P (zoneToClosing z p s) := putZone_steady hP _ _ _ h

theorem zoneToOpening_steady (z : Nat) (p : PageRecord) (h : P s) : P (zoneToOpening z p s) :=
  putZone_steady hP _ _ _ (noteLimited_steady hP _ _ h)

theorem pageState_steady (p : Nat) (st : PageReport) (r : Option EndReason) (h : P s) : P (pageState p st r s) :=
  direct_steady hP _ h

theorem audioOn_steady (p : PageRecord) (h : P s) : P (audioOn p s) :=
  ite_steady h (modPage_steady hP _ _ (direct_steady hP _ h))

theorem giveUpChannel_steady (p : Nat) (h : P s) : P (giveUpChannel p s) := by
  unfold giveUpChannel
  split
  · exact h
  · exact modPage_steady hP _ _ (ite_steady (direct_steady hP _ h) h)

theorem pageGoesLive_steady (p : Nat) (h : P s) : P (pageGoesLive p s) := by
  unfold pageGoesLive
  split
  · exact h
  · have h' := fun r => pageState_steady hP p .live none (audioOn_steady hP r (modPage_steady hP p
      (fun r => { r with state := .live }) h))
    exact ite_steady (ite_steady (modPage_steady hP _ _ (h' _)) (h' _)) h

theorem zoneToLive_steady (z : Nat) (h : P s) : P (zoneToLive z s) := by
  unfold zoneToLive
  split
  · exact h
  · exact h
  · exact h
  · exact pageGoesLive_steady hP _ (putZone_steady hP _ _ _ h)

theorem liveAtOnce_steady (z : Nat) (c : PageClass) (h : P s) : P (liveAtOnce z c s) :=
  ite_steady (zoneToLive_steady hP _ h) h

theorem reportEnd_steady (p : PageRecord) (h : P s) : P (reportEnd p s) := by
  unfold reportEnd
  split
  · exact h
  · exact hP.modGroup _ _ _ h
  · exact hP.modOrbit _ _ _ h
  · exact hP.modInput _ _ _ h

theorem pageEnds_steady (p : Nat) (r : EndReason) (h : P s) : P (pageEnds p r s) := by
  unfold pageEnds
  split
  · exact h
  · exact reportEnd_steady hP _ (offerRecord_steady hP _ h)

theorem dropReservations_steady (p : Nat) (h : P s) : P (dropReservations p s) :=
  foldl_steady (fun _ _ h => hP.modZone _ _ _ h) _ _ h

theorem releaseAtOnce_steady (p : Nat) (h : P s) : P (releaseAtOnce p s) :=
  dropReservations_steady hP _ (foldl_steady (fun _ _ h => zoneToIdle_steady hP _ h) _ _ h)

theorem suspendPage_steady (p : Nat) (d : Option Nat) (h : P s) : P (suspendPage p d s) := by
  have h' := pageState_steady hP p .suspended (some .preempted) (modPage_steady hP p
    (fun r => { r with state := .suspended, suspensionDue := d })
    (giveUpChannel_steady hP p (releaseAtOnce_steady hP p h)))
  unfold suspendPage
  dsimp only
  split
  · exact h'
  · exact offerRecord_steady hP _ h'

theorem preemptPage_steady (p : Nat) (h : P s) : P (preemptPage p s) :=
  dropPage_steady hP _ (pageEnds_steady hP _ _ (pageState_steady hP _ _ _
    (giveUpChannel_steady hP _ (releaseAtOnce_steady hP _ h))))

theorem handleVictim_steady (p : Nat) (h : P s) : P (handleVictim p s) := by
  unfold handleVictim
  split
  · exact h
  · exact ite_steady (suspendPage_steady hP _ _ h)
      (ite_steady (suspendPage_steady hP _ _ h) (preemptPage_steady hP _ h))

theorem takeZone_steady (p : PageRecord) (acc : State × List Nat) (z : Nat) (h : P acc.1) :
    P (takeZone p acc z).1 := by
  unfold takeZone
  dsimp only
  split
  · exact zoneToOpening_steady hP _ _ h
  · exact zoneToOpening_steady hP _ _ h
  · exact zoneToOpening_steady hP _ _ h
  · exact hP.modZone _ _ _ h
  · exact hP.modZone _ _ _ h

theorem takeZones_steady (p : PageRecord) : ∀ (zs : List Nat) (acc : State × List Nat), P acc.1 →
    P (zs.foldl (takeZone p) acc).1
  | [], _, h => h
  | z :: zs, acc, h => takeZones_steady p zs (takeZone p acc z) (takeZone_steady hP p acc z h)

theorem startPage_steady (p : Nat) (h : P s) : P (startPage p s) := by
  unfold startPage
  split
  · exact h
  · split
    · exact h
    · exact foldl_steady (fun _ _ h => liveAtOnce_steady hP _ _ h) _ _
        (offerPageStart_steady hP _ _ (pageState_steady hP _ _ _ (modPage_steady hP _ _
          (foldl_steady (fun _ _ h => handleVictim_steady hP _ h) _ _
            (takeZones_steady hP _ _ (_, _) (modPage_steady hP _ _ h))))))

theorem passWalks_steady : ∀ (n : Nat) (s : State), P s → P (passWalks n s)
  | 0, _, h => h
  | n + 1, s, h => by
    unfold passWalks
    split
    · exact h
    · exact passWalks_steady n _ (startPage_steady hP _ h)

theorem lateJoins_steady (h : P s) : P (lateJoins s) := by
  refine foldl_steady (fun s z h => ?_) _ _ h
  split
  · split
    · exact h
    · exact liveAtOnce_steady hP _ _ (zoneToOpening_steady hP _ _ h)
  · exact h

theorem signalCoverage_steady (h : P s) : P (signalCoverage s) := hP.setCovered _ _ h

theorem schedule_steady (h : P s) : P (schedule s) :=
  signalCoverage_steady hP (lateJoins_steady hP (passWalks_steady hP _ _ h))

theorem linkRequester_steady (q : Requester) (p : Nat) (h : P s) : P (linkRequester q p s) := by
  unfold linkRequester
  split
  · exact h
  · exact hP.modGroup _ _ _ h
  · exact hP.modOrbit _ _ _ h
  · exact hP.modInput _ _ _ h

theorem admitPage_steady (q : PageRequest) (h : P s) : P (admitPage q s) :=
  schedule_steady hP (pageState_steady hP _ _ _ (linkRequester_steady hP _ _
    (hP.setPages { s with lastPageId := s.nextPageId, nextArrival := s.nextArrival + 1 } _ (hP.setIds s _ _ h))))

theorem requestPage_steady (q : PageRequest) (h : P s) : P (requestPage q s) := by
  unfold requestPage
  split
  · exact h
  · exact admitPage_steady hP _ h

theorem placeAlarmPage_steady (i : Nat) (h : P s) : P (placeAlarmPage i s) := by
  unfold placeAlarmPage
  split
  · exact hP.modInput _ _ _ h
  · exact requestPage_steady hP _ h

theorem alarmRecordFreed_steady (i : Nat) (h : P s) : P (alarmRecordFreed i s) :=
  ite_steady (placeAlarmPage_steady hP _ (hP.modInput _ _ _ h)) h

theorem freePage_steady (p : Nat) (r : Option EndReason) (h : P s) : P (freePage p r s) :=
  dropPage_steady hP _ (pageState_steady hP _ _ _ h)

theorem reportFreed_steady (r : PageRecord) (h : P s) : P (reportFreed r s) := by
  unfold reportFreed
  split
  · exact h
  · exact alarmRecordFreed_steady hP _ h

theorem freeIfDone_steady (p : Nat) (h : P s) : P (freeIfDone p s) := by
  unfold freeIfDone
  split
  · exact h
  · exact ite_steady (reportFreed_steady hP _ (freePage_steady hP _ _ h)) h

theorem skipHang_steady (zs : List Nat) (h : P s) : P (skipHang zs s) :=
  ite_steady (foldl_steady (fun _ _ h => zoneToIdle_steady hP _ h) _ _ h) h

theorem closePage_steady (p : Nat) (r : EndReason) (h : P s) : P (closePage p r s) :=
  freeIfDone_steady hP _ (skipHang_steady hP _ (pageEnds_steady hP _ _ (pageState_steady hP _ _ _
    (modPage_steady hP _ _ (giveUpChannel_steady hP _ (dropReservations_steady hP _
      (foldl_steady (fun _ _ h => zoneToClosing_steady hP _ _ h) _ _ h)))))))

theorem removePage_steady (p : Nat) (r : EndReason) (h : P s) : P (removePage p r s) := by
  unfold removePage
  split
  · exact h
  · exact reportFreed_steady hP _ (dropPage_steady hP _ (pageEnds_steady hP _ _ (pageState_steady hP _ _ _ h)))

theorem endWithoutPass_steady (p : Nat) (r : EndReason) (h : P s) : P (endWithoutPass p r s) := by
  unfold endWithoutPass
  split
  · exact h
  · split
    · exact removePage_steady hP _ _ h
    · exact removePage_steady hP _ _ h
    · exact closePage_steady hP _ _ h
    · exact closePage_steady hP _ _ h
    · exact h

theorem endPage_steady (p : Nat) (r : EndReason) (h : P s) : P (endPage p r s) := by
  unfold endPage
  split
  · exact h
  · exact ite_steady h (schedule_steady hP (endWithoutPass_steady hP _ _ h))

theorem endPagesOf_steady (x : Nat) (h : P s) : P (endPagesOf x s) :=
  foldl_steady (fun _ _ h => endPage_steady hP _ _ h) _ _ h

theorem endHang_steady (z : Nat) (h : P s) : P (endHang z s) := by
  unfold endHang
  split
  · exact h
  · exact h
  · exact h
  · split
    · exact signalCoverage_steady hP (freeIfDone_steady hP _ (liveAtOnce_steady hP _ _ (zoneToOpening_steady hP _ _ h)))
    · exact schedule_steady hP (freeIfDone_steady hP _ (zoneToIdle_steady hP _ h))

theorem excludeStarted_steady (p : Nat) (h : P s) : P (excludeStarted p s) := by
  unfold excludeStarted
  dsimp only
  have h1 := foldl_steady (P := P) (f := fun s z => zoneToClosing z p s) (fun _ _ h => zoneToClosing_steady hP _ _ h)
    ((s.zonesWith (ZoneState.sounds p)).filter s.map.activeRange.excludes) s h
  refine ite_steady ?_ (closePage_steady hP _ _ ?_) <;>
    exact skipHang_steady hP _ (foldl_steady (fun _ _ h => hP.modZone _ _ _ h) _ _ h1)

theorem excludeWaiting_steady (p : Nat) (h : P s) : P (excludeWaiting p s) := by
  unfold excludeWaiting
  dsimp only
  split
  · exact modPage_steady hP _ _ h
  · exact ite_steady (removePage_steady hP _ _ (modPage_steady hP _ _ h)) (modPage_steady hP _ _ h)

theorem excludeFrom_steady (p : Nat) (h : P s) : P (excludeFrom p s) := by
  unfold excludeFrom
  split
  · exact h
  · split
    · exact excludeStarted_steady hP _ h
    · exact excludeStarted_steady hP _ h
    · exact excludeWaiting_steady hP _ h
    · exact excludeWaiting_steady hP _ h
    · exact h

theorem applyExclusion_steady (h : P s) : P (applyExclusion s) :=
  schedule_steady hP (foldl_steady (fun _ _ h => excludeFrom_steady hP _ h) _ _ h)

theorem uninstallFrom_steady (p : Nat) (h : P s) : P (uninstallFrom p s) := by
  unfold uninstallFrom
  split
  · exact h
  · split
    · exact ite_steady h (closePage_steady hP _ _ h)
    · exact ite_steady h (closePage_steady hP _ _ h)
    · exact ite_steady (removePage_steady hP _ _ h) h
    · exact ite_steady (removePage_steady hP _ _ h) h
    · exact freeIfDone_steady hP _ h

theorem installedSetChange_steady (old : ZoneSet) (h : P s) : P (installedSetChange old s) :=
  schedule_steady hP (foldl_steady (fun _ _ h => uninstallFrom_steady hP _ h) _ _
    (zoneLinkSetChange_steady hP _ (hP.setPages _ _ (foldl_steady (fun _ _ h => zoneToIdle_steady hP _ h) _ _ h))))

/-! ## Orbits and connections -/

theorem removeAnnouncement_steady (p : Option Nat) (h : P s) : P (removeAnnouncement p s) := by
  unfold removeAnnouncement
  split
  · exact h
  · split
    · exact h
    · exact ite_steady (endPage_steady hP _ _ h) h

theorem releaseOrbit_steady (o : Nat) (h : P s) : P (releaseOrbit o s) := by
  have h' := hP.modOrbit _ o (fun r => { r with announcePage := none, state := .free, call := none, parker := none })
    (removeAnnouncement_steady hP (s.orbit o).announcePage
      (hP.modOrbit _ o (fun r => { r with parkDue := none, recallDue := none }) h))
  unfold releaseOrbit
  dsimp only
  split
  · exact h'
  · exact hP.modCall _ _ _ h'

theorem recallToGroup_steady (o c : Nat) (h : P s) : P (recallToGroup o c s) := by
  have hd : ∀ (k : CallContext) (g : Option Nat), P ((offerRecord { TraceRecord.offered .divert k.priority with
      call := some c, group := g, orbit := some o, detail := k.depth } (direct (.divert c s.fallback) s)).freeCall c) :=
    fun k g => hP.freeCall _ _ (offerRecord_steady hP _ (direct_steady hP _ h))
  unfold recallToGroup
  dsimp only
  split
  · exact h
  · split
    · exact hd _ _
    · exact ite_steady (hd _ _) (enterGroup_steady hP _ _ (offerRecord_steady hP _ (hP.modCall _ _ _ h)))

theorem sendToRecallGroup_steady (o : Nat) (h : P s) : P (sendToRecallGroup o s) := by
  unfold sendToRecallGroup
  split
  · exact h
  · exact recallToGroup_steady hP _ _ (releaseOrbit_steady hP _ h)

theorem clearForConnect_steady (c x : Nat) (k : ConnectCause) (xs : List Nat) (h : P s) :
    P (clearForConnect c x k xs s) := foldl_steady (fun _ _ h => clearMark_steady hP _ _ _ h) _ _ h

theorem becomeConnected_steady (c x : Nat) (k : CallContext) (h : P s) : P (becomeConnected c x k s) :=
  hP.modCall _ _ _ (ite_steady (leaveList_steady hP _ h) h)

theorem chargeIdleClock_steady (g : Option Nat) (x : Nat) (h : P s) : P (chargeIdleClock g x s) := by
  unfold chargeIdleClock
  split
  · exact h
  · exact modMember_steady hP _ _ _ h

theorem connectCall_steady (c x : Nat) (k : ConnectCause) (r : Option TraceRecord) (h : P s) :
    P (connectCall c x k r s) := by
  unfold connectCall
  split
  · exact h
  · rename_i q _
    dsimp only
    have h1 := chargeIdleClock_steady hP q.group x (hP.modExt _ x (fun r => { r with line := .inCall })
      (becomeConnected_steady hP c x q (clearForConnect_steady hP c x k q.ringing h)))
    refine arbitrateAll_steady hP _ ?_
    have h2 : P (if k = .answer then chargeIdleClock q.group x ((becomeConnected c x q
        (clearForConnect c x k q.ringing s)).modExt x fun r => { r with line := .inCall })
        else direct (.connect x c) (chargeIdleClock q.group x ((becomeConnected c x q
        (clearForConnect c x k q.ringing s)).modExt x fun r => { r with line := .inCall }))) :=
      ite_steady h1 (direct_steady hP _ h1)
    have h3 := ite_steady (c := q.state = .waiting) (offersEnded_steady hP (q.group.getD 64) q.ringing h2) h2
    cases q.orbit with
    | none =>
      cases r with
      | none => exact h3
      | some r => exact offerRecord_steady hP _ h3
    | some o =>
      cases r with
      | none => exact releasingHolds_steady hP (releaseOrbit_steady hP _ h3)
      | some r => exact offerRecord_steady hP _ (releasingHolds_steady hP (releaseOrbit_steady hP _ h3))

theorem clearOffer_steady (k : CallContext) (r : StopReason) (h : P s) : P (clearOffer k r s) :=
  offersEnded_steady hP _ _ (clearMarks_steady hP _ _ _ h)

theorem offerAbandon_steady (k : CallContext) (h : P s) : P (offerAbandon k s) := offerRecord_steady hP _ h

theorem endCall_steady (k : CallContext) (h : P s) : P (endCall k s) := by
  unfold endCall
  split
  · exact hP.freeCall _ _ h
  · exact arbitrateAll_steady hP _ (hP.freeCall _ _ (clearMarks_steady hP _ _ _ h))
  · exact arbitrateAll_steady hP _ (hP.freeCall _ _ (offerAbandon_steady hP _
      (leaveList_steady hP _ (clearOffer_steady hP _ _ h))))
  · exact hP.freeCall _ _ (offerAbandon_steady hP _ (releasingHolds_steady hP (releaseOrbit_steady hP _ h)))
  · exact arbitrateAll_steady hP _ (hP.freeCall _ _ (offerAbandon_steady hP _
      (releasingHolds_steady hP (releaseOrbit_steady hP _ (clearMarks_steady hP _ _ _ h)))))

theorem withdrawRing_steady (x c : Nat) (h : P s) : P (withdrawRing x c s) := by
  have h1 := clearMark_steady hP x c (some .withdrawn) h
  unfold withdrawRing
  split
  · exact h1
  · dsimp only
    split
    · exact ite_steady (advance_steady hP _ _ (hP.modCall _ _ _ (offerEnded_steady hP _ _ h1)))
        (offerEnded_steady hP _ _ h1)
    · exact sendToRecallGroup_steady hP _ h1
    · exact h1
    · exact h1
    · exact h1

end

end Sys2Proof.Machine
end

