-- ==== Sys2Proof/Laws/Time.lean ====
section
/-! SUPPORT. What the passing of time and the expiry of a timer do, said once (R1). -/

namespace Sys2Proof.Machine

@[simp] theorem whenRunning_running {s : State} (h : s.running = true) (k : State → State) : whenRunning k s = k s := by
  simp [whenRunning, h]

@[simp] theorem whenRunning_held {s : State} (h : s.running = false) (k : State → State) : whenRunning k s = s := by
  simp [whenRunning, h]

@[simp] theorem elapse_zero (s : State) : elapse 0 s = s := by simp [elapse, unitsCrossed]

/-- Within a unit only the clock moves. -/
theorem elapse_within {s : State} {ms : Nat} (h : (s.clock + ms) / 100 = s.clock / 100) :
    elapse ms s = { s with clock := s.clock + ms } := by simp [elapse, unitsCrossed, h]

@[simp] theorem elapse_clock (ms : Nat) (s : State) : (elapse ms s).clock = s.clock + ms := by
  unfold elapse; dsimp only; split <;> rfl

/-- An instant that has come needs no time to pass. -/
theorem elapseTo_past {s : State} {d : Nat} (h : d ≤ s.clock) : elapseTo d s = s := by
  simp [elapseTo, Nat.sub_eq_zero_of_le h]

@[simp] theorem elapseTo_clock (d : Nat) (s : State) : (elapseTo d s).clock = max s.clock d := by
  simp [elapseTo]; omega

@[simp] theorem atExpiry_none (k : State → State) (s : State) : atExpiry none k s = s := rfl

/-- A timer whose instant has come: its expiry is taken on the state as it is. -/
theorem atExpiry_due {s : State} {d : Nat} (h : d ≤ s.clock) (k : State → State) : atExpiry (some d) k s = k s := by
  simp [atExpiry, elapseTo_past h]

end Sys2Proof.Machine
end

