-- ==== Sys2Proof/Laws/Commands.lean ====
section
/-! SUPPORT. What the commands can do, said once: a property of the state that survives the blocks' primitive changes,
bounded changes of the link, the trace and the levels, and the passing of time, survives every command but the
start-ups, the four requests that write a setting of their own, and the completion of a map write. -/

namespace Sys2Proof.Machine

/-- What the commands other than a start-up or a verified write leave of the map (R167, R169, R171). -/
structure MapUnit.Kept (m n : MapUnit) : Prop where
  copy : n.copy = m.copy
  locked : m.locked = true → n.locked = true
  held : m.rangeHeld = true → n.rangeHeld = true ∧ n.activeRange = m.activeRange

/-- The property survives every change that a command makes. -/
structure Loose (P : State → Prop) : Prop extends Steady P where
  setLink (s : State) (l : LinkUnit) : (s.link.Bounded → l.Bounded) → P s → P { s with link := l }
  setMap (s : State) (m : MapUnit) : s.map.Kept m → P s → P { s with map := m }
  setTrace (s : State) (t : TraceUnit) : (s.trace.Bounded → t.Bounded) → P s → P { s with trace := t }
  setLevel (s : State) (z : Nat) (f : LevelState → LevelState) :
    (∀ l : LevelState, l.Bounded → (f l).Bounded) → P s → P (s.modLevel z f)
  addCall (s : State) (k : CallContext) : s.calls.length < Config.callContexts → P s → P (s.addCall k)
  setSupply (s : State) (u : Supply) : P s → P { s with supply := u }
  elapse (ms : Nat) (s : State) : P s → P (Machine.elapse ms s)

variable {P : State → Prop}

section
variable (hP : Loose P) {s : State}
include hP

/-! ## Taking, time and frames -/

theorem answered_loose (f : Frame) (v : Verdict) (b : ReplyBody) (h : P s) : P (answered f v b s) := by
  let t : State := { s with link := { s.link.put (.reply (replyKind f.kind) f.tag v b) with
    requests := s.link.requests.drop 1, prepared := f.kind = 0x23 && v = .ok } }
  have h1 : P t := hP.setLink s _ (fun hl => by
    have := put_bounded (.reply (replyKind f.kind) f.tag v b) hl
    exact ⟨this.places, this.unsolicited, by have := hl.waiting; simp; omega, this.lost⟩) h
  exact hP.setMap t { s.map with armed := f.kind = 0x1A && v = .ok } ⟨rfl, fun h => h, fun h => ⟨h, rfl⟩⟩ h1

theorem takeRequest_loose (f : Frame) {owner : State → State × Answer} (ho : ∀ s, P s → P (owner s).1) (h : P s) :
    P (takeRequest f owner s) := by
  have hs : P (standInQueue f s) :=
    ite_steady (hP.setLink _ _ (fun hl => ⟨hl.places, hl.unsolicited, by simp [Config.requestPlaces], hl.lost⟩) h) h
  unfold takeRequest
  refine ite_steady h (ite_steady ?_ hs)
  rw [serve_answered]
  exact answered_loose hP _ _ _ (ho _ hs)

theorem takeKind_loose {α : Type} (kind tag : Byte) (payload : List Byte) (read : List Byte → Option α)
    {owner : α → State → State × Answer} (ho : ∀ o s, P s → P (owner o s).1) (h : P s) :
    P (takeKind kind tag payload read owner s) := by
  refine takeRequest_loose hP _ (fun s h => ?_) h
  split
  · exact h
  · exact ho _ _ h

omit hP in
theorem whenRunning_loose {k : State → State} (hk : ∀ s, P s → P (k s)) (h : P s) : P (whenRunning k s) :=
  ite_steady (hk _ h) h

theorem elapseTo_loose (d : Nat) (h : P s) : P (elapseTo d s) := hP.elapse _ _ h

theorem atExpiry_loose (due : Option Nat) {k : State → State} (hk : ∀ s, P s → P (k s)) (h : P s) :
    P (atExpiry due k s) := by
  cases due with
  | none => exact h
  | some t => exact hk _ (elapseTo_loose hP _ h)

theorem startExchange_loose (h : P s) : P (startExchange s) := startExchange_steady hP.toSteady h

theorem setReceiver_loose (r : Receiver) (h : P s) : P (setReceiver r s) :=
  hP.setLink _ _ (fun hl => ⟨hl.places, hl.unsolicited, hl.waiting, hl.lost⟩) h

theorem acceptFrame_loose (f : Frame) (h : P s) : P (acceptFrame f s) := by
  unfold acceptFrame
  split
  · exact h
  · split
    · exact hP.emit _ _ h
    · rename_i hn
      refine hP.setLink _ _ (fun hl => ⟨hl.places, hl.unsolicited, ?_, hl.lost⟩) h
      simp only [List.length_append, List.length_singleton]
      omega

theorem rejectFrame_loose (b : Bool) (h : P s) : P (rejectFrame b s) := ite_steady h (hP.emit _ _ h)

theorem seekStart_loose (b : Byte) (h : P s) : P (seekStart b s) :=
  ite_steady (setReceiver_loose hP _ h) (setReceiver_loose hP _ h)

theorem judgeFrame_loose (bytes : List Byte) (h : P s) : P (judgeFrame bytes s) := by
  unfold judgeFrame
  dsimp only
  split
  · split
    · exact acceptFrame_loose hP _ h
    · exact rejectFrame_loose hP _ h
  · exact rejectFrame_loose hP _ h

theorem receiveByte_loose (b : Byte) (h : P s) : P (receiveByte b s) := by
  unfold receiveByte
  split
  · exact h
  · exact seekStart_loose hP _ h
  · dsimp only
    split
    · exact seekStart_loose hP _ h
    · split
      · exact rejectFrame_loose hP _ (setReceiver_loose hP _ h)
      · split
        · exact judgeFrame_loose hP _ (setReceiver_loose hP _ h)
        · exact setReceiver_loose hP _ h

theorem receiveBytes_loose (l : List Byte) (h : P s) : P (receiveBytes l s) :=
  foldl_steady (fun _ _ h => receiveByte_loose hP _ h) _ _ h

omit hP in
theorem depart_bounded {l : LinkUnit} (h : l.Bounded) : l.depart.Bounded := by
  obtain ⟨h1, h2, h3, h4⟩ := h
  unfold LinkUnit.depart
  split
  · exact ⟨h1, h2, h3, h4⟩
  · rename_i f rest hq
    split
    · exact ⟨h1, h2, h3, h4⟩
    · have hu : unsolicitedCount rest ≤ unsolicitedCount l.output := by
        rw [hq]; unfold unsolicitedCount; simp only [List.filter_cons]; split <;> simp
      have hlen : rest.length ≤ l.output.length := by rw [hq]; simp
      have h0 : LinkUnit.Bounded { l with
          output := rest, sentBytes := f.bytes, resetAfter := l.resetAfter.map fun n => n - 1 } :=
        ⟨hlen.trans h1, hu.trans h2, h3, h4⟩
      unfold reportLost
      dsimp only
      split
      · rename_i hj
        simp only [Bool.and_eq_true] at hj
        have := put_bounded (.notice (.outputLost l.lost)) h0
        rw [put_joins hj.2] at this
        exact ⟨this.places, this.unsolicited, this.waiting, Nat.zero_le _⟩
      · exact h0

theorem stopActivity_loose (h : P s) : P (stopActivity s) := by
  let t : State := { s with link := { s.link with
    output := [], requests := [], prepared := false, resetAfter := none, receiver := .disabled } }
  have h1 : P t := hP.setLink s _ (fun hl => ⟨by simp, by simp [unsolicitedCount], by simp, hl.lost⟩) h
  let u : State := { t with exchange := none }
  have h2 : P u := hP.setExchange t none s.rotation h1
  exact hP.setMap u { s.map with store := s.map.abandoned true, writing := none }
    ⟨rfl, fun h => h, fun h => ⟨h, rfl⟩⟩ h2

/-! ## Lines, calls, groups and rosters -/

theorem applyLine_loose (x : Nat) (st : LineState) (h : P s) : P (applyLine x st s) := by
  have hS := hP.toSteady
  have h1 := hS.modExt s x (fun r => { r with line := st }) h
  unfold applyLine
  dsimp only
  have h2 : P (match (s.ext x).ringing with
      | none => s.modExt x fun r => { r with line := st }
      | some c => if st = .idle then s.modExt x fun r => { r with line := st }
        else withdrawRing x c (s.modExt x fun r => { r with line := st })) := by
    split
    · exact h1
    · exact ite_steady h1 (withdrawRing_steady hS _ _ h1)
  refine ite_steady (arbitrate_steady hS _ (releasingHolds_steady hS ?_)) (releasingHolds_steady hS ?_) <;>
    exact ite_steady h2 (endPagesOf_steady hS _ h2)

theorem lineReport_loose (o : LineReportOp) (h : P s) : P (lineReport o s).1 := by
  unfold lineReport
  split
  · exact h
  · split
    · exact h
    · exact applyLine_loose hP _ _ h

theorem directRing_loose (o : DirectRingOp) (h : P s) : P (directRing o s).1 := by
  unfold directRing
  dsimp only
  split
  · exact h
  · split
    · exact h
    · split
      · exact h
      · split
        · exact h
        · rename_i hn
          exact placeMark_steady hP.toSteady _ _ _ (hP.addCall _ _ (by omega) h)

theorem callAnswer_loose (o : CallAnswerOp) (h : P s) : P (callAnswer o s).1 := by
  unfold callAnswer
  split
  · exact h
  · split
    · exact h
    · split
      · exact h
      · exact connectCall_steady hP.toSteady _ _ _ _ h

theorem callGone_loose (c : Nat) (h : P s) : P (callGone c s).1 := by
  unfold callGone
  split
  · exact h
  · split
    · exact h
    · exact endCall_steady hP.toSteady _ h

omit hP in
theorem callQuery_loose (c : Nat) (h : P s) : P (callQuery c s).1 := by
  unfold callQuery
  split
  · exact h
  · split <;> exact h

theorem applyGroup_loose (o : GroupSetOp) (f : GroupFields) (h : P s) : P (applyGroup o f s) := by
  have hS := hP.toSteady
  have h1 := hS.modGroup s o.group (o.write f) h
  have h2 := fun (a b : Bool) => ite_steady (c := a) (forceGroup_steady hS o.group h1)
    (ite_steady (c := b) (recomputeGroup_steady hS o.group h1) h1)
  exact ite_steady (service_steady hS _ (h2 _ _)) (h2 _ _)

theorem groupSet_loose (o : GroupSetOp) (h : P s) : P (groupSet o s).1 := by
  unfold groupSet
  split
  · exact h
  · split
    · exact h
    · dsimp only
      split
      · exact h
      · exact applyGroup_loose hP _ _ h

theorem replaceMembers_loose (o : MembersSetOp) (gone added : List Nat) (h : P s) :
    P (replaceMembers o gone added s) := by
  have hS := hP.toSteady
  exact foldl_steady (fun _ _ h => hS.modCall _ _ _ h) _ _ (foldl_steady (fun _ _ h => hS.modExt _ _ _ h) _ _
    (foldl_steady (fun _ _ h => hS.modExt _ _ _ h) _ _ (hS.modGroup _ _ _ h)))

theorem loseOffer_loose (g x : Nat) (h : P s) : P (loseOffer g x s) := by
  unfold loseOffer
  split
  · exact h
  · exact clearMark_steady hP.toSteady _ _ _ h

theorem advanceUnrung_loose (g c : Nat) (h : P s) : P (advanceUnrung g c s) :=
  ite_steady (advance_steady hP.toSteady _ _ (hP.modCall _ _ _ h)) h

theorem applyMembers_loose (o : MembersSetOp) (h : P s) : P (applyMembers o s) := by
  have hS := hP.toSteady
  unfold applyMembers
  dsimp only
  refine arbitrateAll_steady hS _ ?_
  have h3 : ∀ (l : List Nat) s, P s → P (l.foldl (fun s x => loseOffer o.group x s) s) :=
    fun l s h => foldl_steady (fun _ _ h => loseOffer_loose hP _ _ h) _ _ h
  have h4 : ∀ (l : List Nat) s, P s → P (l.foldl (fun s c => advanceUnrung o.group c s) s) :=
    fun l s h => foldl_steady (fun _ _ h => advanceUnrung_loose hP _ _ h) _ _ h
  refine ite_steady (service_steady hS _ (ite_steady (notify_steady hS _ (h4 _ _ ?_)) (h4 _ _ ?_)))
    (ite_steady (notify_steady hS _ (h4 _ _ ?_)) (h4 _ _ ?_)) <;> exact h3 _ _ (replaceMembers_loose hP o _ _ h)

theorem membersSet_loose (o : MembersSetOp) (h : P s) : P (membersSet o s).1 := by
  unfold membersSet
  dsimp only
  repeat' split
  all_goals first | exact h | exact applyMembers_loose hP _ h

theorem presenceStage_loose (o : PresenceStageOp) (h : P s) : P (presenceStage o s).1 := by
  unfold presenceStage
  dsimp only
  repeat' split
  all_goals first
    | exact h
    | exact foldl_steady (fun _ _ h => modMember_steady hP.toSteady _ _ _ h) _ _ h

theorem commitMember_loose (g x : Nat) (h : P s) : P (commitMember g x s) := by
  unfold commitMember
  split
  · exact h
  · exact ite_steady (modMember_steady hP.toSteady _ _ _ h) (applyStaged_steady hP.toSteady _ _ h)

theorem rosterCommit_loose (g : Nat) (h : P s) : P (rosterCommit g s).1 := by
  have hS := hP.toSteady
  unfold rosterCommit
  split
  · exact h
  · split
    · exact h
    · have h1 : ∀ l : List Membership, P (l.foldl (fun s m => commitMember g m.ext s) s) :=
        fun l => foldl_steady (fun _ _ h => commitMember_loose hP _ _ h) _ _ h
      exact ite_steady (service_steady hS _ (ite_steady (hS.modGroup _ _ _ (h1 _)) (h1 _)))
        (ite_steady (hS.modGroup _ _ _ (h1 _)) (h1 _))

theorem rosterQuery_loose (o : RosterQueryOp) (h : P s) : P (rosterQuery o s).1 := by
  unfold rosterQuery
  split
  · exact h
  · exact hP.modGroup _ _ _ h

/-! ## Call distribution, pickup and orbits -/

theorem placeArrival_loose (c g : Nat) (h : P s) : P (placeArrival c g s) :=
  ite_steady (divertCall_steady hP.toSteady _ _ _ _ h)
    (ite_steady (enterGroup_steady hP.toSteady _ _ h) (overflowFrom_steady hP.toSteady _ _ h))

theorem callArrive_loose (o : CallArriveOp) (h : P s) : P (callArrive o s).1 := by
  unfold callArrive
  split
  · exact h
  · split
    · exact h
    · split
      · exact h
      · rename_i hn
        exact placeArrival_loose hP _ _ (hP.addCall _ _ (by omega) h)

theorem endUnanswered_loose (k : CallContext) (h : P s) : P (endUnanswered k s) := by
  have hS := hP.toSteady
  exact arbitrateAll_steady hS _ (advance_steady hS _ _ (hS.modCall _ _ _
    (foldl_steady (fun _ _ h => offerRecord_steady hS _ h) _ _ (clearOffer_steady hS _ _ h))))

theorem leaveForOverflow_loose (c : Nat) (h : P s) : P (leaveForOverflow c s) :=
  hP.modCall _ _ _ (leaveList_steady hP.toSteady _ h)

theorem endWait_loose (k : CallContext) (h : P s) : P (endWait k s) := by
  have hS := hP.toSteady
  have h1 := hS.modCall _ k.ref (fun k => { k with noAnswerDue := none, maxWaitDue := none })
    (clearOffer_steady hS k .overflowed h)
  exact arbitrateAll_steady hS _ (ite_steady (overflowFrom_steady hS _ _ h1)
    (divertCall_steady hS _ _ _ _ (leaveForOverflow_loose hP _ h1)))

theorem placeAutoPage_loose (g n : Nat) (h : P s) : P (placeAutoPage g n s) := by
  unfold placeAutoPage
  dsimp only
  split
  · exact releasingHolds_steady hP.toSteady (admitPage_steady hP.toSteady _ h)
  · exact hP.modGroup _ _ _ h

theorem pickupAsk_loose (o : PickupAskOp) (h : P s) : P (pickupAsk o s).1 := by
  have hS := hP.toSteady
  unfold pickupAsk directedPickup groupPickup pickUp
  dsimp only
  repeat' split
  all_goals first | exact h | (dsimp only; exact connectCall_steady hS _ _ _ _ h)

theorem extSet_loose (o : ExtSetOp) (h : P s) : P (extSet o s).1 := by
  unfold extSet
  split
  · exact h
  · exact hP.modExt _ _ _ h

theorem parkCall_loose (c p o : Nat) (h : P s) : P (parkCall c p o s) := by
  have hS := hP.toSteady
  exact hS.modOrbit _ _ _ (direct_steady hS _ (hS.modExt _ _ _ (hS.modCall _ _ _ (hS.modOrbit _ _ _ h))))

theorem announce_loose (o p : Nat) (asked : Bool) (h : P s) : P (announce o p asked s).1 := by
  unfold announce
  split
  · exact h
  · split
    · exact h
    · dsimp only
      split
      · exact h
      · dsimp only
        exact releasingHolds_steady hP.toSteady (admitPage_steady hP.toSteady _ h)

theorem park_loose (k : CallContext) (p o : Nat) (asked : Bool) (h : P s) : P (park k p o asked s).1 :=
  offerRecord_steady hP.toSteady _ (announce_loose hP _ _ _ (parkCall_loose hP _ _ _ h))

theorem parkAsk_loose (o : ParkAskOp) (h : P s) : P (parkAsk o s).1 := by
  unfold parkAsk
  split
  · exact h
  · split
    · exact h
    · split
      · exact h
      · split
        · exact h
        · split
          · split
            · exact h
            · exact park_loose hP _ _ _ _ h
          · split
            · exact h
            · exact park_loose hP _ _ _ _ h

theorem orbitSet_loose (o : OrbitSetOp) (h : P s) : P (orbitSet o s).1 := by
  unfold orbitSet
  split
  · exact h
  · split
    · exact h
    · exact hP.modOrbit _ _ _ h

theorem endPark_loose (o : Nat) (h : P s) : P (endPark o s) := by
  have hS := hP.toSteady
  unfold endPark
  split
  · exact ite_steady (hS.modOrbit _ _ _ (placeMark_steady hS _ _ _ (hS.modCall _ _ _ (hS.modOrbit _ _ _ h))))
      (releasingHolds_steady hS (sendToRecallGroup_steady hS _ h))
  · exact h

theorem endRecall_loose (o : Nat) (h : P s) : P (endRecall o s) := by
  have hS := hP.toSteady
  unfold endRecall
  split
  · exact arbitrate_steady hS _
      (releasingHolds_steady hS (sendToRecallGroup_steady hS _ (clearMark_steady hS _ _ _ h)))
  · exact h

theorem retrieveAsk_loose (o : RetrieveAskOp) (h : P s) : P (retrieveAsk o s).1 := by
  unfold retrieveAsk retrieve
  repeat' split
  all_goals first | exact h | (dsimp only; exact connectCall_steady hP.toSteady _ _ _ _ h)

/-! ## Pages, zones and levels -/

theorem pageAsk_loose (o : PageAskOp) (h : P s) : P (pageAsk o s).1 := by
  unfold pageAsk
  split
  · dsimp only
    split
    · exact h
    · split
      · exact h
      · dsimp only
        exact releasingHolds_steady hP.toSteady (admitPage_steady hP.toSteady _ h)
  · exact h

theorem pageStop_loose (p : Nat) (h : P s) : P (pageStop p s).1 := by
  unfold pageStop
  repeat' split
  all_goals first | exact h | exact releasingHolds_steady hP.toSteady (endPage_steady hP.toSteady _ _ h)

theorem setLevelKept_loose (z : Nat) {f : LevelState → LevelState} (hf : ∀ l, (f l).noise = l.noise) (h : P s) :
    P (s.modLevel z f) := hP.setLevel _ _ _ (fun l hl => by unfold LevelState.Bounded at *; rw [hf]; exact hl) h

theorem takeReading_loose (z q : Nat) (h : P s) : P (takeReading z q s) := by
  unfold takeReading
  refine dite (q = 0) (fun h0 => by rw [if_pos h0]; exact h) fun hq => ?_
  rw [if_neg hq]
  refine hP.setLevel _ _ _ (fun l hl => ?_) h
  unfold LevelState.learn readingLevel
  split
  · simp only [LevelState.Bounded, clampInt] at *
    omega
  · simp only [LevelState.Bounded] at *
    split <;> omega

theorem confirmDelivery_loose (z : Nat) (h : P s) : P (confirmDelivery z s) := hP.modAmp _ _ _ h

theorem setFault_loose (z : Nat) (c : FaultCause) (h : P s) : P (setFault z c s) :=
  notify_steady hP.toSteady _ (hP.modAmp _ _ _ h)

theorem guardReading_loose (e : Exchange) (r : Byte) (h : P s) : P (guardReading e r s) :=
  ite_steady (takeReading_loose hP _ _ h) h

theorem goodReply_loose (e : Exchange) (r : Byte) (h : P s) : P (goodReply e r s) := by
  unfold goodReply
  split
  · exact guardReading_loose hP _ _ (ite_steady (hP.modAmp _ _ _ h) (confirmDelivery_loose hP _ (hP.modAmp _ _ _ h)))
  · exact releasingHolds_steady hP.toSteady (schedule_steady hP.toSteady
      (guardReading_loose hP _ _ (notify_steady hP.toSteady _ (hP.modAmp _ _ _ h))))

theorem missedReply_loose (z : Nat) (h : P s) : P (missedReply z s) :=
  ite_steady (confirmDelivery_loose hP _ h)
    (ite_steady (hP.modAmp _ _ _ h) (confirmDelivery_loose hP _ (setFault_loose hP _ _ h)))

theorem faultReply_loose (z : Nat) (c : FaultCause) (h : P s) : P (faultReply z c s) :=
  confirmDelivery_loose hP _ (ite_steady h (setFault_loose hP _ _ h))

theorem endExchange_loose (e : Exchange) (o : ExchangeOutcome) (r : Byte) (h : P s) : P (endExchange e o r s) := by
  have h1 := hP.setExchange s none s.rotation h
  refine startExchange_loose hP (ite_steady h1 ?_)
  split
  · exact missedReply_loose hP _ h1
  · exact missedReply_loose hP _ h1
  · exact faultReply_loose hP _ _ h1
  · exact goodReply_loose hP _ _ h1

theorem handOver_loose (z : Nat) (c : Commanded) (b : Bool) (h : P s) : P (handOver z c b s) :=
  handOver_steady hP.toSteady _ _ _ h

theorem zoneSet_loose (o : ZoneSetOp) (h : P s) : P (zoneSet o s).1 := by
  unfold zoneSet
  split
  · exact h
  · split
    · exact h
    · have h1 : P (s.modLevel o.zone (o.write ‹Bool› s.now)) := by
        refine hP.setLevel _ _ _ (fun l hl => ?_) h
        unfold ZoneSetOp.write
        dsimp only
        unfold LevelState.Bounded at *
        split
        · simp only [clamp]; omega
        · exact hl
      exact ite_steady (handOver_loose hP _ _ _ (hP.limit _ _ h1)) h1

theorem levelQuery_loose (z : Nat) (h : P s) : P (levelQuery z s).1 := by
  unfold levelQuery
  split
  · exact h
  · exact setLevelKept_loose hP _ (fun _ => rfl) h

/-! ## Alarm inputs, the map and the trace -/

theorem activate_loose (i : Nat) (h : P s) : P (activate i s) := by
  have hS := hP.toSteady
  have h1 := notify_steady hS (.alarmChange i true (s.meaning i).mode) (hS.modInput s i
    (fun r => { r with active := true, latchedMode := (s.meaning i).mode, latchedSet := (s.meaning i).zones }) h)
  unfold activate
  dsimp only
  split
  · exact h1
  · exact releasingHolds_steady hS (placeAlarmPage_steady hS _ h1)
  · exact releasingHolds_steady hS (placeAlarmPage_steady hS _ h1)
  · exact releasingHolds_steady hS (placeAlarmPage_steady hS _ (ite_steady (musterActivation_steady hS h1)
      (startOverride_steady hS (musterActivation_steady hS h1))))

theorem clearAlarm_loose (i : Nat) (h : P s) : P (clearAlarm i s) := by
  have hS := hP.toSteady
  have h1 := notify_steady hS (.alarmChange i false (s.input i).latchedMode) (hS.modInput s i
    (fun r => { r with active := false, placementPending := false }) h)
  unfold clearAlarm
  dsimp only
  cases (s.input i).page with
  | none => exact ite_steady (endOverride_steady hS h1) h1
  | some p =>
    have h2 := hS.modInput _ i (fun r => { r with page := none }) (releasingHolds_steady hS
      (endPage_steady hS p .alarmCleared h1))
    exact ite_steady (endOverride_steady hS h2) h2

theorem settle_loose (i : Nat) (h : P s) : P (settle i s) :=
  ite_steady (activate_loose hP _ (hP.modInput _ _ _ h)) (clearAlarm_loose hP _ (hP.modInput _ _ _ h))

theorem sampleEnable_loose (b : Bool) (h : P s) : P (sampleEnable b s) :=
  hP.setMap _ _ ⟨rfl, fun h => h, fun h => ⟨h, rfl⟩⟩ h

theorem startWrite_loose (m : EmergencyMap) (b : Bool) (h : P s) : P (startWrite m b s) :=
  hP.setMap _ _ ⟨rfl, fun h => h, fun h => ⟨h, rfl⟩⟩ h

theorem mapWrite_loose (b : Bool) (o : MapWriteOp) (h : P s) : P (mapWrite b o s).1 := by
  unfold mapWrite
  dsimp only
  split
  · exact sampleEnable_loose hP _ h
  · split
    · exact sampleEnable_loose hP _ h
    · exact startWrite_loose hP _ _ (sampleEnable_loose hP _ h)

theorem mapProtect_loose (b : Bool) (n : Nat) (h : P s) : P (mapProtect b n s).1 := by
  have h1 := sampleEnable_loose hP b h
  unfold mapProtect
  dsimp only
  split
  · exact h1
  · split
    · exact startWrite_loose hP _ _ h1
    · split
      · exact hP.setMap _ _ ⟨rfl, fun _ => rfl, fun h => ⟨h, rfl⟩⟩ h1
      · exact h1

theorem unverified_loose (h : P s) : P (unverified s) :=
  notify_steady hP.toSteady _ (hP.setMap _ _ ⟨rfl, fun h => h, fun h => ⟨h, rfl⟩⟩ h)

theorem excludeSet_loose (o : ExcludeSetOp) (h : P s) : P (excludeSet o s).1 := by
  unfold excludeSet
  split
  · exact h
  · split
    · exact h
    · rename_i hheld
      split
      · split
        · exact h
        · dsimp only
          exact releasingHolds_steady hP.toSteady (applyExclusion_steady hP.toSteady
            (hP.setMap _ _ ⟨rfl, fun h => h, fun h => absurd h hheld⟩ h))
      · exact h

theorem rangeHold_loose (u : Unit) (h : P s) : P (rangeHold u s).1 := by
  unfold rangeHold
  split
  · exact h
  · exact hP.setMap _ _ ⟨rfl, fun h => h, fun _ => ⟨rfl, rfl⟩⟩ h

omit hP in
theorem supportedDepth_cases (n : Nat) :
    supportedDepth n = 16 ∨ supportedDepth n = 32 ∨ supportedDepth n = 64 ∨ supportedDepth n = 128 ∨
      supportedDepth n = 256 := by
  unfold supportedDepth; repeat' split
  all_goals simp

theorem traceSet_loose (o : TraceSetOp) (h : P s) : P (traceSet o s).1 := by
  have hS := hP.toSteady
  unfold traceSet
  split
  · split
    · exact h
    · have h1 : P (selectDepth (supportedDepth o.depth) s) :=
        ite_steady h (hP.setTrace _ _ (fun _ => ⟨supportedDepth_cases _, by simp [TraceUnit.clear],
          by simp [TraceUnit.clear], by simp [TraceUnit.clear]⟩) h)
      have h2 := hP.setTrace _ { (selectDepth (supportedDepth o.depth) s).trace with
        filter := o.filter, ungrouped := ‹Bool›, freezeOnAlarm := ‹Bool› }
        (fun ht => ⟨ht.depth, ht.held, ht.sequence, ht.elapsed⟩) h1
      dsimp only
      unfold freezeControl
      split
      · exact hP.setTrace _ _ (fun ht => ⟨ht.depth, ht.held, ht.sequence, ht.elapsed⟩) h1
      · dsimp only
        refine ite_steady (freeze_steady hS _ (hP.setTrace _ _ (fun ht => ⟨ht.depth, ht.held, ht.sequence, ht.elapsed⟩) h1))
          (hP.setTrace _ _ (fun ht => ⟨ht.depth, ht.held, ht.sequence, ht.elapsed⟩) h1)
  · exact h

theorem traceClear_loose (u : Unit) (h : P s) : P (traceClear u s).1 :=
  hP.setTrace _ _ (fun ht => ⟨ht.depth, by simp [TraceUnit.clear], by simp [TraceUnit.clear],
    by simp [TraceUnit.clear]⟩) h

omit hP in
theorem traceRead_loose (o : TraceReadOp) (h : P s) : P (traceRead o s).1 := by
  unfold traceRead
  split <;> exact h

theorem resetNow_loose (u : Unit) (h : P s) : P (resetNow u s).1 := by
  unfold resetNow
  split
  · exact hP.setLink _ _ (fun hl => ⟨hl.places, hl.unsolicited, by simp, hl.lost⟩) h
  · exact h

/-! ## Every command but the start-ups, the setters and the completion of a write -/

/-- The commands that `exec_loose` leaves to their own lemmas. -/
def Instr.keepsLoose : Instr → Prop
  | .powerOn _ | .pinReset _ | .linkReset _ | .fallbackSet _ _ | .pickgroupSet _ _ | .zonesetSet _ _ | .pagingSet _ _
  | .mapWriteComplete true => False
  | _ => True

theorem exec_loose (c : Instr) (hc : Instr.keepsLoose c) {t : State} (he : exec c s = .next t) (h : P s) : P t := by
  have hS := hP.toSteady
  have done : ∀ {u : State}, P u → (Host.Outcome.next u : Host.Outcome State Fault Refusal) = .next t → P t := by
    intro u hu hut; injection hut with hut; exact hut ▸ hu
  cases c with
  | powerOn _ => exact hc.elim
  | pinReset _ => exact hc.elim
  | linkReset _ => exact hc.elim
  | fallbackSet _ _ => exact hc.elim
  | pickgroupSet _ _ => exact hc.elim
  | zonesetSet _ _ => exact hc.elim
  | pagingSet _ _ => exact hc.elim
  | frameReceive k tag p => exact done (whenRunning_loose (fun _ h => receiveBytes_loose hP _ h) h) he
  | frameError l => exact done (whenRunning_loose (fun _ h => receiveBytes_loose hP _ h) h) he
  | receiveGapTimeout =>
    refine done (whenRunning_loose (fun s h => ?_) h) he
    split
    · exact h
    · exact h
    · exact setReceiver_loose hP _ (elapseTo_loose hP _ h)
  | outputDepart => exact done (whenRunning_loose (fun s h => hP.setLink _ _ depart_bounded h) h) he
  | unknownKind k tag p => exact done (ite_steady h (takeRequest_loose hP _ (fun _ h => h) h)) he
  | lineReport tag p => exact done (takeKind_loose hP _ _ _ _ (fun _ _ h => lineReport_loose hP _ h) h) he
  | directRing tag p => exact done (takeKind_loose hP _ _ _ _ (fun _ _ h => directRing_loose hP _ h) h) he
  | callAnswer tag p => exact done (takeKind_loose hP _ _ _ _ (fun _ _ h => callAnswer_loose hP _ h) h) he
  | callGone tag p => exact done (takeKind_loose hP _ _ _ _ (fun _ _ h => callGone_loose hP _ h) h) he
  | callQuery tag p => exact done (takeKind_loose hP _ _ _ _ (fun _ _ h => callQuery_loose _ h) h) he
  | groupSet tag p => exact done (takeKind_loose hP _ _ _ _ (fun _ _ h => groupSet_loose hP _ h) h) he
  | membersSet tag p => exact done (takeKind_loose hP _ _ _ _ (fun _ _ h => membersSet_loose hP _ h) h) he
  | presenceStage tag p => exact done (takeKind_loose hP _ _ _ _ (fun _ _ h => presenceStage_loose hP _ h) h) he
  | rosterCommit tag p => exact done (takeKind_loose hP _ _ _ _ (fun _ _ h => rosterCommit_loose hP _ h) h) he
  | rosterQuery tag p => exact done (takeKind_loose hP _ _ _ _ (fun _ _ h => rosterQuery_loose hP _ h) h) he
  | callArrive tag p => exact done (takeKind_loose hP _ _ _ _ (fun _ _ h => callArrive_loose hP _ h) h) he
  | noAnswerExpiry c =>
    refine done (whenRunning_loose (fun s h => ?_) h) he
    split
    · exact h
    · exact atExpiry_loose hP _ (fun _ h => endUnanswered_loose hP _ h) h
  | maximumWaitExpiry c =>
    refine done (whenRunning_loose (fun s h => ?_) h) he
    split
    · exact h
    · exact atExpiry_loose hP _ (fun _ h => endWait_loose hP _ h) h
  | autoPageDue g =>
    refine done (whenRunning_loose (fun s h => ?_) h) he
    split
    · exact h
    · exact placeAutoPage_loose hP _ _ (elapseTo_loose hP _ h)
  | pickupAsk tag p => exact done (takeKind_loose hP _ _ _ _ (fun _ _ h => pickupAsk_loose hP _ h) h) he
  | extSet tag p => exact done (takeKind_loose hP _ _ _ _ (fun _ _ h => extSet_loose hP _ h) h) he
  | parkAsk tag p => exact done (takeKind_loose hP _ _ _ _ (fun _ _ h => parkAsk_loose hP _ h) h) he
  | orbitSet tag p => exact done (takeKind_loose hP _ _ _ _ (fun _ _ h => orbitSet_loose hP _ h) h) he
  | parkTimerExpiry o =>
    exact done (whenRunning_loose (fun _ h => atExpiry_loose hP _ (fun _ h => endPark_loose hP _ h) h) h) he
  | recallRingExpiry o =>
    exact done (whenRunning_loose (fun _ h => atExpiry_loose hP _ (fun _ h => endRecall_loose hP _ h) h) h) he
  | retrieveAsk tag p => exact done (takeKind_loose hP _ _ _ _ (fun _ _ h => retrieveAsk_loose hP _ h) h) he
  | pageAsk tag p => exact done (takeKind_loose hP _ _ _ _ (fun _ _ h => pageAsk_loose hP _ h) h) he
  | pageStop tag p => exact done (takeKind_loose hP _ _ _ _ (fun _ _ h => pageStop_loose hP _ h) h) he
  | chimeTimerExpiry z =>
    exact done (whenRunning_loose (fun _ h => atExpiry_loose hP _ (fun _ h => zoneToLive_steady hS _ h) h) h) he
  | hangTimerExpiry z =>
    exact done (whenRunning_loose (fun _ h => atExpiry_loose hP _
      (fun _ h => releasingHolds_steady hS (endHang_steady hS _ h)) h) h) he
  | suspensionTimerExpiry p =>
    exact done (whenRunning_loose (fun _ h => atExpiry_loose hP _
      (fun _ h => releasingHolds_steady hS (endPage_steady hS _ _ h)) h) h) he
  | durationExpiry p =>
    exact done (whenRunning_loose (fun _ h => atExpiry_loose hP _
      (fun _ h => releasingHolds_steady hS (endPage_steady hS _ _ h)) h) h) he
  | zoneReply a r st ap ck =>
    refine done (whenRunning_loose (fun s h => ?_) h) he
    split
    · exact h
    · split
      · exact h
      · exact endExchange_loose hP _ _ _ h
  | zoneReplyTimeout =>
    refine done (whenRunning_loose (fun s h => ?_) h) he
    split
    · exact h
    · exact endExchange_loose hP _ _ _ (elapseTo_loose hP _ h)
  | staleTimeExpiry z =>
    refine done (whenRunning_loose (fun s h => ?_) h) he
    split
    · exact h
    · exact setLevelKept_loose hP _ (fun _ => rfl) (elapseTo_loose hP _ h)
  | zoneSet tag p => exact done (takeKind_loose hP _ _ _ _ (fun _ _ h => zoneSet_loose hP _ h) h) he
  | levelQuery tag p => exact done (takeKind_loose hP _ _ _ _ (fun _ _ h => levelQuery_loose hP _ h) h) he
  | alarmLevelChange i b => exact done (whenRunning_loose (fun _ h => hP.modInput _ _ _ h) h) he
  | debounceExpiry i =>
    exact done (whenRunning_loose (fun _ h => atExpiry_loose hP _ (fun _ h => settle_loose hP _ h) h) h) he
  | mapRead b tag p => exact done (takeKind_loose hP _ _ _ _ (fun _ _ h => (sampleEnable_loose hP b h :)) h) he
  | mapArm tag p => exact done (takeKind_loose hP _ _ _ _ (fun _ _ h => h) h) he
  | mapWrite b tag p => exact done (takeKind_loose hP _ _ _ _ (fun _ _ h => mapWrite_loose hP _ _ h) h) he
  | mapProtect b tag p => exact done (takeKind_loose hP _ _ _ _ (fun _ _ h => mapProtect_loose hP _ _ h) h) he
  | mapWriteComplete v =>
    cases v with
    | true => exact hc.elim
    | false =>
      refine done (whenRunning_loose (fun s h => ?_) h) he
      split
      · exact h
      · exact atExpiry_loose hP _ (fun _ h => unverified_loose hP h) h
  | excludeSet tag p => exact done (takeKind_loose hP _ _ _ _ (fun _ _ h => excludeSet_loose hP _ h) h) he
  | rangeHold tag p => exact done (takeKind_loose hP _ _ _ _ (fun _ _ h => rangeHold_loose hP _ h) h) he
  | traceSet tag p => exact done (takeKind_loose hP _ _ _ _ (fun _ _ h => traceSet_loose hP _ h) h) he
  | traceClear tag p => exact done (takeKind_loose hP _ _ _ _ (fun _ _ h => traceClear_loose hP _ h) h) he
  | traceRead tag p => exact done (takeKind_loose hP _ _ _ _ (fun _ _ h => traceRead_loose _ h) h) he
  | statusQuery tag p => exact done (takeKind_loose hP _ _ _ _ (fun _ _ h => h) h) he
  | resetPrepare tag p => exact done (takeKind_loose hP _ _ _ _ (fun _ _ h => h) h) he
  | resetNow tag p => exact done (takeKind_loose hP _ _ _ _ (fun _ _ h => resetNow_loose hP _ h) h) he
  | resetLineAsserted => exact done (hP.setSupply _ _ (stopActivity_loose hP h)) he
  | powerLoss => exact done (hP.setSupply _ _ (stopActivity_loose hP h)) he

end

end Sys2Proof.Machine
end

