-- ==== Sys2Proof/Laws/State.lean ====
section
/-! SUPPORT. What each update of State does to each field. -/

namespace Sys2Proof.Machine

/-! ## modExt -/

@[simp] theorem modExt_pending (s : State) (x : Nat) (f : ExtRecord → ExtRecord) : (s.modExt x f).pending = s.pending := rfl
@[simp] theorem modExt_supply (s : State) (x : Nat) (f : ExtRecord → ExtRecord) : (s.modExt x f).supply = s.supply := rfl
@[simp] theorem modExt_clock (s : State) (x : Nat) (f : ExtRecord → ExtRecord) : (s.modExt x f).clock = s.clock := rfl
@[simp] theorem modExt_link (s : State) (x : Nat) (f : ExtRecord → ExtRecord) : (s.modExt x f).link = s.link := rfl
@[simp] theorem modExt_exts (s : State) (x : Nat) (f : ExtRecord → ExtRecord) : (s.modExt x f).exts = tabModify s.exts x f := rfl
@[simp] theorem modExt_calls (s : State) (x : Nat) (f : ExtRecord → ExtRecord) : (s.modExt x f).calls = s.calls := rfl
@[simp] theorem modExt_groups (s : State) (x : Nat) (f : ExtRecord → ExtRecord) : (s.modExt x f).groups = s.groups := rfl
@[simp] theorem modExt_fallback (s : State) (x : Nat) (f : ExtRecord → ExtRecord) : (s.modExt x f).fallback = s.fallback := rfl
@[simp] theorem modExt_covered (s : State) (x : Nat) (f : ExtRecord → ExtRecord) : (s.modExt x f).covered = s.covered := rfl
@[simp] theorem modExt_override (s : State) (x : Nat) (f : ExtRecord → ExtRecord) : (s.modExt x f).override = s.override := rfl
@[simp] theorem modExt_pickups (s : State) (x : Nat) (f : ExtRecord → ExtRecord) : (s.modExt x f).pickups = s.pickups := rfl
@[simp] theorem modExt_orbits (s : State) (x : Nat) (f : ExtRecord → ExtRecord) : (s.modExt x f).orbits = s.orbits := rfl
@[simp] theorem modExt_pages (s : State) (x : Nat) (f : ExtRecord → ExtRecord) : (s.modExt x f).pages = s.pages := rfl
@[simp] theorem modExt_lastPageId (s : State) (x : Nat) (f : ExtRecord → ExtRecord) : (s.modExt x f).lastPageId = s.lastPageId := rfl
@[simp] theorem modExt_nextArrival (s : State) (x : Nat) (f : ExtRecord → ExtRecord) : (s.modExt x f).nextArrival = s.nextArrival := rfl
@[simp] theorem modExt_zones (s : State) (x : Nat) (f : ExtRecord → ExtRecord) : (s.modExt x f).zones = s.zones := rfl
@[simp] theorem modExt_zoneSets (s : State) (x : Nat) (f : ExtRecord → ExtRecord) : (s.modExt x f).zoneSets = s.zoneSets := rfl
@[simp] theorem modExt_paging (s : State) (x : Nat) (f : ExtRecord → ExtRecord) : (s.modExt x f).paging = s.paging := rfl
@[simp] theorem modExt_amps (s : State) (x : Nat) (f : ExtRecord → ExtRecord) : (s.modExt x f).amps = s.amps := rfl
@[simp] theorem modExt_exchange (s : State) (x : Nat) (f : ExtRecord → ExtRecord) : (s.modExt x f).exchange = s.exchange := rfl
@[simp] theorem modExt_rotation (s : State) (x : Nat) (f : ExtRecord → ExtRecord) : (s.modExt x f).rotation = s.rotation := rfl
@[simp] theorem modExt_levels (s : State) (x : Nat) (f : ExtRecord → ExtRecord) : (s.modExt x f).levels = s.levels := rfl
@[simp] theorem modExt_inputs (s : State) (x : Nat) (f : ExtRecord → ExtRecord) : (s.modExt x f).inputs = s.inputs := rfl
@[simp] theorem modExt_map (s : State) (x : Nat) (f : ExtRecord → ExtRecord) : (s.modExt x f).map = s.map := rfl
@[simp] theorem modExt_trace (s : State) (x : Nat) (f : ExtRecord → ExtRecord) : (s.modExt x f).trace = s.trace := rfl

/-! ## modGroup -/

@[simp] theorem modGroup_pending (s : State) (g : Nat) (f : GroupRecord → GroupRecord) : (s.modGroup g f).pending = s.pending := rfl
@[simp] theorem modGroup_supply (s : State) (g : Nat) (f : GroupRecord → GroupRecord) : (s.modGroup g f).supply = s.supply := rfl
@[simp] theorem modGroup_clock (s : State) (g : Nat) (f : GroupRecord → GroupRecord) : (s.modGroup g f).clock = s.clock := rfl
@[simp] theorem modGroup_link (s : State) (g : Nat) (f : GroupRecord → GroupRecord) : (s.modGroup g f).link = s.link := rfl
@[simp] theorem modGroup_exts (s : State) (g : Nat) (f : GroupRecord → GroupRecord) : (s.modGroup g f).exts = s.exts := rfl
@[simp] theorem modGroup_calls (s : State) (g : Nat) (f : GroupRecord → GroupRecord) : (s.modGroup g f).calls = s.calls := rfl
@[simp] theorem modGroup_groups (s : State) (g : Nat) (f : GroupRecord → GroupRecord) : (s.modGroup g f).groups = tabModify s.groups g f := rfl
@[simp] theorem modGroup_fallback (s : State) (g : Nat) (f : GroupRecord → GroupRecord) : (s.modGroup g f).fallback = s.fallback := rfl
@[simp] theorem modGroup_covered (s : State) (g : Nat) (f : GroupRecord → GroupRecord) : (s.modGroup g f).covered = s.covered := rfl
@[simp] theorem modGroup_override (s : State) (g : Nat) (f : GroupRecord → GroupRecord) : (s.modGroup g f).override = s.override := rfl
@[simp] theorem modGroup_pickups (s : State) (g : Nat) (f : GroupRecord → GroupRecord) : (s.modGroup g f).pickups = s.pickups := rfl
@[simp] theorem modGroup_orbits (s : State) (g : Nat) (f : GroupRecord → GroupRecord) : (s.modGroup g f).orbits = s.orbits := rfl
@[simp] theorem modGroup_pages (s : State) (g : Nat) (f : GroupRecord → GroupRecord) : (s.modGroup g f).pages = s.pages := rfl
@[simp] theorem modGroup_lastPageId (s : State) (g : Nat) (f : GroupRecord → GroupRecord) : (s.modGroup g f).lastPageId = s.lastPageId := rfl
@[simp] theorem modGroup_nextArrival (s : State) (g : Nat) (f : GroupRecord → GroupRecord) : (s.modGroup g f).nextArrival = s.nextArrival := rfl
@[simp] theorem modGroup_zones (s : State) (g : Nat) (f : GroupRecord → GroupRecord) : (s.modGroup g f).zones = s.zones := rfl
@[simp] theorem modGroup_zoneSets (s : State) (g : Nat) (f : GroupRecord → GroupRecord) : (s.modGroup g f).zoneSets = s.zoneSets := rfl
@[simp] theorem modGroup_paging (s : State) (g : Nat) (f : GroupRecord → GroupRecord) : (s.modGroup g f).paging = s.paging := rfl
@[simp] theorem modGroup_amps (s : State) (g : Nat) (f : GroupRecord → GroupRecord) : (s.modGroup g f).amps = s.amps := rfl
@[simp] theorem modGroup_exchange (s : State) (g : Nat) (f : GroupRecord → GroupRecord) : (s.modGroup g f).exchange = s.exchange := rfl
@[simp] theorem modGroup_rotation (s : State) (g : Nat) (f : GroupRecord → GroupRecord) : (s.modGroup g f).rotation = s.rotation := rfl
@[simp] theorem modGroup_levels (s : State) (g : Nat) (f : GroupRecord → GroupRecord) : (s.modGroup g f).levels = s.levels := rfl
@[simp] theorem modGroup_inputs (s : State) (g : Nat) (f : GroupRecord → GroupRecord) : (s.modGroup g f).inputs = s.inputs := rfl
@[simp] theorem modGroup_map (s : State) (g : Nat) (f : GroupRecord → GroupRecord) : (s.modGroup g f).map = s.map := rfl
@[simp] theorem modGroup_trace (s : State) (g : Nat) (f : GroupRecord → GroupRecord) : (s.modGroup g f).trace = s.trace := rfl

/-! ## modOrbit -/

@[simp] theorem modOrbit_pending (s : State) (o : Nat) (f : OrbitRecord → OrbitRecord) : (s.modOrbit o f).pending = s.pending := rfl
@[simp] theorem modOrbit_supply (s : State) (o : Nat) (f : OrbitRecord → OrbitRecord) : (s.modOrbit o f).supply = s.supply := rfl
@[simp] theorem modOrbit_clock (s : State) (o : Nat) (f : OrbitRecord → OrbitRecord) : (s.modOrbit o f).clock = s.clock := rfl
@[simp] theorem modOrbit_link (s : State) (o : Nat) (f : OrbitRecord → OrbitRecord) : (s.modOrbit o f).link = s.link := rfl
@[simp] theorem modOrbit_exts (s : State) (o : Nat) (f : OrbitRecord → OrbitRecord) : (s.modOrbit o f).exts = s.exts := rfl
@[simp] theorem modOrbit_calls (s : State) (o : Nat) (f : OrbitRecord → OrbitRecord) : (s.modOrbit o f).calls = s.calls := rfl
@[simp] theorem modOrbit_groups (s : State) (o : Nat) (f : OrbitRecord → OrbitRecord) : (s.modOrbit o f).groups = s.groups := rfl
@[simp] theorem modOrbit_fallback (s : State) (o : Nat) (f : OrbitRecord → OrbitRecord) : (s.modOrbit o f).fallback = s.fallback := rfl
@[simp] theorem modOrbit_covered (s : State) (o : Nat) (f : OrbitRecord → OrbitRecord) : (s.modOrbit o f).covered = s.covered := rfl
@[simp] theorem modOrbit_override (s : State) (o : Nat) (f : OrbitRecord → OrbitRecord) : (s.modOrbit o f).override = s.override := rfl
@[simp] theorem modOrbit_pickups (s : State) (o : Nat) (f : OrbitRecord → OrbitRecord) : (s.modOrbit o f).pickups = s.pickups := rfl
@[simp] theorem modOrbit_orbits (s : State) (o : Nat) (f : OrbitRecord → OrbitRecord) : (s.modOrbit o f).orbits = tabModify s.orbits o f := rfl
@[simp] theorem modOrbit_pages (s : State) (o : Nat) (f : OrbitRecord → OrbitRecord) : (s.modOrbit o f).pages = s.pages := rfl
@[simp] theorem modOrbit_lastPageId (s : State) (o : Nat) (f : OrbitRecord → OrbitRecord) : (s.modOrbit o f).lastPageId = s.lastPageId := rfl
@[simp] theorem modOrbit_nextArrival (s : State) (o : Nat) (f : OrbitRecord → OrbitRecord) : (s.modOrbit o f).nextArrival = s.nextArrival := rfl
@[simp] theorem modOrbit_zones (s : State) (o : Nat) (f : OrbitRecord → OrbitRecord) : (s.modOrbit o f).zones = s.zones := rfl
@[simp] theorem modOrbit_zoneSets (s : State) (o : Nat) (f : OrbitRecord → OrbitRecord) : (s.modOrbit o f).zoneSets = s.zoneSets := rfl
@[simp] theorem modOrbit_paging (s : State) (o : Nat) (f : OrbitRecord → OrbitRecord) : (s.modOrbit o f).paging = s.paging := rfl
@[simp] theorem modOrbit_amps (s : State) (o : Nat) (f : OrbitRecord → OrbitRecord) : (s.modOrbit o f).amps = s.amps := rfl
@[simp] theorem modOrbit_exchange (s : State) (o : Nat) (f : OrbitRecord → OrbitRecord) : (s.modOrbit o f).exchange = s.exchange := rfl
@[simp] theorem modOrbit_rotation (s : State) (o : Nat) (f : OrbitRecord → OrbitRecord) : (s.modOrbit o f).rotation = s.rotation := rfl
@[simp] theorem modOrbit_levels (s : State) (o : Nat) (f : OrbitRecord → OrbitRecord) : (s.modOrbit o f).levels = s.levels := rfl
@[simp] theorem modOrbit_inputs (s : State) (o : Nat) (f : OrbitRecord → OrbitRecord) : (s.modOrbit o f).inputs = s.inputs := rfl
@[simp] theorem modOrbit_map (s : State) (o : Nat) (f : OrbitRecord → OrbitRecord) : (s.modOrbit o f).map = s.map := rfl
@[simp] theorem modOrbit_trace (s : State) (o : Nat) (f : OrbitRecord → OrbitRecord) : (s.modOrbit o f).trace = s.trace := rfl

/-! ## modCall -/

@[simp] theorem modCall_pending (s : State) (c : Nat) (f : CallContext → CallContext) : (s.modCall c f).pending = s.pending := rfl
@[simp] theorem modCall_supply (s : State) (c : Nat) (f : CallContext → CallContext) : (s.modCall c f).supply = s.supply := rfl
@[simp] theorem modCall_clock (s : State) (c : Nat) (f : CallContext → CallContext) : (s.modCall c f).clock = s.clock := rfl
@[simp] theorem modCall_link (s : State) (c : Nat) (f : CallContext → CallContext) : (s.modCall c f).link = s.link := rfl
@[simp] theorem modCall_exts (s : State) (c : Nat) (f : CallContext → CallContext) : (s.modCall c f).exts = s.exts := rfl
@[simp] theorem modCall_calls (s : State) (c : Nat) (f : CallContext → CallContext) : (s.modCall c f).calls = s.calls.map (fun k => if k.ref == c then f k else k) := rfl
@[simp] theorem modCall_groups (s : State) (c : Nat) (f : CallContext → CallContext) : (s.modCall c f).groups = s.groups := rfl
@[simp] theorem modCall_fallback (s : State) (c : Nat) (f : CallContext → CallContext) : (s.modCall c f).fallback = s.fallback := rfl
@[simp] theorem modCall_covered (s : State) (c : Nat) (f : CallContext → CallContext) : (s.modCall c f).covered = s.covered := rfl
@[simp] theorem modCall_override (s : State) (c : Nat) (f : CallContext → CallContext) : (s.modCall c f).override = s.override := rfl
@[simp] theorem modCall_pickups (s : State) (c : Nat) (f : CallContext → CallContext) : (s.modCall c f).pickups = s.pickups := rfl
@[simp] theorem modCall_orbits (s : State) (c : Nat) (f : CallContext → CallContext) : (s.modCall c f).orbits = s.orbits := rfl
@[simp] theorem modCall_pages (s : State) (c : Nat) (f : CallContext → CallContext) : (s.modCall c f).pages = s.pages := rfl
@[simp] theorem modCall_lastPageId (s : State) (c : Nat) (f : CallContext → CallContext) : (s.modCall c f).lastPageId = s.lastPageId := rfl
@[simp] theorem modCall_nextArrival (s : State) (c : Nat) (f : CallContext → CallContext) : (s.modCall c f).nextArrival = s.nextArrival := rfl
@[simp] theorem modCall_zones (s : State) (c : Nat) (f : CallContext → CallContext) : (s.modCall c f).zones = s.zones := rfl
@[simp] theorem modCall_zoneSets (s : State) (c : Nat) (f : CallContext → CallContext) : (s.modCall c f).zoneSets = s.zoneSets := rfl
@[simp] theorem modCall_paging (s : State) (c : Nat) (f : CallContext → CallContext) : (s.modCall c f).paging = s.paging := rfl
@[simp] theorem modCall_amps (s : State) (c : Nat) (f : CallContext → CallContext) : (s.modCall c f).amps = s.amps := rfl
@[simp] theorem modCall_exchange (s : State) (c : Nat) (f : CallContext → CallContext) : (s.modCall c f).exchange = s.exchange := rfl
@[simp] theorem modCall_rotation (s : State) (c : Nat) (f : CallContext → CallContext) : (s.modCall c f).rotation = s.rotation := rfl
@[simp] theorem modCall_levels (s : State) (c : Nat) (f : CallContext → CallContext) : (s.modCall c f).levels = s.levels := rfl
@[simp] theorem modCall_inputs (s : State) (c : Nat) (f : CallContext → CallContext) : (s.modCall c f).inputs = s.inputs := rfl
@[simp] theorem modCall_map (s : State) (c : Nat) (f : CallContext → CallContext) : (s.modCall c f).map = s.map := rfl
@[simp] theorem modCall_trace (s : State) (c : Nat) (f : CallContext → CallContext) : (s.modCall c f).trace = s.trace := rfl

/-! ## addCall -/

@[simp] theorem addCall_pending (s : State) (k : CallContext) : (s.addCall k).pending = s.pending := rfl
@[simp] theorem addCall_supply (s : State) (k : CallContext) : (s.addCall k).supply = s.supply := rfl
@[simp] theorem addCall_clock (s : State) (k : CallContext) : (s.addCall k).clock = s.clock := rfl
@[simp] theorem addCall_link (s : State) (k : CallContext) : (s.addCall k).link = s.link := rfl
@[simp] theorem addCall_exts (s : State) (k : CallContext) : (s.addCall k).exts = s.exts := rfl
@[simp] theorem addCall_calls (s : State) (k : CallContext) : (s.addCall k).calls = s.calls ++ [k] := rfl
@[simp] theorem addCall_groups (s : State) (k : CallContext) : (s.addCall k).groups = s.groups := rfl
@[simp] theorem addCall_fallback (s : State) (k : CallContext) : (s.addCall k).fallback = s.fallback := rfl
@[simp] theorem addCall_covered (s : State) (k : CallContext) : (s.addCall k).covered = s.covered := rfl
@[simp] theorem addCall_override (s : State) (k : CallContext) : (s.addCall k).override = s.override := rfl
@[simp] theorem addCall_pickups (s : State) (k : CallContext) : (s.addCall k).pickups = s.pickups := rfl
@[simp] theorem addCall_orbits (s : State) (k : CallContext) : (s.addCall k).orbits = s.orbits := rfl
@[simp] theorem addCall_pages (s : State) (k : CallContext) : (s.addCall k).pages = s.pages := rfl
@[simp] theorem addCall_lastPageId (s : State) (k : CallContext) : (s.addCall k).lastPageId = s.lastPageId := rfl
@[simp] theorem addCall_nextArrival (s : State) (k : CallContext) : (s.addCall k).nextArrival = s.nextArrival := rfl
@[simp] theorem addCall_zones (s : State) (k : CallContext) : (s.addCall k).zones = s.zones := rfl
@[simp] theorem addCall_zoneSets (s : State) (k : CallContext) : (s.addCall k).zoneSets = s.zoneSets := rfl
@[simp] theorem addCall_paging (s : State) (k : CallContext) : (s.addCall k).paging = s.paging := rfl
@[simp] theorem addCall_amps (s : State) (k : CallContext) : (s.addCall k).amps = s.amps := rfl
@[simp] theorem addCall_exchange (s : State) (k : CallContext) : (s.addCall k).exchange = s.exchange := rfl
@[simp] theorem addCall_rotation (s : State) (k : CallContext) : (s.addCall k).rotation = s.rotation := rfl
@[simp] theorem addCall_levels (s : State) (k : CallContext) : (s.addCall k).levels = s.levels := rfl
@[simp] theorem addCall_inputs (s : State) (k : CallContext) : (s.addCall k).inputs = s.inputs := rfl
@[simp] theorem addCall_map (s : State) (k : CallContext) : (s.addCall k).map = s.map := rfl
@[simp] theorem addCall_trace (s : State) (k : CallContext) : (s.addCall k).trace = s.trace := rfl

/-! ## freeCall -/

@[simp] theorem freeCall_pending (s : State) (c : Nat) : (s.freeCall c).pending = s.pending := rfl
@[simp] theorem freeCall_supply (s : State) (c : Nat) : (s.freeCall c).supply = s.supply := rfl
@[simp] theorem freeCall_clock (s : State) (c : Nat) : (s.freeCall c).clock = s.clock := rfl
@[simp] theorem freeCall_link (s : State) (c : Nat) : (s.freeCall c).link = s.link := rfl
@[simp] theorem freeCall_exts (s : State) (c : Nat) : (s.freeCall c).exts = s.exts := rfl
@[simp] theorem freeCall_calls (s : State) (c : Nat) : (s.freeCall c).calls = s.calls.filter (fun k => k.ref != c) := rfl
@[simp] theorem freeCall_groups (s : State) (c : Nat) : (s.freeCall c).groups = s.groups := rfl
@[simp] theorem freeCall_fallback (s : State) (c : Nat) : (s.freeCall c).fallback = s.fallback := rfl
@[simp] theorem freeCall_covered (s : State) (c : Nat) : (s.freeCall c).covered = s.covered := rfl
@[simp] theorem freeCall_override (s : State) (c : Nat) : (s.freeCall c).override = s.override := rfl
@[simp] theorem freeCall_pickups (s : State) (c : Nat) : (s.freeCall c).pickups = s.pickups := rfl
@[simp] theorem freeCall_orbits (s : State) (c : Nat) : (s.freeCall c).orbits = s.orbits := rfl
@[simp] theorem freeCall_pages (s : State) (c : Nat) : (s.freeCall c).pages = s.pages := rfl
@[simp] theorem freeCall_lastPageId (s : State) (c : Nat) : (s.freeCall c).lastPageId = s.lastPageId := rfl
@[simp] theorem freeCall_nextArrival (s : State) (c : Nat) : (s.freeCall c).nextArrival = s.nextArrival := rfl
@[simp] theorem freeCall_zones (s : State) (c : Nat) : (s.freeCall c).zones = s.zones := rfl
@[simp] theorem freeCall_zoneSets (s : State) (c : Nat) : (s.freeCall c).zoneSets = s.zoneSets := rfl
@[simp] theorem freeCall_paging (s : State) (c : Nat) : (s.freeCall c).paging = s.paging := rfl
@[simp] theorem freeCall_amps (s : State) (c : Nat) : (s.freeCall c).amps = s.amps := rfl
@[simp] theorem freeCall_exchange (s : State) (c : Nat) : (s.freeCall c).exchange = s.exchange := rfl
@[simp] theorem freeCall_rotation (s : State) (c : Nat) : (s.freeCall c).rotation = s.rotation := rfl
@[simp] theorem freeCall_levels (s : State) (c : Nat) : (s.freeCall c).levels = s.levels := rfl
@[simp] theorem freeCall_inputs (s : State) (c : Nat) : (s.freeCall c).inputs = s.inputs := rfl
@[simp] theorem freeCall_map (s : State) (c : Nat) : (s.freeCall c).map = s.map := rfl
@[simp] theorem freeCall_trace (s : State) (c : Nat) : (s.freeCall c).trace = s.trace := rfl

/-! ## modPage -/

@[simp] theorem modPage_pending (s : State) (p : Nat) (f : PageRecord → PageRecord) : (s.modPage p f).pending = s.pending := rfl
@[simp] theorem modPage_supply (s : State) (p : Nat) (f : PageRecord → PageRecord) : (s.modPage p f).supply = s.supply := rfl
@[simp] theorem modPage_clock (s : State) (p : Nat) (f : PageRecord → PageRecord) : (s.modPage p f).clock = s.clock := rfl
@[simp] theorem modPage_link (s : State) (p : Nat) (f : PageRecord → PageRecord) : (s.modPage p f).link = s.link := rfl
@[simp] theorem modPage_exts (s : State) (p : Nat) (f : PageRecord → PageRecord) : (s.modPage p f).exts = s.exts := rfl
@[simp] theorem modPage_calls (s : State) (p : Nat) (f : PageRecord → PageRecord) : (s.modPage p f).calls = s.calls := rfl
@[simp] theorem modPage_groups (s : State) (p : Nat) (f : PageRecord → PageRecord) : (s.modPage p f).groups = s.groups := rfl
@[simp] theorem modPage_fallback (s : State) (p : Nat) (f : PageRecord → PageRecord) : (s.modPage p f).fallback = s.fallback := rfl
@[simp] theorem modPage_covered (s : State) (p : Nat) (f : PageRecord → PageRecord) : (s.modPage p f).covered = s.covered := rfl
@[simp] theorem modPage_override (s : State) (p : Nat) (f : PageRecord → PageRecord) : (s.modPage p f).override = s.override := rfl
@[simp] theorem modPage_pickups (s : State) (p : Nat) (f : PageRecord → PageRecord) : (s.modPage p f).pickups = s.pickups := rfl
@[simp] theorem modPage_orbits (s : State) (p : Nat) (f : PageRecord → PageRecord) : (s.modPage p f).orbits = s.orbits := rfl
@[simp] theorem modPage_pages (s : State) (p : Nat) (f : PageRecord → PageRecord) : (s.modPage p f).pages = s.pages.map (fun r => if r.id == p then f r else r) := rfl
@[simp] theorem modPage_lastPageId (s : State) (p : Nat) (f : PageRecord → PageRecord) : (s.modPage p f).lastPageId = s.lastPageId := rfl
@[simp] theorem modPage_nextArrival (s : State) (p : Nat) (f : PageRecord → PageRecord) : (s.modPage p f).nextArrival = s.nextArrival := rfl
@[simp] theorem modPage_zones (s : State) (p : Nat) (f : PageRecord → PageRecord) : (s.modPage p f).zones = s.zones := rfl
@[simp] theorem modPage_zoneSets (s : State) (p : Nat) (f : PageRecord → PageRecord) : (s.modPage p f).zoneSets = s.zoneSets := rfl
@[simp] theorem modPage_paging (s : State) (p : Nat) (f : PageRecord → PageRecord) : (s.modPage p f).paging = s.paging := rfl
@[simp] theorem modPage_amps (s : State) (p : Nat) (f : PageRecord → PageRecord) : (s.modPage p f).amps = s.amps := rfl
@[simp] theorem modPage_exchange (s : State) (p : Nat) (f : PageRecord → PageRecord) : (s.modPage p f).exchange = s.exchange := rfl
@[simp] theorem modPage_rotation (s : State) (p : Nat) (f : PageRecord → PageRecord) : (s.modPage p f).rotation = s.rotation := rfl
@[simp] theorem modPage_levels (s : State) (p : Nat) (f : PageRecord → PageRecord) : (s.modPage p f).levels = s.levels := rfl
@[simp] theorem modPage_inputs (s : State) (p : Nat) (f : PageRecord → PageRecord) : (s.modPage p f).inputs = s.inputs := rfl
@[simp] theorem modPage_map (s : State) (p : Nat) (f : PageRecord → PageRecord) : (s.modPage p f).map = s.map := rfl
@[simp] theorem modPage_trace (s : State) (p : Nat) (f : PageRecord → PageRecord) : (s.modPage p f).trace = s.trace := rfl

/-! ## dropPage -/

@[simp] theorem dropPage_pending (s : State) (p : Nat) : (s.dropPage p).pending = s.pending := rfl
@[simp] theorem dropPage_supply (s : State) (p : Nat) : (s.dropPage p).supply = s.supply := rfl
@[simp] theorem dropPage_clock (s : State) (p : Nat) : (s.dropPage p).clock = s.clock := rfl
@[simp] theorem dropPage_link (s : State) (p : Nat) : (s.dropPage p).link = s.link := rfl
@[simp] theorem dropPage_exts (s : State) (p : Nat) : (s.dropPage p).exts = s.exts := rfl
@[simp] theorem dropPage_calls (s : State) (p : Nat) : (s.dropPage p).calls = s.calls := rfl
@[simp] theorem dropPage_groups (s : State) (p : Nat) : (s.dropPage p).groups = s.groups := rfl
@[simp] theorem dropPage_fallback (s : State) (p : Nat) : (s.dropPage p).fallback = s.fallback := rfl
@[simp] theorem dropPage_covered (s : State) (p : Nat) : (s.dropPage p).covered = s.covered := rfl
@[simp] theorem dropPage_override (s : State) (p : Nat) : (s.dropPage p).override = s.override := rfl
@[simp] theorem dropPage_pickups (s : State) (p : Nat) : (s.dropPage p).pickups = s.pickups := rfl
@[simp] theorem dropPage_orbits (s : State) (p : Nat) : (s.dropPage p).orbits = s.orbits := rfl
@[simp] theorem dropPage_pages (s : State) (p : Nat) : (s.dropPage p).pages = s.pages.filter (fun r => r.id != p) := rfl
@[simp] theorem dropPage_lastPageId (s : State) (p : Nat) : (s.dropPage p).lastPageId = s.lastPageId := rfl
@[simp] theorem dropPage_nextArrival (s : State) (p : Nat) : (s.dropPage p).nextArrival = s.nextArrival := rfl
@[simp] theorem dropPage_zones (s : State) (p : Nat) : (s.dropPage p).zones = s.zones := rfl
@[simp] theorem dropPage_zoneSets (s : State) (p : Nat) : (s.dropPage p).zoneSets = s.zoneSets := rfl
@[simp] theorem dropPage_paging (s : State) (p : Nat) : (s.dropPage p).paging = s.paging := rfl
@[simp] theorem dropPage_amps (s : State) (p : Nat) : (s.dropPage p).amps = s.amps := rfl
@[simp] theorem dropPage_exchange (s : State) (p : Nat) : (s.dropPage p).exchange = s.exchange := rfl
@[simp] theorem dropPage_rotation (s : State) (p : Nat) : (s.dropPage p).rotation = s.rotation := rfl
@[simp] theorem dropPage_levels (s : State) (p : Nat) : (s.dropPage p).levels = s.levels := rfl
@[simp] theorem dropPage_inputs (s : State) (p : Nat) : (s.dropPage p).inputs = s.inputs := rfl
@[simp] theorem dropPage_map (s : State) (p : Nat) : (s.dropPage p).map = s.map := rfl
@[simp] theorem dropPage_trace (s : State) (p : Nat) : (s.dropPage p).trace = s.trace := rfl

/-! ## modZone -/

@[simp] theorem modZone_pending (s : State) (z : Nat) (f : PageZone → PageZone) : (s.modZone z f).pending = s.pending := rfl
@[simp] theorem modZone_supply (s : State) (z : Nat) (f : PageZone → PageZone) : (s.modZone z f).supply = s.supply := rfl
@[simp] theorem modZone_clock (s : State) (z : Nat) (f : PageZone → PageZone) : (s.modZone z f).clock = s.clock := rfl
@[simp] theorem modZone_link (s : State) (z : Nat) (f : PageZone → PageZone) : (s.modZone z f).link = s.link := rfl
@[simp] theorem modZone_exts (s : State) (z : Nat) (f : PageZone → PageZone) : (s.modZone z f).exts = s.exts := rfl
@[simp] theorem modZone_calls (s : State) (z : Nat) (f : PageZone → PageZone) : (s.modZone z f).calls = s.calls := rfl
@[simp] theorem modZone_groups (s : State) (z : Nat) (f : PageZone → PageZone) : (s.modZone z f).groups = s.groups := rfl
@[simp] theorem modZone_fallback (s : State) (z : Nat) (f : PageZone → PageZone) : (s.modZone z f).fallback = s.fallback := rfl
@[simp] theorem modZone_covered (s : State) (z : Nat) (f : PageZone → PageZone) : (s.modZone z f).covered = s.covered := rfl
@[simp] theorem modZone_override (s : State) (z : Nat) (f : PageZone → PageZone) : (s.modZone z f).override = s.override := rfl
@[simp] theorem modZone_pickups (s : State) (z : Nat) (f : PageZone → PageZone) : (s.modZone z f).pickups = s.pickups := rfl
@[simp] theorem modZone_orbits (s : State) (z : Nat) (f : PageZone → PageZone) : (s.modZone z f).orbits = s.orbits := rfl
@[simp] theorem modZone_pages (s : State) (z : Nat) (f : PageZone → PageZone) : (s.modZone z f).pages = s.pages := rfl
@[simp] theorem modZone_lastPageId (s : State) (z : Nat) (f : PageZone → PageZone) : (s.modZone z f).lastPageId = s.lastPageId := rfl
@[simp] theorem modZone_nextArrival (s : State) (z : Nat) (f : PageZone → PageZone) : (s.modZone z f).nextArrival = s.nextArrival := rfl
@[simp] theorem modZone_zones (s : State) (z : Nat) (f : PageZone → PageZone) : (s.modZone z f).zones = tabModify s.zones z f := rfl
@[simp] theorem modZone_zoneSets (s : State) (z : Nat) (f : PageZone → PageZone) : (s.modZone z f).zoneSets = s.zoneSets := rfl
@[simp] theorem modZone_paging (s : State) (z : Nat) (f : PageZone → PageZone) : (s.modZone z f).paging = s.paging := rfl
@[simp] theorem modZone_amps (s : State) (z : Nat) (f : PageZone → PageZone) : (s.modZone z f).amps = s.amps := rfl
@[simp] theorem modZone_exchange (s : State) (z : Nat) (f : PageZone → PageZone) : (s.modZone z f).exchange = s.exchange := rfl
@[simp] theorem modZone_rotation (s : State) (z : Nat) (f : PageZone → PageZone) : (s.modZone z f).rotation = s.rotation := rfl
@[simp] theorem modZone_levels (s : State) (z : Nat) (f : PageZone → PageZone) : (s.modZone z f).levels = s.levels := rfl
@[simp] theorem modZone_inputs (s : State) (z : Nat) (f : PageZone → PageZone) : (s.modZone z f).inputs = s.inputs := rfl
@[simp] theorem modZone_map (s : State) (z : Nat) (f : PageZone → PageZone) : (s.modZone z f).map = s.map := rfl
@[simp] theorem modZone_trace (s : State) (z : Nat) (f : PageZone → PageZone) : (s.modZone z f).trace = s.trace := rfl

/-! ## modAmp -/

@[simp] theorem modAmp_pending (s : State) (z : Nat) (f : AmpState → AmpState) : (s.modAmp z f).pending = s.pending := rfl
@[simp] theorem modAmp_supply (s : State) (z : Nat) (f : AmpState → AmpState) : (s.modAmp z f).supply = s.supply := rfl
@[simp] theorem modAmp_clock (s : State) (z : Nat) (f : AmpState → AmpState) : (s.modAmp z f).clock = s.clock := rfl
@[simp] theorem modAmp_link (s : State) (z : Nat) (f : AmpState → AmpState) : (s.modAmp z f).link = s.link := rfl
@[simp] theorem modAmp_exts (s : State) (z : Nat) (f : AmpState → AmpState) : (s.modAmp z f).exts = s.exts := rfl
@[simp] theorem modAmp_calls (s : State) (z : Nat) (f : AmpState → AmpState) : (s.modAmp z f).calls = s.calls := rfl
@[simp] theorem modAmp_groups (s : State) (z : Nat) (f : AmpState → AmpState) : (s.modAmp z f).groups = s.groups := rfl
@[simp] theorem modAmp_fallback (s : State) (z : Nat) (f : AmpState → AmpState) : (s.modAmp z f).fallback = s.fallback := rfl
@[simp] theorem modAmp_covered (s : State) (z : Nat) (f : AmpState → AmpState) : (s.modAmp z f).covered = s.covered := rfl
@[simp] theorem modAmp_override (s : State) (z : Nat) (f : AmpState → AmpState) : (s.modAmp z f).override = s.override := rfl
@[simp] theorem modAmp_pickups (s : State) (z : Nat) (f : AmpState → AmpState) : (s.modAmp z f).pickups = s.pickups := rfl
@[simp] theorem modAmp_orbits (s : State) (z : Nat) (f : AmpState → AmpState) : (s.modAmp z f).orbits = s.orbits := rfl
@[simp] theorem modAmp_pages (s : State) (z : Nat) (f : AmpState → AmpState) : (s.modAmp z f).pages = s.pages := rfl
@[simp] theorem modAmp_lastPageId (s : State) (z : Nat) (f : AmpState → AmpState) : (s.modAmp z f).lastPageId = s.lastPageId := rfl
@[simp] theorem modAmp_nextArrival (s : State) (z : Nat) (f : AmpState → AmpState) : (s.modAmp z f).nextArrival = s.nextArrival := rfl
@[simp] theorem modAmp_zones (s : State) (z : Nat) (f : AmpState → AmpState) : (s.modAmp z f).zones = s.zones := rfl
@[simp] theorem modAmp_zoneSets (s : State) (z : Nat) (f : AmpState → AmpState) : (s.modAmp z f).zoneSets = s.zoneSets := rfl
@[simp] theorem modAmp_paging (s : State) (z : Nat) (f : AmpState → AmpState) : (s.modAmp z f).paging = s.paging := rfl
@[simp] theorem modAmp_amps (s : State) (z : Nat) (f : AmpState → AmpState) : (s.modAmp z f).amps = tabModify s.amps z f := rfl
@[simp] theorem modAmp_exchange (s : State) (z : Nat) (f : AmpState → AmpState) : (s.modAmp z f).exchange = s.exchange := rfl
@[simp] theorem modAmp_rotation (s : State) (z : Nat) (f : AmpState → AmpState) : (s.modAmp z f).rotation = s.rotation := rfl
@[simp] theorem modAmp_levels (s : State) (z : Nat) (f : AmpState → AmpState) : (s.modAmp z f).levels = s.levels := rfl
@[simp] theorem modAmp_inputs (s : State) (z : Nat) (f : AmpState → AmpState) : (s.modAmp z f).inputs = s.inputs := rfl
@[simp] theorem modAmp_map (s : State) (z : Nat) (f : AmpState → AmpState) : (s.modAmp z f).map = s.map := rfl
@[simp] theorem modAmp_trace (s : State) (z : Nat) (f : AmpState → AmpState) : (s.modAmp z f).trace = s.trace := rfl

/-! ## modLevel -/

@[simp] theorem modLevel_pending (s : State) (z : Nat) (f : LevelState → LevelState) : (s.modLevel z f).pending = s.pending := rfl
@[simp] theorem modLevel_supply (s : State) (z : Nat) (f : LevelState → LevelState) : (s.modLevel z f).supply = s.supply := rfl
@[simp] theorem modLevel_clock (s : State) (z : Nat) (f : LevelState → LevelState) : (s.modLevel z f).clock = s.clock := rfl
@[simp] theorem modLevel_link (s : State) (z : Nat) (f : LevelState → LevelState) : (s.modLevel z f).link = s.link := rfl
@[simp] theorem modLevel_exts (s : State) (z : Nat) (f : LevelState → LevelState) : (s.modLevel z f).exts = s.exts := rfl
@[simp] theorem modLevel_calls (s : State) (z : Nat) (f : LevelState → LevelState) : (s.modLevel z f).calls = s.calls := rfl
@[simp] theorem modLevel_groups (s : State) (z : Nat) (f : LevelState → LevelState) : (s.modLevel z f).groups = s.groups := rfl
@[simp] theorem modLevel_fallback (s : State) (z : Nat) (f : LevelState → LevelState) : (s.modLevel z f).fallback = s.fallback := rfl
@[simp] theorem modLevel_covered (s : State) (z : Nat) (f : LevelState → LevelState) : (s.modLevel z f).covered = s.covered := rfl
@[simp] theorem modLevel_override (s : State) (z : Nat) (f : LevelState → LevelState) : (s.modLevel z f).override = s.override := rfl
@[simp] theorem modLevel_pickups (s : State) (z : Nat) (f : LevelState → LevelState) : (s.modLevel z f).pickups = s.pickups := rfl
@[simp] theorem modLevel_orbits (s : State) (z : Nat) (f : LevelState → LevelState) : (s.modLevel z f).orbits = s.orbits := rfl
@[simp] theorem modLevel_pages (s : State) (z : Nat) (f : LevelState → LevelState) : (s.modLevel z f).pages = s.pages := rfl
@[simp] theorem modLevel_lastPageId (s : State) (z : Nat) (f : LevelState → LevelState) : (s.modLevel z f).lastPageId = s.lastPageId := rfl
@[simp] theorem modLevel_nextArrival (s : State) (z : Nat) (f : LevelState → LevelState) : (s.modLevel z f).nextArrival = s.nextArrival := rfl
@[simp] theorem modLevel_zones (s : State) (z : Nat) (f : LevelState → LevelState) : (s.modLevel z f).zones = s.zones := rfl
@[simp] theorem modLevel_zoneSets (s : State) (z : Nat) (f : LevelState → LevelState) : (s.modLevel z f).zoneSets = s.zoneSets := rfl
@[simp] theorem modLevel_paging (s : State) (z : Nat) (f : LevelState → LevelState) : (s.modLevel z f).paging = s.paging := rfl
@[simp] theorem modLevel_amps (s : State) (z : Nat) (f : LevelState → LevelState) : (s.modLevel z f).amps = s.amps := rfl
@[simp] theorem modLevel_exchange (s : State) (z : Nat) (f : LevelState → LevelState) : (s.modLevel z f).exchange = s.exchange := rfl
@[simp] theorem modLevel_rotation (s : State) (z : Nat) (f : LevelState → LevelState) : (s.modLevel z f).rotation = s.rotation := rfl
@[simp] theorem modLevel_levels (s : State) (z : Nat) (f : LevelState → LevelState) : (s.modLevel z f).levels = tabModify s.levels z f := rfl
@[simp] theorem modLevel_inputs (s : State) (z : Nat) (f : LevelState → LevelState) : (s.modLevel z f).inputs = s.inputs := rfl
@[simp] theorem modLevel_map (s : State) (z : Nat) (f : LevelState → LevelState) : (s.modLevel z f).map = s.map := rfl
@[simp] theorem modLevel_trace (s : State) (z : Nat) (f : LevelState → LevelState) : (s.modLevel z f).trace = s.trace := rfl

/-! ## modInput -/

@[simp] theorem modInput_pending (s : State) (i : Nat) (f : AlarmInput → AlarmInput) : (s.modInput i f).pending = s.pending := rfl
@[simp] theorem modInput_supply (s : State) (i : Nat) (f : AlarmInput → AlarmInput) : (s.modInput i f).supply = s.supply := rfl
@[simp] theorem modInput_clock (s : State) (i : Nat) (f : AlarmInput → AlarmInput) : (s.modInput i f).clock = s.clock := rfl
@[simp] theorem modInput_link (s : State) (i : Nat) (f : AlarmInput → AlarmInput) : (s.modInput i f).link = s.link := rfl
@[simp] theorem modInput_exts (s : State) (i : Nat) (f : AlarmInput → AlarmInput) : (s.modInput i f).exts = s.exts := rfl
@[simp] theorem modInput_calls (s : State) (i : Nat) (f : AlarmInput → AlarmInput) : (s.modInput i f).calls = s.calls := rfl
@[simp] theorem modInput_groups (s : State) (i : Nat) (f : AlarmInput → AlarmInput) : (s.modInput i f).groups = s.groups := rfl
@[simp] theorem modInput_fallback (s : State) (i : Nat) (f : AlarmInput → AlarmInput) : (s.modInput i f).fallback = s.fallback := rfl
@[simp] theorem modInput_covered (s : State) (i : Nat) (f : AlarmInput → AlarmInput) : (s.modInput i f).covered = s.covered := rfl
@[simp] theorem modInput_override (s : State) (i : Nat) (f : AlarmInput → AlarmInput) : (s.modInput i f).override = s.override := rfl
@[simp] theorem modInput_pickups (s : State) (i : Nat) (f : AlarmInput → AlarmInput) : (s.modInput i f).pickups = s.pickups := rfl
@[simp] theorem modInput_orbits (s : State) (i : Nat) (f : AlarmInput → AlarmInput) : (s.modInput i f).orbits = s.orbits := rfl
@[simp] theorem modInput_pages (s : State) (i : Nat) (f : AlarmInput → AlarmInput) : (s.modInput i f).pages = s.pages := rfl
@[simp] theorem modInput_lastPageId (s : State) (i : Nat) (f : AlarmInput → AlarmInput) : (s.modInput i f).lastPageId = s.lastPageId := rfl
@[simp] theorem modInput_nextArrival (s : State) (i : Nat) (f : AlarmInput → AlarmInput) : (s.modInput i f).nextArrival = s.nextArrival := rfl
@[simp] theorem modInput_zones (s : State) (i : Nat) (f : AlarmInput → AlarmInput) : (s.modInput i f).zones = s.zones := rfl
@[simp] theorem modInput_zoneSets (s : State) (i : Nat) (f : AlarmInput → AlarmInput) : (s.modInput i f).zoneSets = s.zoneSets := rfl
@[simp] theorem modInput_paging (s : State) (i : Nat) (f : AlarmInput → AlarmInput) : (s.modInput i f).paging = s.paging := rfl
@[simp] theorem modInput_amps (s : State) (i : Nat) (f : AlarmInput → AlarmInput) : (s.modInput i f).amps = s.amps := rfl
@[simp] theorem modInput_exchange (s : State) (i : Nat) (f : AlarmInput → AlarmInput) : (s.modInput i f).exchange = s.exchange := rfl
@[simp] theorem modInput_rotation (s : State) (i : Nat) (f : AlarmInput → AlarmInput) : (s.modInput i f).rotation = s.rotation := rfl
@[simp] theorem modInput_levels (s : State) (i : Nat) (f : AlarmInput → AlarmInput) : (s.modInput i f).levels = s.levels := rfl
@[simp] theorem modInput_inputs (s : State) (i : Nat) (f : AlarmInput → AlarmInput) : (s.modInput i f).inputs = tabModify s.inputs i f := rfl
@[simp] theorem modInput_map (s : State) (i : Nat) (f : AlarmInput → AlarmInput) : (s.modInput i f).map = s.map := rfl
@[simp] theorem modInput_trace (s : State) (i : Nat) (f : AlarmInput → AlarmInput) : (s.modInput i f).trace = s.trace := rfl

/-! ## emit -/

@[simp] theorem emit_pending (s : State) (f : OutFrame) : (emit f s).pending = s.pending := rfl
@[simp] theorem emit_supply (s : State) (f : OutFrame) : (emit f s).supply = s.supply := rfl
@[simp] theorem emit_clock (s : State) (f : OutFrame) : (emit f s).clock = s.clock := rfl
@[simp] theorem emit_link (s : State) (f : OutFrame) : (emit f s).link = s.link.put f := rfl
@[simp] theorem emit_exts (s : State) (f : OutFrame) : (emit f s).exts = s.exts := rfl
@[simp] theorem emit_calls (s : State) (f : OutFrame) : (emit f s).calls = s.calls := rfl
@[simp] theorem emit_groups (s : State) (f : OutFrame) : (emit f s).groups = s.groups := rfl
@[simp] theorem emit_fallback (s : State) (f : OutFrame) : (emit f s).fallback = s.fallback := rfl
@[simp] theorem emit_covered (s : State) (f : OutFrame) : (emit f s).covered = s.covered := rfl
@[simp] theorem emit_override (s : State) (f : OutFrame) : (emit f s).override = s.override := rfl
@[simp] theorem emit_pickups (s : State) (f : OutFrame) : (emit f s).pickups = s.pickups := rfl
@[simp] theorem emit_orbits (s : State) (f : OutFrame) : (emit f s).orbits = s.orbits := rfl
@[simp] theorem emit_pages (s : State) (f : OutFrame) : (emit f s).pages = s.pages := rfl
@[simp] theorem emit_lastPageId (s : State) (f : OutFrame) : (emit f s).lastPageId = s.lastPageId := rfl
@[simp] theorem emit_nextArrival (s : State) (f : OutFrame) : (emit f s).nextArrival = s.nextArrival := rfl
@[simp] theorem emit_zones (s : State) (f : OutFrame) : (emit f s).zones = s.zones := rfl
@[simp] theorem emit_zoneSets (s : State) (f : OutFrame) : (emit f s).zoneSets = s.zoneSets := rfl
@[simp] theorem emit_paging (s : State) (f : OutFrame) : (emit f s).paging = s.paging := rfl
@[simp] theorem emit_amps (s : State) (f : OutFrame) : (emit f s).amps = s.amps := rfl
@[simp] theorem emit_exchange (s : State) (f : OutFrame) : (emit f s).exchange = s.exchange := rfl
@[simp] theorem emit_rotation (s : State) (f : OutFrame) : (emit f s).rotation = s.rotation := rfl
@[simp] theorem emit_levels (s : State) (f : OutFrame) : (emit f s).levels = s.levels := rfl
@[simp] theorem emit_inputs (s : State) (f : OutFrame) : (emit f s).inputs = s.inputs := rfl
@[simp] theorem emit_map (s : State) (f : OutFrame) : (emit f s).map = s.map := rfl
@[simp] theorem emit_trace (s : State) (f : OutFrame) : (emit f s).trace = s.trace := rfl

/-! ## direct -/

@[simp] theorem direct_pending (s : State) (d : Directive) : (direct d s).pending = s.pending := rfl
@[simp] theorem direct_supply (s : State) (d : Directive) : (direct d s).supply = s.supply := rfl
@[simp] theorem direct_clock (s : State) (d : Directive) : (direct d s).clock = s.clock := rfl
@[simp] theorem direct_link (s : State) (d : Directive) : (direct d s).link = s.link.put (.directive d) := rfl
@[simp] theorem direct_exts (s : State) (d : Directive) : (direct d s).exts = s.exts := rfl
@[simp] theorem direct_calls (s : State) (d : Directive) : (direct d s).calls = s.calls := rfl
@[simp] theorem direct_groups (s : State) (d : Directive) : (direct d s).groups = s.groups := rfl
@[simp] theorem direct_fallback (s : State) (d : Directive) : (direct d s).fallback = s.fallback := rfl
@[simp] theorem direct_covered (s : State) (d : Directive) : (direct d s).covered = s.covered := rfl
@[simp] theorem direct_override (s : State) (d : Directive) : (direct d s).override = s.override := rfl
@[simp] theorem direct_pickups (s : State) (d : Directive) : (direct d s).pickups = s.pickups := rfl
@[simp] theorem direct_orbits (s : State) (d : Directive) : (direct d s).orbits = s.orbits := rfl
@[simp] theorem direct_pages (s : State) (d : Directive) : (direct d s).pages = s.pages := rfl
@[simp] theorem direct_lastPageId (s : State) (d : Directive) : (direct d s).lastPageId = s.lastPageId := rfl
@[simp] theorem direct_nextArrival (s : State) (d : Directive) : (direct d s).nextArrival = s.nextArrival := rfl
@[simp] theorem direct_zones (s : State) (d : Directive) : (direct d s).zones = s.zones := rfl
@[simp] theorem direct_zoneSets (s : State) (d : Directive) : (direct d s).zoneSets = s.zoneSets := rfl
@[simp] theorem direct_paging (s : State) (d : Directive) : (direct d s).paging = s.paging := rfl
@[simp] theorem direct_amps (s : State) (d : Directive) : (direct d s).amps = s.amps := rfl
@[simp] theorem direct_exchange (s : State) (d : Directive) : (direct d s).exchange = s.exchange := rfl
@[simp] theorem direct_rotation (s : State) (d : Directive) : (direct d s).rotation = s.rotation := rfl
@[simp] theorem direct_levels (s : State) (d : Directive) : (direct d s).levels = s.levels := rfl
@[simp] theorem direct_inputs (s : State) (d : Directive) : (direct d s).inputs = s.inputs := rfl
@[simp] theorem direct_map (s : State) (d : Directive) : (direct d s).map = s.map := rfl
@[simp] theorem direct_trace (s : State) (d : Directive) : (direct d s).trace = s.trace := rfl

/-! ## notify -/

@[simp] theorem notify_pending (s : State) (n : Notice) : (notify n s).pending = s.pending := rfl
@[simp] theorem notify_supply (s : State) (n : Notice) : (notify n s).supply = s.supply := rfl
@[simp] theorem notify_clock (s : State) (n : Notice) : (notify n s).clock = s.clock := rfl
@[simp] theorem notify_link (s : State) (n : Notice) : (notify n s).link = s.link.put (.notice n) := rfl
@[simp] theorem notify_exts (s : State) (n : Notice) : (notify n s).exts = s.exts := rfl
@[simp] theorem notify_calls (s : State) (n : Notice) : (notify n s).calls = s.calls := rfl
@[simp] theorem notify_groups (s : State) (n : Notice) : (notify n s).groups = s.groups := rfl
@[simp] theorem notify_fallback (s : State) (n : Notice) : (notify n s).fallback = s.fallback := rfl
@[simp] theorem notify_covered (s : State) (n : Notice) : (notify n s).covered = s.covered := rfl
@[simp] theorem notify_override (s : State) (n : Notice) : (notify n s).override = s.override := rfl
@[simp] theorem notify_pickups (s : State) (n : Notice) : (notify n s).pickups = s.pickups := rfl
@[simp] theorem notify_orbits (s : State) (n : Notice) : (notify n s).orbits = s.orbits := rfl
@[simp] theorem notify_pages (s : State) (n : Notice) : (notify n s).pages = s.pages := rfl
@[simp] theorem notify_lastPageId (s : State) (n : Notice) : (notify n s).lastPageId = s.lastPageId := rfl
@[simp] theorem notify_nextArrival (s : State) (n : Notice) : (notify n s).nextArrival = s.nextArrival := rfl
@[simp] theorem notify_zones (s : State) (n : Notice) : (notify n s).zones = s.zones := rfl
@[simp] theorem notify_zoneSets (s : State) (n : Notice) : (notify n s).zoneSets = s.zoneSets := rfl
@[simp] theorem notify_paging (s : State) (n : Notice) : (notify n s).paging = s.paging := rfl
@[simp] theorem notify_amps (s : State) (n : Notice) : (notify n s).amps = s.amps := rfl
@[simp] theorem notify_exchange (s : State) (n : Notice) : (notify n s).exchange = s.exchange := rfl
@[simp] theorem notify_rotation (s : State) (n : Notice) : (notify n s).rotation = s.rotation := rfl
@[simp] theorem notify_levels (s : State) (n : Notice) : (notify n s).levels = s.levels := rfl
@[simp] theorem notify_inputs (s : State) (n : Notice) : (notify n s).inputs = s.inputs := rfl
@[simp] theorem notify_map (s : State) (n : Notice) : (notify n s).map = s.map := rfl
@[simp] theorem notify_trace (s : State) (n : Notice) : (notify n s).trace = s.trace := rfl

end Sys2Proof.Machine
end

