-- ==== Sys2Proof/Laws/Tables.lean ====
section
/-! SUPPORT. Reading and changing the tables: one lemma for what each operation can do. -/

namespace Sys2Proof.Machine

variable {α β : Type} {n : Nat}

theorem tabGet_lt (v : Vector α n) (d : α) {i : Nat} (h : i < n) : tabGet v i d = v[i] := by simp [tabGet, h]

theorem tabGet_ge (v : Vector α n) (d : α) {i : Nat} (h : n ≤ i) : tabGet v i d = d := by
  simp [tabGet, Nat.not_lt.mpr h]

/-- Reading after a change: the changed entry is `f` of what it was, every other is as it was. -/
theorem tabGet_tabModify (v : Vector α n) (i j : Nat) (f : α → α) (d : α) :
    tabGet (tabModify v i f) j d = if i = j ∧ j < n then f (tabGet v j d) else tabGet v j d := by
  unfold tabGet tabModify
  by_cases hi : i < n
  · by_cases hj : j < n
    · by_cases hij : i = j
      · subst hij; simp [hi]
      · simp [hi, hj, hij, Vector.getElem_set_ne]
    · simp [hj]
  · by_cases hij : i = j
    · subst hij; simp [hi]
    · simp [hi, hij]

theorem tabGet_tabModify_same (v : Vector α n) {i : Nat} (f : α → α) (d : α) (h : i < n) :
    tabGet (tabModify v i f) i d = f (tabGet v i d) := by simp [tabGet_tabModify, h]

theorem tabGet_tabModify_other (v : Vector α n) {i j : Nat} (f : α → α) (d : α) (h : i ≠ j) :
    tabGet (tabModify v i f) j d = tabGet v j d := by simp [tabGet_tabModify, h]

theorem tabGet_tabMap (f : α → β) (v : Vector α n) (i : Nat) (d : α) :
    tabGet (tabMap f v) i (f d) = f (tabGet v i d) := by
  unfold tabGet tabMap
  split <;> simp

theorem tabGet_tabBuild (f : Nat → α) (i : Nat) (d : α) :
    tabGet (tabBuild n f) i d = if i < n then f i else d := by
  unfold tabGet tabBuild
  split <;> simp

theorem tabModify_id (v : Vector α n) (i : Nat) : tabModify v i (fun x => x) = v := by
  unfold tabModify
  split <;> simp

theorem tabGet_replicate (a : α) (i : Nat) (d : α) : tabGet (Vector.replicate n a) i d = if i < n then a else d := by
  unfold tabGet
  split <;> simp

/-- What `firstBest` finds stands in the list. -/
theorem firstBest_mem {better : α → α → Bool} {l : List α} {a : α} (h : firstBest better l = some a) : a ∈ l := by
  cases l with
  | nil => simp [firstBest] at h
  | cons b rest =>
    simp only [firstBest, Option.some.injEq] at h
    subst h
    suffices ∀ (l : List α) (b : α), l.foldl (fun best b => if better b best then b else best) b ∈ b :: l by
      exact this rest b
    intro l
    induction l with
    | nil => intro b; simp
    | cons c l ih =>
      intro b
      simp only [List.foldl_cons]
      have := ih (if better c b then c else b)
      by_cases hb : better c b <;> simp only [hb, if_true, Bool.false_eq_true, if_false] at this ⊢ <;>
        simp at this ⊢ <;> tauto

theorem firstBest_eq_none {better : α → α → Bool} {l : List α} : firstBest better l = none ↔ l = [] := by
  cases l <;> simp [firstBest]

end Sys2Proof.Machine
end

