-- ==== Sys2Proof/Laws/Views.lean ====
section
/-! SUPPORT. What the views of State read after each primitive change, and how changes of one table compose. -/

namespace Sys2Proof.Machine

theorem tabModify_tabModify {α : Type} {n : Nat} (v : Vector α n) (i : Nat) (f g : α → α) :
    tabModify (tabModify v i f) i g = tabModify v i fun a => g (f a) := by
  unfold tabModify
  split
  · simp
  · rfl

theorem tabModify_congr {α : Type} {n : Nat} {v : Vector α n} {i : Nat} {f g : α → α} {d : α}
    (h : f (tabGet v i d) = g (tabGet v i d)) : tabModify v i f = tabModify v i g := by
  unfold tabModify
  split
  · rename_i hi
    rw [tabGet_lt v d hi] at h
    simp [h]
  · rfl

/-- Changing an entry to what it was changes nothing. -/
theorem tabModify_self {α : Type} {n : Nat} {v : Vector α n} {i : Nat} {f : α → α} {d : α}
    (h : f (tabGet v i d) = tabGet v i d) : tabModify v i f = v := by
  rw [tabModify_congr (g := fun a => a) h, tabModify_id]

/-! ## Views of the tables -/

theorem ext_modExt (s : State) (i j : Nat) (f : ExtRecord → ExtRecord) :
    (s.modExt i f).ext j = if i = j ∧ j < 1024 then f (s.ext j) else s.ext j := tabGet_tabModify _ _ _ _ _
theorem modExt_modExt (s : State) (i : Nat) (f g : ExtRecord → ExtRecord) :
    (s.modExt i f).modExt i g = s.modExt i fun r => g (f r) := by
  simp only [State.modExt, tabModify_tabModify]
theorem modExt_self {s : State} {i : Nat} {f : ExtRecord → ExtRecord} (h : f (s.ext i) = s.ext i) : s.modExt i f = s := by
  unfold State.modExt
  rw [tabModify_self h]
theorem modExt_congr {s : State} {i : Nat} {f g : ExtRecord → ExtRecord} (h : f (s.ext i) = g (s.ext i)) :
    s.modExt i f = s.modExt i g := by
  unfold State.modExt
  rw [tabModify_congr h]

theorem group_modGroup (s : State) (i j : Nat) (f : GroupRecord → GroupRecord) :
    (s.modGroup i f).group j = if i = j ∧ j < 64 then f (s.group j) else s.group j := tabGet_tabModify _ _ _ _ _
theorem modGroup_modGroup (s : State) (i : Nat) (f g : GroupRecord → GroupRecord) :
    (s.modGroup i f).modGroup i g = s.modGroup i fun r => g (f r) := by
  simp only [State.modGroup, tabModify_tabModify]
theorem modGroup_self {s : State} {i : Nat} {f : GroupRecord → GroupRecord} (h : f (s.group i) = s.group i) : s.modGroup i f = s := by
  unfold State.modGroup
  rw [tabModify_self h]
theorem modGroup_congr {s : State} {i : Nat} {f g : GroupRecord → GroupRecord} (h : f (s.group i) = g (s.group i)) :
    s.modGroup i f = s.modGroup i g := by
  unfold State.modGroup
  rw [tabModify_congr h]

theorem orbit_modOrbit (s : State) (i j : Nat) (f : OrbitRecord → OrbitRecord) :
    (s.modOrbit i f).orbit j = if i = j ∧ j < 32 then f (s.orbit j) else s.orbit j := tabGet_tabModify _ _ _ _ _
theorem modOrbit_modOrbit (s : State) (i : Nat) (f g : OrbitRecord → OrbitRecord) :
    (s.modOrbit i f).modOrbit i g = s.modOrbit i fun r => g (f r) := by
  simp only [State.modOrbit, tabModify_tabModify]
theorem modOrbit_self {s : State} {i : Nat} {f : OrbitRecord → OrbitRecord} (h : f (s.orbit i) = s.orbit i) : s.modOrbit i f = s := by
  unfold State.modOrbit
  rw [tabModify_self h]
theorem modOrbit_congr {s : State} {i : Nat} {f g : OrbitRecord → OrbitRecord} (h : f (s.orbit i) = g (s.orbit i)) :
    s.modOrbit i f = s.modOrbit i g := by
  unfold State.modOrbit
  rw [tabModify_congr h]

theorem zone_modZone (s : State) (i j : Nat) (f : PageZone → PageZone) :
    (s.modZone i f).zone j = if i = j ∧ j < 64 then f (s.zone j) else s.zone j := tabGet_tabModify _ _ _ _ _
theorem modZone_modZone (s : State) (i : Nat) (f g : PageZone → PageZone) :
    (s.modZone i f).modZone i g = s.modZone i fun r => g (f r) := by
  simp only [State.modZone, tabModify_tabModify]
theorem modZone_self {s : State} {i : Nat} {f : PageZone → PageZone} (h : f (s.zone i) = s.zone i) : s.modZone i f = s := by
  unfold State.modZone
  rw [tabModify_self h]
theorem modZone_congr {s : State} {i : Nat} {f g : PageZone → PageZone} (h : f (s.zone i) = g (s.zone i)) :
    s.modZone i f = s.modZone i g := by
  unfold State.modZone
  rw [tabModify_congr h]

theorem amp_modAmp (s : State) (i j : Nat) (f : AmpState → AmpState) :
    (s.modAmp i f).amp j = if i = j ∧ j < 64 then f (s.amp j) else s.amp j := tabGet_tabModify _ _ _ _ _
theorem modAmp_modAmp (s : State) (i : Nat) (f g : AmpState → AmpState) :
    (s.modAmp i f).modAmp i g = s.modAmp i fun r => g (f r) := by
  simp only [State.modAmp, tabModify_tabModify]
theorem modAmp_self {s : State} {i : Nat} {f : AmpState → AmpState} (h : f (s.amp i) = s.amp i) : s.modAmp i f = s := by
  unfold State.modAmp
  rw [tabModify_self h]
theorem modAmp_congr {s : State} {i : Nat} {f g : AmpState → AmpState} (h : f (s.amp i) = g (s.amp i)) :
    s.modAmp i f = s.modAmp i g := by
  unfold State.modAmp
  rw [tabModify_congr h]

theorem level_modLevel (s : State) (i j : Nat) (f : LevelState → LevelState) :
    (s.modLevel i f).level j = if i = j ∧ j < 64 then f (s.level j) else s.level j := tabGet_tabModify _ _ _ _ _
theorem modLevel_modLevel (s : State) (i : Nat) (f g : LevelState → LevelState) :
    (s.modLevel i f).modLevel i g = s.modLevel i fun r => g (f r) := by
  simp only [State.modLevel, tabModify_tabModify]
theorem modLevel_self {s : State} {i : Nat} {f : LevelState → LevelState} (h : f (s.level i) = s.level i) : s.modLevel i f = s := by
  unfold State.modLevel
  rw [tabModify_self h]
theorem modLevel_congr {s : State} {i : Nat} {f g : LevelState → LevelState} (h : f (s.level i) = g (s.level i)) :
    s.modLevel i f = s.modLevel i g := by
  unfold State.modLevel
  rw [tabModify_congr h]

theorem input_modInput (s : State) (i j : Nat) (f : AlarmInput → AlarmInput) :
    (s.modInput i f).input j = if i = j ∧ j < 4 then f (s.input j) else s.input j := tabGet_tabModify _ _ _ _ _
theorem modInput_modInput (s : State) (i : Nat) (f g : AlarmInput → AlarmInput) :
    (s.modInput i f).modInput i g = s.modInput i fun r => g (f r) := by
  simp only [State.modInput, tabModify_tabModify]
theorem modInput_self {s : State} {i : Nat} {f : AlarmInput → AlarmInput} (h : f (s.input i) = s.input i) : s.modInput i f = s := by
  unfold State.modInput
  rw [tabModify_self h]
theorem modInput_congr {s : State} {i : Nat} {f g : AlarmInput → AlarmInput} (h : f (s.input i) = g (s.input i)) :
    s.modInput i f = s.modInput i g := by
  unfold State.modInput
  rw [tabModify_congr h]

/-! ## Views after a change of another table -/

@[simp] theorem group_of_modExt (s : State) (i : Nat) (f : ExtRecord → ExtRecord) (j : Nat) : (s.modExt i f).group j = s.group j := rfl
@[simp] theorem orbit_of_modExt (s : State) (i : Nat) (f : ExtRecord → ExtRecord) (j : Nat) : (s.modExt i f).orbit j = s.orbit j := rfl
@[simp] theorem zone_of_modExt (s : State) (i : Nat) (f : ExtRecord → ExtRecord) (j : Nat) : (s.modExt i f).zone j = s.zone j := rfl
@[simp] theorem amp_of_modExt (s : State) (i : Nat) (f : ExtRecord → ExtRecord) (j : Nat) : (s.modExt i f).amp j = s.amp j := rfl
@[simp] theorem level_of_modExt (s : State) (i : Nat) (f : ExtRecord → ExtRecord) (j : Nat) : (s.modExt i f).level j = s.level j := rfl
@[simp] theorem input_of_modExt (s : State) (i : Nat) (f : ExtRecord → ExtRecord) (j : Nat) : (s.modExt i f).input j = s.input j := rfl
@[simp] theorem call_of_modExt (s : State) (i : Nat) (f : ExtRecord → ExtRecord) (j : Nat) : (s.modExt i f).call? j = s.call? j := rfl
@[simp] theorem page_of_modExt (s : State) (i : Nat) (f : ExtRecord → ExtRecord) (j : Nat) : (s.modExt i f).page? j = s.page? j := rfl
@[simp] theorem pickup_of_modExt (s : State) (i : Nat) (f : ExtRecord → ExtRecord) (j : Nat) : (s.modExt i f).pickup j = s.pickup j := rfl
@[simp] theorem zoneSet_of_modExt (s : State) (i : Nat) (f : ExtRecord → ExtRecord) (j : Nat) : (s.modExt i f).zoneSet j = s.zoneSet j := rfl
@[simp] theorem now_of_modExt (s : State) (i : Nat) (f : ExtRecord → ExtRecord) : (s.modExt i f).now = s.now := rfl
@[simp] theorem running_of_modExt (s : State) (i : Nat) (f : ExtRecord → ExtRecord) : (s.modExt i f).running = s.running := rfl
@[simp] theorem after_of_modExt (s : State) (i : Nat) (f : ExtRecord → ExtRecord) (n : Nat) : (s.modExt i f).after n = s.after n := rfl
@[simp] theorem installed_of_modExt (s : State) (i : Nat) (f : ExtRecord → ExtRecord) (z : Nat) : (s.modExt i f).installed z = s.installed z := rfl

@[simp] theorem ext_of_modGroup (s : State) (i : Nat) (f : GroupRecord → GroupRecord) (j : Nat) : (s.modGroup i f).ext j = s.ext j := rfl
@[simp] theorem orbit_of_modGroup (s : State) (i : Nat) (f : GroupRecord → GroupRecord) (j : Nat) : (s.modGroup i f).orbit j = s.orbit j := rfl
@[simp] theorem zone_of_modGroup (s : State) (i : Nat) (f : GroupRecord → GroupRecord) (j : Nat) : (s.modGroup i f).zone j = s.zone j := rfl
@[simp] theorem amp_of_modGroup (s : State) (i : Nat) (f : GroupRecord → GroupRecord) (j : Nat) : (s.modGroup i f).amp j = s.amp j := rfl
@[simp] theorem level_of_modGroup (s : State) (i : Nat) (f : GroupRecord → GroupRecord) (j : Nat) : (s.modGroup i f).level j = s.level j := rfl
@[simp] theorem input_of_modGroup (s : State) (i : Nat) (f : GroupRecord → GroupRecord) (j : Nat) : (s.modGroup i f).input j = s.input j := rfl
@[simp] theorem call_of_modGroup (s : State) (i : Nat) (f : GroupRecord → GroupRecord) (j : Nat) : (s.modGroup i f).call? j = s.call? j := rfl
@[simp] theorem page_of_modGroup (s : State) (i : Nat) (f : GroupRecord → GroupRecord) (j : Nat) : (s.modGroup i f).page? j = s.page? j := rfl
@[simp] theorem pickup_of_modGroup (s : State) (i : Nat) (f : GroupRecord → GroupRecord) (j : Nat) : (s.modGroup i f).pickup j = s.pickup j := rfl
@[simp] theorem zoneSet_of_modGroup (s : State) (i : Nat) (f : GroupRecord → GroupRecord) (j : Nat) : (s.modGroup i f).zoneSet j = s.zoneSet j := rfl
@[simp] theorem now_of_modGroup (s : State) (i : Nat) (f : GroupRecord → GroupRecord) : (s.modGroup i f).now = s.now := rfl
@[simp] theorem running_of_modGroup (s : State) (i : Nat) (f : GroupRecord → GroupRecord) : (s.modGroup i f).running = s.running := rfl
@[simp] theorem after_of_modGroup (s : State) (i : Nat) (f : GroupRecord → GroupRecord) (n : Nat) : (s.modGroup i f).after n = s.after n := rfl
@[simp] theorem installed_of_modGroup (s : State) (i : Nat) (f : GroupRecord → GroupRecord) (z : Nat) : (s.modGroup i f).installed z = s.installed z := rfl

@[simp] theorem ext_of_modOrbit (s : State) (i : Nat) (f : OrbitRecord → OrbitRecord) (j : Nat) : (s.modOrbit i f).ext j = s.ext j := rfl
@[simp] theorem group_of_modOrbit (s : State) (i : Nat) (f : OrbitRecord → OrbitRecord) (j : Nat) : (s.modOrbit i f).group j = s.group j := rfl
@[simp] theorem zone_of_modOrbit (s : State) (i : Nat) (f : OrbitRecord → OrbitRecord) (j : Nat) : (s.modOrbit i f).zone j = s.zone j := rfl
@[simp] theorem amp_of_modOrbit (s : State) (i : Nat) (f : OrbitRecord → OrbitRecord) (j : Nat) : (s.modOrbit i f).amp j = s.amp j := rfl
@[simp] theorem level_of_modOrbit (s : State) (i : Nat) (f : OrbitRecord → OrbitRecord) (j : Nat) : (s.modOrbit i f).level j = s.level j := rfl
@[simp] theorem input_of_modOrbit (s : State) (i : Nat) (f : OrbitRecord → OrbitRecord) (j : Nat) : (s.modOrbit i f).input j = s.input j := rfl
@[simp] theorem call_of_modOrbit (s : State) (i : Nat) (f : OrbitRecord → OrbitRecord) (j : Nat) : (s.modOrbit i f).call? j = s.call? j := rfl
@[simp] theorem page_of_modOrbit (s : State) (i : Nat) (f : OrbitRecord → OrbitRecord) (j : Nat) : (s.modOrbit i f).page? j = s.page? j := rfl
@[simp] theorem pickup_of_modOrbit (s : State) (i : Nat) (f : OrbitRecord → OrbitRecord) (j : Nat) : (s.modOrbit i f).pickup j = s.pickup j := rfl
@[simp] theorem zoneSet_of_modOrbit (s : State) (i : Nat) (f : OrbitRecord → OrbitRecord) (j : Nat) : (s.modOrbit i f).zoneSet j = s.zoneSet j := rfl
@[simp] theorem now_of_modOrbit (s : State) (i : Nat) (f : OrbitRecord → OrbitRecord) : (s.modOrbit i f).now = s.now := rfl
@[simp] theorem running_of_modOrbit (s : State) (i : Nat) (f : OrbitRecord → OrbitRecord) : (s.modOrbit i f).running = s.running := rfl
@[simp] theorem after_of_modOrbit (s : State) (i : Nat) (f : OrbitRecord → OrbitRecord) (n : Nat) : (s.modOrbit i f).after n = s.after n := rfl
@[simp] theorem installed_of_modOrbit (s : State) (i : Nat) (f : OrbitRecord → OrbitRecord) (z : Nat) : (s.modOrbit i f).installed z = s.installed z := rfl

@[simp] theorem ext_of_modZone (s : State) (i : Nat) (f : PageZone → PageZone) (j : Nat) : (s.modZone i f).ext j = s.ext j := rfl
@[simp] theorem group_of_modZone (s : State) (i : Nat) (f : PageZone → PageZone) (j : Nat) : (s.modZone i f).group j = s.group j := rfl
@[simp] theorem orbit_of_modZone (s : State) (i : Nat) (f : PageZone → PageZone) (j : Nat) : (s.modZone i f).orbit j = s.orbit j := rfl
@[simp] theorem amp_of_modZone (s : State) (i : Nat) (f : PageZone → PageZone) (j : Nat) : (s.modZone i f).amp j = s.amp j := rfl
@[simp] theorem level_of_modZone (s : State) (i : Nat) (f : PageZone → PageZone) (j : Nat) : (s.modZone i f).level j = s.level j := rfl
@[simp] theorem input_of_modZone (s : State) (i : Nat) (f : PageZone → PageZone) (j : Nat) : (s.modZone i f).input j = s.input j := rfl
@[simp] theorem call_of_modZone (s : State) (i : Nat) (f : PageZone → PageZone) (j : Nat) : (s.modZone i f).call? j = s.call? j := rfl
@[simp] theorem page_of_modZone (s : State) (i : Nat) (f : PageZone → PageZone) (j : Nat) : (s.modZone i f).page? j = s.page? j := rfl
@[simp] theorem pickup_of_modZone (s : State) (i : Nat) (f : PageZone → PageZone) (j : Nat) : (s.modZone i f).pickup j = s.pickup j := rfl
@[simp] theorem zoneSet_of_modZone (s : State) (i : Nat) (f : PageZone → PageZone) (j : Nat) : (s.modZone i f).zoneSet j = s.zoneSet j := rfl
@[simp] theorem now_of_modZone (s : State) (i : Nat) (f : PageZone → PageZone) : (s.modZone i f).now = s.now := rfl
@[simp] theorem running_of_modZone (s : State) (i : Nat) (f : PageZone → PageZone) : (s.modZone i f).running = s.running := rfl
@[simp] theorem after_of_modZone (s : State) (i : Nat) (f : PageZone → PageZone) (n : Nat) : (s.modZone i f).after n = s.after n := rfl
@[simp] theorem installed_of_modZone (s : State) (i : Nat) (f : PageZone → PageZone) (z : Nat) : (s.modZone i f).installed z = s.installed z := rfl

@[simp] theorem ext_of_modAmp (s : State) (i : Nat) (f : AmpState → AmpState) (j : Nat) : (s.modAmp i f).ext j = s.ext j := rfl
@[simp] theorem group_of_modAmp (s : State) (i : Nat) (f : AmpState → AmpState) (j : Nat) : (s.modAmp i f).group j = s.group j := rfl
@[simp] theorem orbit_of_modAmp (s : State) (i : Nat) (f : AmpState → AmpState) (j : Nat) : (s.modAmp i f).orbit j = s.orbit j := rfl
@[simp] theorem zone_of_modAmp (s : State) (i : Nat) (f : AmpState → AmpState) (j : Nat) : (s.modAmp i f).zone j = s.zone j := rfl
@[simp] theorem level_of_modAmp (s : State) (i : Nat) (f : AmpState → AmpState) (j : Nat) : (s.modAmp i f).level j = s.level j := rfl
@[simp] theorem input_of_modAmp (s : State) (i : Nat) (f : AmpState → AmpState) (j : Nat) : (s.modAmp i f).input j = s.input j := rfl
@[simp] theorem call_of_modAmp (s : State) (i : Nat) (f : AmpState → AmpState) (j : Nat) : (s.modAmp i f).call? j = s.call? j := rfl
@[simp] theorem page_of_modAmp (s : State) (i : Nat) (f : AmpState → AmpState) (j : Nat) : (s.modAmp i f).page? j = s.page? j := rfl
@[simp] theorem pickup_of_modAmp (s : State) (i : Nat) (f : AmpState → AmpState) (j : Nat) : (s.modAmp i f).pickup j = s.pickup j := rfl
@[simp] theorem zoneSet_of_modAmp (s : State) (i : Nat) (f : AmpState → AmpState) (j : Nat) : (s.modAmp i f).zoneSet j = s.zoneSet j := rfl
@[simp] theorem now_of_modAmp (s : State) (i : Nat) (f : AmpState → AmpState) : (s.modAmp i f).now = s.now := rfl
@[simp] theorem running_of_modAmp (s : State) (i : Nat) (f : AmpState → AmpState) : (s.modAmp i f).running = s.running := rfl
@[simp] theorem after_of_modAmp (s : State) (i : Nat) (f : AmpState → AmpState) (n : Nat) : (s.modAmp i f).after n = s.after n := rfl
@[simp] theorem installed_of_modAmp (s : State) (i : Nat) (f : AmpState → AmpState) (z : Nat) : (s.modAmp i f).installed z = s.installed z := rfl

@[simp] theorem ext_of_modLevel (s : State) (i : Nat) (f : LevelState → LevelState) (j : Nat) : (s.modLevel i f).ext j = s.ext j := rfl
@[simp] theorem group_of_modLevel (s : State) (i : Nat) (f : LevelState → LevelState) (j : Nat) : (s.modLevel i f).group j = s.group j := rfl
@[simp] theorem orbit_of_modLevel (s : State) (i : Nat) (f : LevelState → LevelState) (j : Nat) : (s.modLevel i f).orbit j = s.orbit j := rfl
@[simp] theorem zone_of_modLevel (s : State) (i : Nat) (f : LevelState → LevelState) (j : Nat) : (s.modLevel i f).zone j = s.zone j := rfl
@[simp] theorem amp_of_modLevel (s : State) (i : Nat) (f : LevelState → LevelState) (j : Nat) : (s.modLevel i f).amp j = s.amp j := rfl
@[simp] theorem input_of_modLevel (s : State) (i : Nat) (f : LevelState → LevelState) (j : Nat) : (s.modLevel i f).input j = s.input j := rfl
@[simp] theorem call_of_modLevel (s : State) (i : Nat) (f : LevelState → LevelState) (j : Nat) : (s.modLevel i f).call? j = s.call? j := rfl
@[simp] theorem page_of_modLevel (s : State) (i : Nat) (f : LevelState → LevelState) (j : Nat) : (s.modLevel i f).page? j = s.page? j := rfl
@[simp] theorem pickup_of_modLevel (s : State) (i : Nat) (f : LevelState → LevelState) (j : Nat) : (s.modLevel i f).pickup j = s.pickup j := rfl
@[simp] theorem zoneSet_of_modLevel (s : State) (i : Nat) (f : LevelState → LevelState) (j : Nat) : (s.modLevel i f).zoneSet j = s.zoneSet j := rfl
@[simp] theorem now_of_modLevel (s : State) (i : Nat) (f : LevelState → LevelState) : (s.modLevel i f).now = s.now := rfl
@[simp] theorem running_of_modLevel (s : State) (i : Nat) (f : LevelState → LevelState) : (s.modLevel i f).running = s.running := rfl
@[simp] theorem after_of_modLevel (s : State) (i : Nat) (f : LevelState → LevelState) (n : Nat) : (s.modLevel i f).after n = s.after n := rfl
@[simp] theorem installed_of_modLevel (s : State) (i : Nat) (f : LevelState → LevelState) (z : Nat) : (s.modLevel i f).installed z = s.installed z := rfl

@[simp] theorem ext_of_modInput (s : State) (i : Nat) (f : AlarmInput → AlarmInput) (j : Nat) : (s.modInput i f).ext j = s.ext j := rfl
@[simp] theorem group_of_modInput (s : State) (i : Nat) (f : AlarmInput → AlarmInput) (j : Nat) : (s.modInput i f).group j = s.group j := rfl
@[simp] theorem orbit_of_modInput (s : State) (i : Nat) (f : AlarmInput → AlarmInput) (j : Nat) : (s.modInput i f).orbit j = s.orbit j := rfl
@[simp] theorem zone_of_modInput (s : State) (i : Nat) (f : AlarmInput → AlarmInput) (j : Nat) : (s.modInput i f).zone j = s.zone j := rfl
@[simp] theorem amp_of_modInput (s : State) (i : Nat) (f : AlarmInput → AlarmInput) (j : Nat) : (s.modInput i f).amp j = s.amp j := rfl
@[simp] theorem level_of_modInput (s : State) (i : Nat) (f : AlarmInput → AlarmInput) (j : Nat) : (s.modInput i f).level j = s.level j := rfl
@[simp] theorem call_of_modInput (s : State) (i : Nat) (f : AlarmInput → AlarmInput) (j : Nat) : (s.modInput i f).call? j = s.call? j := rfl
@[simp] theorem page_of_modInput (s : State) (i : Nat) (f : AlarmInput → AlarmInput) (j : Nat) : (s.modInput i f).page? j = s.page? j := rfl
@[simp] theorem pickup_of_modInput (s : State) (i : Nat) (f : AlarmInput → AlarmInput) (j : Nat) : (s.modInput i f).pickup j = s.pickup j := rfl
@[simp] theorem zoneSet_of_modInput (s : State) (i : Nat) (f : AlarmInput → AlarmInput) (j : Nat) : (s.modInput i f).zoneSet j = s.zoneSet j := rfl
@[simp] theorem now_of_modInput (s : State) (i : Nat) (f : AlarmInput → AlarmInput) : (s.modInput i f).now = s.now := rfl
@[simp] theorem running_of_modInput (s : State) (i : Nat) (f : AlarmInput → AlarmInput) : (s.modInput i f).running = s.running := rfl
@[simp] theorem after_of_modInput (s : State) (i : Nat) (f : AlarmInput → AlarmInput) (n : Nat) : (s.modInput i f).after n = s.after n := rfl
@[simp] theorem installed_of_modInput (s : State) (i : Nat) (f : AlarmInput → AlarmInput) (z : Nat) : (s.modInput i f).installed z = s.installed z := rfl

@[simp] theorem ext_of_modCall (s : State) (i : Nat) (f : CallContext → CallContext) (j : Nat) : (s.modCall i f).ext j = s.ext j := rfl
@[simp] theorem group_of_modCall (s : State) (i : Nat) (f : CallContext → CallContext) (j : Nat) : (s.modCall i f).group j = s.group j := rfl
@[simp] theorem orbit_of_modCall (s : State) (i : Nat) (f : CallContext → CallContext) (j : Nat) : (s.modCall i f).orbit j = s.orbit j := rfl
@[simp] theorem zone_of_modCall (s : State) (i : Nat) (f : CallContext → CallContext) (j : Nat) : (s.modCall i f).zone j = s.zone j := rfl
@[simp] theorem amp_of_modCall (s : State) (i : Nat) (f : CallContext → CallContext) (j : Nat) : (s.modCall i f).amp j = s.amp j := rfl
@[simp] theorem level_of_modCall (s : State) (i : Nat) (f : CallContext → CallContext) (j : Nat) : (s.modCall i f).level j = s.level j := rfl
@[simp] theorem input_of_modCall (s : State) (i : Nat) (f : CallContext → CallContext) (j : Nat) : (s.modCall i f).input j = s.input j := rfl
@[simp] theorem page_of_modCall (s : State) (i : Nat) (f : CallContext → CallContext) (j : Nat) : (s.modCall i f).page? j = s.page? j := rfl
@[simp] theorem pickup_of_modCall (s : State) (i : Nat) (f : CallContext → CallContext) (j : Nat) : (s.modCall i f).pickup j = s.pickup j := rfl
@[simp] theorem zoneSet_of_modCall (s : State) (i : Nat) (f : CallContext → CallContext) (j : Nat) : (s.modCall i f).zoneSet j = s.zoneSet j := rfl
@[simp] theorem now_of_modCall (s : State) (i : Nat) (f : CallContext → CallContext) : (s.modCall i f).now = s.now := rfl
@[simp] theorem running_of_modCall (s : State) (i : Nat) (f : CallContext → CallContext) : (s.modCall i f).running = s.running := rfl
@[simp] theorem after_of_modCall (s : State) (i : Nat) (f : CallContext → CallContext) (n : Nat) : (s.modCall i f).after n = s.after n := rfl
@[simp] theorem installed_of_modCall (s : State) (i : Nat) (f : CallContext → CallContext) (z : Nat) : (s.modCall i f).installed z = s.installed z := rfl

@[simp] theorem ext_of_emit (s : State) (f : OutFrame) (j : Nat) : (emit f s).ext j = s.ext j := rfl
@[simp] theorem group_of_emit (s : State) (f : OutFrame) (j : Nat) : (emit f s).group j = s.group j := rfl
@[simp] theorem orbit_of_emit (s : State) (f : OutFrame) (j : Nat) : (emit f s).orbit j = s.orbit j := rfl
@[simp] theorem zone_of_emit (s : State) (f : OutFrame) (j : Nat) : (emit f s).zone j = s.zone j := rfl
@[simp] theorem amp_of_emit (s : State) (f : OutFrame) (j : Nat) : (emit f s).amp j = s.amp j := rfl
@[simp] theorem level_of_emit (s : State) (f : OutFrame) (j : Nat) : (emit f s).level j = s.level j := rfl
@[simp] theorem input_of_emit (s : State) (f : OutFrame) (j : Nat) : (emit f s).input j = s.input j := rfl
@[simp] theorem call_of_emit (s : State) (f : OutFrame) (j : Nat) : (emit f s).call? j = s.call? j := rfl
@[simp] theorem page_of_emit (s : State) (f : OutFrame) (j : Nat) : (emit f s).page? j = s.page? j := rfl
@[simp] theorem pickup_of_emit (s : State) (f : OutFrame) (j : Nat) : (emit f s).pickup j = s.pickup j := rfl
@[simp] theorem zoneSet_of_emit (s : State) (f : OutFrame) (j : Nat) : (emit f s).zoneSet j = s.zoneSet j := rfl
@[simp] theorem now_of_emit (s : State) (f : OutFrame) : (emit f s).now = s.now := rfl
@[simp] theorem running_of_emit (s : State) (f : OutFrame) : (emit f s).running = s.running := rfl
@[simp] theorem after_of_emit (s : State) (f : OutFrame) (n : Nat) : (emit f s).after n = s.after n := rfl
@[simp] theorem installed_of_emit (s : State) (f : OutFrame) (z : Nat) : (emit f s).installed z = s.installed z := rfl

@[simp] theorem ext_of_direct (s : State) (d : Directive) (j : Nat) : (direct d s).ext j = s.ext j := rfl
@[simp] theorem group_of_direct (s : State) (d : Directive) (j : Nat) : (direct d s).group j = s.group j := rfl
@[simp] theorem orbit_of_direct (s : State) (d : Directive) (j : Nat) : (direct d s).orbit j = s.orbit j := rfl
@[simp] theorem zone_of_direct (s : State) (d : Directive) (j : Nat) : (direct d s).zone j = s.zone j := rfl
@[simp] theorem amp_of_direct (s : State) (d : Directive) (j : Nat) : (direct d s).amp j = s.amp j := rfl
@[simp] theorem level_of_direct (s : State) (d : Directive) (j : Nat) : (direct d s).level j = s.level j := rfl
@[simp] theorem input_of_direct (s : State) (d : Directive) (j : Nat) : (direct d s).input j = s.input j := rfl
@[simp] theorem call_of_direct (s : State) (d : Directive) (j : Nat) : (direct d s).call? j = s.call? j := rfl
@[simp] theorem page_of_direct (s : State) (d : Directive) (j : Nat) : (direct d s).page? j = s.page? j := rfl
@[simp] theorem pickup_of_direct (s : State) (d : Directive) (j : Nat) : (direct d s).pickup j = s.pickup j := rfl
@[simp] theorem zoneSet_of_direct (s : State) (d : Directive) (j : Nat) : (direct d s).zoneSet j = s.zoneSet j := rfl
@[simp] theorem now_of_direct (s : State) (d : Directive) : (direct d s).now = s.now := rfl
@[simp] theorem running_of_direct (s : State) (d : Directive) : (direct d s).running = s.running := rfl
@[simp] theorem after_of_direct (s : State) (d : Directive) (n : Nat) : (direct d s).after n = s.after n := rfl
@[simp] theorem installed_of_direct (s : State) (d : Directive) (z : Nat) : (direct d s).installed z = s.installed z := rfl

@[simp] theorem ext_of_notify (s : State) (n : Notice) (j : Nat) : (notify n s).ext j = s.ext j := rfl
@[simp] theorem group_of_notify (s : State) (n : Notice) (j : Nat) : (notify n s).group j = s.group j := rfl
@[simp] theorem orbit_of_notify (s : State) (n : Notice) (j : Nat) : (notify n s).orbit j = s.orbit j := rfl
@[simp] theorem zone_of_notify (s : State) (n : Notice) (j : Nat) : (notify n s).zone j = s.zone j := rfl
@[simp] theorem amp_of_notify (s : State) (n : Notice) (j : Nat) : (notify n s).amp j = s.amp j := rfl
@[simp] theorem level_of_notify (s : State) (n : Notice) (j : Nat) : (notify n s).level j = s.level j := rfl
@[simp] theorem input_of_notify (s : State) (n : Notice) (j : Nat) : (notify n s).input j = s.input j := rfl
@[simp] theorem call_of_notify (s : State) (n : Notice) (j : Nat) : (notify n s).call? j = s.call? j := rfl
@[simp] theorem page_of_notify (s : State) (n : Notice) (j : Nat) : (notify n s).page? j = s.page? j := rfl
@[simp] theorem pickup_of_notify (s : State) (n : Notice) (j : Nat) : (notify n s).pickup j = s.pickup j := rfl
@[simp] theorem zoneSet_of_notify (s : State) (n : Notice) (j : Nat) : (notify n s).zoneSet j = s.zoneSet j := rfl
@[simp] theorem now_of_notify (s : State) (n : Notice) : (notify n s).now = s.now := rfl
@[simp] theorem running_of_notify (s : State) (n : Notice) : (notify n s).running = s.running := rfl
@[simp] theorem after_of_notify (s : State) (n : Notice) (u : Nat) : (notify n s).after u = s.after u := rfl
@[simp] theorem installed_of_notify (s : State) (n : Notice) (z : Nat) : (notify n s).installed z = s.installed z := rfl

/-! ## Calls -/

theorem call?_ref {s : State} {c : Nat} {k : CallContext} (h : s.call? c = some k) : k.ref = c := by
  have := List.find?_some h
  simpa using this

theorem find?_map_ref (l : List CallContext) (c d : Nat) (f : CallContext → CallContext)
    (hf : ∀ k, (f k).ref = k.ref) :
    (l.map fun k => if k.ref == c then f k else k).find? (fun k => k.ref == d) =
      (l.find? fun k => k.ref == d).map fun k => if k.ref == c then f k else k := by
  induction l with
  | nil => rfl
  | cons k l ih =>
    have hk : (if k.ref == c then f k else k).ref = k.ref := by split <;> simp [hf]
    simp only [List.map_cons, List.find?_cons, hk, ih]
    split <;> rfl

theorem call?_modCall {s : State} {f : CallContext → CallContext} (c d : Nat) (hf : ∀ k, (f k).ref = k.ref) :
    (s.modCall c f).call? d = (s.call? d).map fun k => if d = c then f k else k := by
  have h := find?_map_ref s.calls c d f hf
  unfold State.modCall State.call?
  rw [h]
  cases hd : s.calls.find? fun k => k.ref == d with
  | none => rfl
  | some k =>
    have : k.ref = d := call?_ref (s := s) hd
    simp [this]

theorem modCall_modCall (s : State) (c : Nat) (f g : CallContext → CallContext) (hf : ∀ k, (f k).ref = k.ref) :
    (s.modCall c f).modCall c g = s.modCall c fun k => g (f k) := by
  simp only [State.modCall, List.map_map]
  congr 1
  refine List.map_congr_left fun k _ => ?_
  by_cases h : k.ref == c <;> simp [h] <;> simp_all

theorem call?_none {s : State} {c : Nat} : s.call? c = none ↔ ∀ k ∈ s.calls, k.ref ≠ c := by
  simp [State.call?]

/-- A change of a call that no context has changes nothing. -/
theorem modCall_none {s : State} {c : Nat} (h : s.call? c = none) (f : CallContext → CallContext) :
    s.modCall c f = s := by
  have := call?_none.mp h
  unfold State.modCall
  have h2 : s.calls.map (fun k => if k.ref == c then f k else k) = s.calls := by
    conv_rhs => rw [← List.map_id s.calls]
    refine List.map_congr_left fun k hk => ?_
    simp [this k hk]
  rw [h2]

/-! ## Records -/

/-- A kept record changes the trace alone. -/
theorem offerThrough_eq (r : TraceRecord) (l : List Nat) (s : State) :
    offerThrough r l s = { s with trace := (offerThrough r l s).trace } := by
  unfold offerThrough; split <;> rfl

/-- What is kept depends on the trace and the groups' trace flags alone. -/
theorem offerThrough_congr {s t : State} (r : TraceRecord) (l : List Nat) (ht : t.trace = s.trace)
    (hg : t.groups = s.groups) : (offerThrough r l t).trace = (offerThrough r l s).trace := by
  have hgr : ∀ g, t.group g = s.group g := fun g => by simp [State.group, hg]
  have hq : qualify t r l = qualify s r l := by simp [qualify, qualifyOverflow, ht, hgr]
  unfold offerThrough
  rw [hq]
  split <;> simp [ht]

end Sys2Proof.Machine
end

