-- ==== Sys2Proof/Laws/Schedule.lean ====
section
/-! SUPPORT. When a scheduling pass has nothing to do, and when a change releases no emergency hold. -/

namespace Sys2Proof.Machine

variable {s : State}

theorem mem_insertBefore {α : Type} (precedes : α → α → Bool) (x y : α) (l : List α) :
    y ∈ insertBefore precedes x l ↔ y = x ∨ y ∈ l := by
  induction l with
  | nil => simp [insertBefore]
  | cons a l ih =>
    simp only [insertBefore]
    split <;> simp [ih, or_left_comm]

theorem mem_sortBy {α : Type} (precedes : α → α → Bool) (y : α) (l : List α) : y ∈ sortBy precedes l ↔ y ∈ l := by
  have h : ∀ (l acc : List α), y ∈ l.foldl (fun acc x => insertBefore (fun a b => !precedes b a) x acc) acc ↔
      y ∈ l ∨ y ∈ acc := by
    intro l
    induction l with
    | nil => simp
    | cons a l ih => intro acc; simp only [List.foldl_cons, ih, mem_insertBefore, List.mem_cons]; tauto
  rw [sortBy, h]; simp

/-- The pages a walk takes are those of the table that meet its condition. -/
theorem mem_pagesInOrder {p : PageRecord → Bool} {r : PageRecord} :
    r ∈ s.pagesInOrder p ↔ r ∈ s.pages ∧ p r = true := by
  simp [State.pagesInOrder, mem_sortBy, List.mem_filter]

/-- A pass in which no candidate can start changes nothing. -/
theorem passWalks_stop (h : ∀ p ∈ s.pages, p.state = .queued ∨ p.state = .suspended → s.canStart p = false) :
    ∀ n, passWalks n s = s
  | 0 => rfl
  | n + 1 => by
    have : s.candidates.find? s.canStart = none := by
      rw [List.find?_eq_none]
      intro p hp
      obtain ⟨h1, h2⟩ := mem_pagesInOrder.1 hp
      simpa using h p h1 (by simpa using h2)
    simp [passWalks, this]

/-- A pass whose walk finds a candidate that can start goes on from its start. -/
theorem passWalks_start {n : Nat} {p : PageRecord} (h : s.candidates.find? s.canStart = some p) :
    passWalks (n + 1) s = passWalks n (startPage p.id s) := by simp [passWalks, h]

/-- Without a LIVE PARTIAL page no zone is joined late. -/
theorem lateJoins_none (h : ∀ p ∈ s.pages, p.state ≠ .live ∨ p.mode ≠ .partially) : lateJoins s = s := by
  have none : ∀ z, (s.pagesInOrder fun p => p.state = .live && p.mode = .partially && zoneIn p.target z
      && s.usableBase p z) = [] := by
    intro z
    rw [List.eq_nil_iff_forall_not_mem]
    intro p hp
    obtain ⟨h1, h2⟩ := mem_pagesInOrder.1 hp
    have := h p h1
    simp_all
  have : ∀ l : List Nat, l.foldl (fun s z =>
      if (s.zone z).state = .idle then
        match (s.pagesInOrder fun p => p.state = .live && p.mode = .partially && zoneIn p.target z
            && s.usableBase p z).head? with
        | Option.none => s
        | some p => liveAtOnce z p.cls (zoneToOpening z p s)
      else s) s = s := by
    intro l
    induction l with
    | nil => rfl
    | cons a l ih => simpa only [List.foldl_cons, none, List.head?_nil, ite_self] using ih
  exact this _

/-- No zone satisfies a condition that no zone meets. -/
theorem zonesWhere_none {p : Nat → Bool} (h : ∀ z, p z = false) : zonesWhere p = 0 := by
  obtain rfl : p = fun _ => false := funext h
  decide

/-- Idle zones give no emergency coverage. -/
theorem covers_none (h : ∀ z, (s.zone z).state = .idle) : zonesWhere s.emergencyCovers = 0 :=
  zonesWhere_none fun z => by simp [State.emergencyCovers, h]

/-- With no page a scheduling pass makes the coverage signals and nothing else. -/
theorem schedule_noPages (h : s.pages = []) : schedule s = signalCoverage s := by
  rw [schedule, passWalks_stop (by simp [h]), lateJoins_none (by simp [h])]

/-- With no page and quiet zones a scheduling pass changes nothing. -/
theorem schedule_quiet (h : s.pages = []) (hq : s.ZonesQuiet) : schedule s = s := by
  rw [schedule_noPages h, signalCoverage, covers_none hq.idle, ← hq.uncovered]

/-- A change that leaves every held group held services none. -/
theorem releasingHolds_keeps {f : State → State} (h : ∀ g, s.held g = true → (f s).held g = true) :
    releasingHolds f s = f s := by
  have : s.heldGroups.filter (fun g => !(f s).held g) = [] := by
    rw [List.filter_eq_nil_iff]
    intro g hg
    simp [h g (by simpa [State.heldGroups] using (List.mem_filter.1 hg).2)]
  simp [releasingHolds, this, serviceAll]

/-- A change that touches no group, no zone set and no coverage services none. -/
theorem releasingHolds_same {f : State → State} (hg : (f s).groups = s.groups) (hz : (f s).zoneSets = s.zoneSets)
    (hc : (f s).covered = s.covered) : releasingHolds f s = f s :=
  releasingHolds_keeps fun g h => by simpa [State.held, State.group, State.zoneSet, hg, hz, hc] using h

/-- While no zone is covered no group is held, and no change of one event can release any. -/
theorem releasingHolds_uncovered {f : State → State} (h : s.covered = 0) : releasingHolds f s = f s :=
  releasingHolds_keeps fun g hg => by
    simp only [State.held, h] at hg
    split at hg <;> simp at hg

end Sys2Proof.Machine
end

