-- ==== Sys2Proof/WellFormed.lean ====
section
/-! DEFINITION. Which commands name something the part has: the ranges of the identifiers table of 00_scope.md. -/

namespace Sys2Proof

/-- A payload fits a frame: 0 to 246 bytes (R186). -/
def payloadFits (p : List Byte) : Bool := p.length ≤ 246

/-- A call reference is 1 to 65,534 (R13). -/
def callRefFits (c : Nat) : Bool := 1 ≤ c && c ≤ 65534

/-- A page id is 1 to 255 (R106). -/
def pageIdFits (p : Nat) : Bool := 1 ≤ p && p ≤ 255

/-- The command's operands lie in the ranges the manual gives them. -/
def Instr.wellFormed : Instr → Bool
  | .powerOn _ => true
  | .pinReset _ => true
  | .linkReset _ => true
  | .frameReceive _ _ p => payloadFits p
  | .frameError _ => true
  | .receiveGapTimeout => true
  | .outputDepart => true
  | .unknownKind _ _ p => payloadFits p
  | .lineReport _ p => payloadFits p
  | .directRing _ p => payloadFits p
  | .callAnswer _ p => payloadFits p
  | .callGone _ p => payloadFits p
  | .callQuery _ p => payloadFits p
  | .groupSet _ p => payloadFits p
  | .membersSet _ p => payloadFits p
  | .presenceStage _ p => payloadFits p
  | .rosterCommit _ p => payloadFits p
  | .rosterQuery _ p => payloadFits p
  | .callArrive _ p => payloadFits p
  | .noAnswerExpiry c => callRefFits c
  | .maximumWaitExpiry c => callRefFits c
  | .fallbackSet _ p => payloadFits p
  | .autoPageDue g => g < 64
  | .pickupAsk _ p => payloadFits p
  | .pickgroupSet _ p => payloadFits p
  | .extSet _ p => payloadFits p
  | .parkAsk _ p => payloadFits p
  | .orbitSet _ p => payloadFits p
  | .parkTimerExpiry o => o < 32
  | .recallRingExpiry o => o < 32
  | .retrieveAsk _ p => payloadFits p
  | .pageAsk _ p => payloadFits p
  | .pageStop _ p => payloadFits p
  | .zonesetSet _ p => payloadFits p
  | .pagingSet _ p => payloadFits p
  | .chimeTimerExpiry z => z < 64
  | .hangTimerExpiry z => z < 64
  | .suspensionTimerExpiry p => pageIdFits p
  | .durationExpiry p => pageIdFits p
  | .zoneReply _ _ _ _ _ => true
  | .zoneReplyTimeout => true
  | .staleTimeExpiry z => z < 64
  | .zoneSet _ p => payloadFits p
  | .levelQuery _ p => payloadFits p
  | .alarmLevelChange i _ => i < 4
  | .debounceExpiry i => i < 4
  | .mapRead _ _ p => payloadFits p
  | .mapArm _ p => payloadFits p
  | .mapWrite _ _ p => payloadFits p
  | .mapProtect _ _ p => payloadFits p
  | .mapWriteComplete _ => true
  | .excludeSet _ p => payloadFits p
  | .rangeHold _ p => payloadFits p
  | .traceSet _ p => payloadFits p
  | .traceClear _ p => payloadFits p
  | .traceRead _ p => payloadFits p
  | .statusQuery _ p => payloadFits p
  | .resetPrepare _ p => payloadFits p
  | .resetNow _ p => payloadFits p
  | .resetLineAsserted => true
  | .powerLoss => true

end Sys2Proof
end

