-- ==== Sys2Proof/Tests/Slice0.lean ====
section
/-! SUPPORT. The model's own tests: well-formedness, worked values of the manual, and for each statement states and
operands that meet its hypotheses, clause by clause, at boundary values. -/

namespace Sys2Proof.Tests

open Sys2Proof Sys2Proof.Machine

-- One test after another: each kernel evaluation waits for the tests above it, and a waiting test holds a thread.
set_option Elab.async false

/-! ## Small states -/

/-- The state after reset once its START-UP notice has left. -/
def quiet : State := { State.reset with link := { State.reset.link with output := [] } }

/-- The state with one request in its queue. -/
def asked (f : Frame) (s : State) : State := { s with link := { s.link with requests := [f] } }

/-- The state with a list of frames in its output queue. -/
def behind (q : List OutFrame) (s : State) : State := { s with link := { s.link with output := q } }

/-- What `view` sees of the state that a command leaves. -/
def seen {α : Type} (c : Instr) (view : State → α) (s : State) : Option α :=
  match exec c s with
  | .next t => some (view t)
  | .fault f => nomatch f
  | .refused _ => none

/-- A request that stands alone in the queue of a running part is taken. -/
theorem asked_takes (f : Frame) {s : State} (h : s.running = true) (hr : s.link.resetAfter = none)
    (ho : s.link.output.length < 40) : (asked f s).Takes f := ⟨h, hr, rfl, ho⟩

/-- Zones that are as they are after a reset are quiet. -/
theorem zones_quiet {s : State} (h : s.zones = State.reset.zones) (hc : s.covered = 0) : s.ZonesQuiet := by
  refine ⟨fun z => ?_, hc⟩
  unfold State.zone
  rw [h]
  simp only [State.reset, tabGet_replicate]
  split <;> rfl

/-- Where zone 63 of quiet tables is changed, every other zone is IDLE. -/
theorem live_alone {s : State} {y : Nat} {f : PageZone → PageZone} (h : y ≠ 63)
    (hz : s.zones = tabModify State.reset.zones 63 f) : (s.zone y).state = .idle := by
  have : (State.reset.zone y).state = .idle := (zones_quiet (s := State.reset) rfl rfl).idle y
  simp only [State.zone, hz]
  rw [tabGet_tabModify_other _ _ _ (Ne.symm h)]
  exact this

/-- A call that rings nothing. -/
def someCall (ref : Nat) (state : CallState) : CallContext :=
  { ref := ref, kind := .hunt, state := state, group := none, priority := 1, waitingSince := 0, tried := []
    passCount := 0, depth := 0, ringing := [], noAnswerDue := none, maxWaitDue := none, connected := none, orbit := none }

/-- A membership with no history. -/
def someMember (x : Nat) (p : Presence) : Membership :=
  { ext := x, weight := 1, credit := 0, programmed := p, effective := p, staged := none, pending := false
    idleTenths := 0 }

/-- A host page of class URGENT for zone 63. -/
def somePage (state : PageState) : PageRecord :=
  { id := 255, alarm := none, cls := .urgent, source := .ext 1023, requester := .host, target := 0x8000000000000000#64
    mode := .partially, suspendAllowed := true, maxDuration := 10, arrival := 0, state := state, channel := some 0
    audioSent := false, durationStarted := false, durationDue := none, suspensionDue := none, endReason := none }

/-! ## Well-formedness -/

/-- Each check refuses a term past its range. -/
theorem test_wellFormed_refuses :
    ∀ c ∈ [Instr.frameReceive 1 0 (List.replicate 247 0), .unknownKind 0 0 (List.replicate 247 0),
      .lineReport 0 (List.replicate 247 0), .directRing 0 (List.replicate 247 0), .callAnswer 0 (List.replicate 247 0),
      .callGone 0 (List.replicate 247 0), .callQuery 0 (List.replicate 247 0), .groupSet 0 (List.replicate 247 0),
      .membersSet 0 (List.replicate 247 0), .presenceStage 0 (List.replicate 247 0),
      .rosterCommit 0 (List.replicate 247 0), .rosterQuery 0 (List.replicate 247 0),
      .callArrive 0 (List.replicate 247 0), .fallbackSet 0 (List.replicate 247 0), .pickupAsk 0 (List.replicate 247 0),
      .pickgroupSet 0 (List.replicate 247 0), .extSet 0 (List.replicate 247 0), .parkAsk 0 (List.replicate 247 0),
      .orbitSet 0 (List.replicate 247 0), .retrieveAsk 0 (List.replicate 247 0), .pageAsk 0 (List.replicate 247 0),
      .pageStop 0 (List.replicate 247 0), .zonesetSet 0 (List.replicate 247 0), .pagingSet 0 (List.replicate 247 0),
      .zoneSet 0 (List.replicate 247 0), .levelQuery 0 (List.replicate 247 0), .mapRead true 0 (List.replicate 247 0),
      .mapArm 0 (List.replicate 247 0), .mapWrite true 0 (List.replicate 247 0),
      .mapProtect true 0 (List.replicate 247 0), .excludeSet 0 (List.replicate 247 0),
      .rangeHold 0 (List.replicate 247 0), .traceSet 0 (List.replicate 247 0), .traceClear 0 (List.replicate 247 0),
      .traceRead 0 (List.replicate 247 0), .statusQuery 0 (List.replicate 247 0),
      .resetPrepare 0 (List.replicate 247 0), .resetNow 0 (List.replicate 247 0), .noAnswerExpiry 0,
      .noAnswerExpiry 65535, .maximumWaitExpiry 0, .maximumWaitExpiry 65535, .autoPageDue 64, .parkTimerExpiry 32,
      .recallRingExpiry 32, .chimeTimerExpiry 64, .hangTimerExpiry 64, .suspensionTimerExpiry 0,
      .suspensionTimerExpiry 256, .durationExpiry 0, .durationExpiry 256, .staleTimeExpiry 64,
      .alarmLevelChange 4 true, .debounceExpiry 4], c.wellFormed = false := by decide +kernel

/-- Terms at the ends of the ranges are well formed. -/
theorem test_wellFormed_accepts :
    ∀ c ∈ [Instr.frameReceive 1 0 (List.replicate 246 0), .statusQuery 0 [], .noAnswerExpiry 1, .noAnswerExpiry 65534,
      .autoPageDue 63, .parkTimerExpiry 31, .chimeTimerExpiry 63, .suspensionTimerExpiry 1, .durationExpiry 255,
      .staleTimeExpiry 63, .alarmLevelChange 3 false, .powerLoss], c.wellFormed = true := by decide +kernel

/-! ## Worked values of the manual -/

/-- The CRC's check value (R186). -/
theorem test_crc : crc16 [0x31, 0x32, 0x33, 0x34, 0x35, 0x36, 0x37, 0x38, 0x39] = 0x29B1#16 := by decide +kernel

/-- The worked encodings of the elapsed count (R178). -/
theorem test_elapsed_encodings :
    [0, 250, 1023, 1024, 1500, 2048, 5000, 5003, 36000, 100000, 131071].map
      (fun c => (elapsedExponent c, elapsedMantissa c, elapsedDecoded (elapsedExponent c) (elapsedMantissa c))) =
    [(0, 0, 0), (0, 250, 250), (0, 1023, 1023), (1, 0, 1024), (1, 476, 1500), (2, 0, 2048), (3, 226, 5000),
      (3, 226, 5000), (6, 101, 36000), (7, 538, 99968), (7, 1023, 131008)] := by decide +kernel

/-- Zone 12 of the level chapter's worked sequence. -/
def bay : State := quiet.modLevel 12 fun l => { l with seeded := true, noise := 1400 }

/-- The gain codes of zone 12: NORMAL 123 held to 120, EMERGENCY 135 (R152, R153). -/
theorem test_gain_codes : bay.gainCode 12 .normal = 120 ∧ bay.gainCode 12 .emergency = 135 := by decide +kernel

/-- The readings of zone 12: q 121 takes the estimate from 1400 to 1410, q 101 from there to 1406 (R149, R150). -/
theorem test_noise_steps :
    ((takeReading 12 121 bay).level 12).noise = 1410 ∧
      ((takeReading 12 101 (takeReading 12 121 bay)).level 12).noise = 1406 := by decide +kernel

/-- The office of zone 3: the floor governs, and the code 60.5 is taken down to 60 (R152, R153). -/
theorem test_office_code :
    (quiet.modLevel 3 fun l => { l with seeded := true, noise := 800 }).gainCode 3 .normal = 60 := by decide +kernel

/-- The six selections of the weighted group: credits after the first (R47). -/
theorem test_weighted_first_choice :
    chosenFrom .weighted 0 [({ someMember 520 .available with credit := 3 }, 0),
      ({ someMember 521 .available with credit := 1 }, 1), ({ someMember 522 .available with credit := 2 }, 2)] =
    [({ someMember 520 .available with credit := 3 }, 0)] := by decide +kernel

/-! ## Steps -/

/-- The pin reset reports its cause, and a closed contact starts its debounce (R156, R194). -/
theorem test_pin_reset :
    seen (.pinReset { straps := 1, closed := 1, storeHolds := false }) (fun t => (t.link.output, t.input 0)) quiet =
      some ([.notice (.startUp .pin .default .anyone false false 1)], AlarmInput.sampled true 0) := by decide +kernel

/-- CALL-ANSWER of an unknown call is refused with NO-SUCH-CALL (R15). -/
theorem test_answer_unknown_call :
    seen (.callAnswer 9 [0, 1, 0, 5]) (·.link.output) quiet =
      some [.reply 0x84 9 (.refused .noSuchCall) .nothing] := by decide +kernel

/-- A taken DIRECT-RING sends RING before its OK (R14). -/
theorem test_direct_ring :
    seen (.directRing 9 [0, 1, 0, 5, 0xFF]) (·.link.output) (quiet.modExt 5 fun r => { r with line := .idle }) =
      some [.directive (.ring 5 1 .direct), .reply 0x83 9 .ok .nothing] := by decide +kernel

/-- The frame of a CALL-QUERY of call 1 is read byte by byte and joins the request queue (R187). -/
theorem test_frame_receive :
    seen (.frameReceive 0x21 7 [0, 1]) (·.link.requests) quiet = some [⟨0x21, 7, [0, 1]⟩] := by decide +kernel

/-- A RING that leaves puts A5h, its length, kind, tag 0, its fields and its CRC on the line (R186, R191). -/
theorem test_ring_bytes :
    (OutFrame.directive (.ring 211 4001 .hunt)).bytes.take 9 = [0xA5, 7, 0x40, 0, 0x00, 0xD3, 0x0F, 0xA1, 0] := by
  decide +kernel

/-! ## The hypotheses of the statements are met -/

theorem witness_StepRunsFrontCommand :
    ({ quiet with pending := [.outputDepart, .powerLoss] } : State).pending = .outputDepart :: [.powerLoss] := rfl

theorem witness_ExecKeepsQueue : ∃ t, exec .outputDepart quiet = .next t := ⟨_, rfl⟩

/-- Waiting within a unit, at its end, and without power; and stopped timers of everything a timer belongs to. -/
theorem witness_TimePassesAndStoppedTimersStay :
    (quiet.pending = [] ∧ quiet.running = true ∧ (quiet.clock + 1) % 100 ≠ 0) ∧
    (({ quiet with clock := 99 } : State).pending = [] ∧ ({ quiet with clock := 99 } : State).running = true ∧
      (({ quiet with clock := 99 } : State).clock + 1) % 100 = 0) ∧
    ({ quiet with supply := { quiet.supply with powered := false } } : State).running = false ∧
    (({ quiet with calls := [someCall 65534 .connected] } : State).call? 65534).bind (·.noAnswerDue) = none ∧
    (({ quiet with calls := [someCall 65534 .connected] } : State).call? 65534).bind (·.maxWaitDue) = none ∧
    (quiet.orbit 31).parkDue = none ∧ (quiet.orbit 31).recallDue = none ∧ (quiet.zone 63).chimeDue = none ∧
    (quiet.zone 63).hangDue = none ∧ (quiet.page? 255).bind (·.suspensionDue) = none ∧
    (({ quiet with pages := [somePage .live] } : State).page? 255).bind (·.durationDue) = none ∧
    (quiet.input 3).debounceDue = none ∧ (quiet.group 63).autoSet = none ∧
    ({ quiet with exchange := none } : State).exchange = none ∧ quiet.map.writing = none ∧
    quiet.link.receiver = .hunting := by decide +kernel

theorem witness_StepKeepsSound : quiet.Sound ∧ ∃ t, step quiet = .next t := by
  refine ⟨⟨⟨by decide, by decide, by decide, by decide⟩, ⟨by decide, by decide, by decide, by decide⟩, fun z => ?_,
    by decide⟩, ⟨_, rfl⟩⟩
  have : quiet.level z = LevelState.atReset := by
    simp only [quiet, State.level, State.reset, tabGet_replicate]; split <;> rfl
  rw [this]
  exact ⟨by decide, by decide⟩

theorem witness_SettingsChangeBySettersOnly :
    (∃ t, exec .outputDepart quiet = .next t) ∧ Instr.outputDepart.startsUp = false ∧
    (∀ tag p, Instr.outputDepart ≠ .pagingSet tag p) ∧ (∀ tag p, Instr.outputDepart ≠ .zonesetSet tag p) ∧
    (∀ tag p, Instr.outputDepart ≠ .pickgroupSet tag p) ∧ ∀ tag p, Instr.outputDepart ≠ .fallbackSet tag p :=
  ⟨⟨_, rfl⟩, rfl, nofun, nofun, nofun, nofun⟩

theorem witness_MapIsGuarded :
    let s : State := { quiet with map := { quiet.map with locked := true, rangeHeld := true } }
    (∃ t, exec .outputDepart s = .next t) ∧ Instr.outputDepart.startsUp = false ∧
    Instr.outputDepart ≠ .mapWriteComplete true ∧ s.map.locked = true ∧ s.map.rangeHeld = true ∧
    (∀ e tag p, Instr.outputDepart ≠ .mapProtect e tag p) ∧ ∀ tag p, Instr.outputDepart ≠ .rangeHold tag p :=
  ⟨⟨_, rfl⟩, rfl, nofun, rfl, rfl, nofun, nofun⟩

/-- Fields at the tops of their ranges, clause by clause. -/
theorem witness_PayloadsReadBack :
    (∃ o : LineReportOp, o = ⟨65535, 255⟩ ∧ o.ext < 65536 ∧ o.state < 256) ∧
    (∃ o : DirectRingOp, o = ⟨65535, 65535, some 254⟩ ∧ o.call < 65536 ∧ o.ext < 65536 ∧
      ∀ p, o.priority = some p → p < 255) ∧
    (∃ o : CallAnswerOp, o = ⟨65535, 65535⟩ ∧ o.call < 65536 ∧ o.ext < 65536) ∧
    (65535 < 65536 ∧ 255 < 256) ∧
    (∃ o : GroupSetOp, o = ⟨255, 255, 255, 65535, 255, 255, 65535, ⟨255, 65535⟩, 255, 255, 255, 255, 255, 255, some 254,
        some 254, 65535⟩ ∧ o.group < 256 ∧ o.configured < 256 ∧ o.discipline < 256 ∧ o.noAnswerTime < 65536 ∧
      o.passLimit < 256 ∧ o.waitingDepth < 256 ∧ o.maximumWait < 65536 ∧ o.overflow.code < 256 ∧
      o.overflow.value < 65536 ∧ o.traceEnable < 256 ∧ o.traceAccept < 256 ∧ o.traceThrough < 256 ∧ o.pickable < 256 ∧
      o.safety < 256 ∧ o.emergencyHold < 256 ∧ (∀ n, o.homeSet = some n → n < 255) ∧
      (∀ n, o.autoSet = some n → n < 255) ∧ o.autoThreshold < 65536) ∧
    (∃ o : RosterQueryOp, o = ⟨255, 255⟩ ∧ o.group < 256 ∧ o.first < 256) ∧
    (∃ o : CallArriveOp, o = ⟨65535, 255, 255, 255⟩ ∧ o.call < 65536 ∧ o.group < 256 ∧ o.priority < 256 ∧
      o.callerClass < 256) ∧
    (∃ c : Option Nat, c = some 65534 ∧ ∀ n, c = some n → n < 65535) ∧
    (∃ o : PickupAskOp, o = ⟨65535, 255, some 65534, some 65534⟩ ∧ o.picker < 65536 ∧ o.mode < 256 ∧
      (∀ n, o.target = some n → n < 65535) ∧ ∀ n, o.expected = some n → n < 65535) ∧
    (∃ o : ExtSetOp, o = ⟨65535, some 254⟩ ∧ o.ext < 65536 ∧ ∀ n, o.pickupGroup = some n → n < 255) ∧
    (∃ o : ParkAskOp, o = ⟨65535, 65535, some 254, 255⟩ ∧ o.call < 65536 ∧ o.parker < 65536 ∧
      (∀ n, o.orbit = some n → n < 255) ∧ o.announce < 256) ∧
    (∃ o : OrbitSetOp, o = ⟨255, 65535, 65535, 255, some 254, some 254⟩ ∧ o.orbit < 256 ∧ o.parkTime < 65536 ∧
      o.recallRingTime < 65536 ∧ o.recallMode < 256 ∧ (∀ n, o.recallGroup = some n → n < 255) ∧
      ∀ n, o.announceSet = some n → n < 255) ∧
    (∃ o : RetrieveAskOp, o = ⟨255, 65535, some 65534⟩ ∧ o.orbit < 256 ∧ o.ext < 65536 ∧
      ∀ n, o.expected = some n → n < 65535) ∧
    (∃ o : PageAskOp, o = ⟨⟨255, 65535⟩, 255, ⟨255, 65535⟩, 255, 255, 65535⟩ ∧ o.source.code < 256 ∧
      o.source.value < 65536 ∧ o.cls < 256 ∧ o.target.code < 256 ∧ o.target.value < 65536 ∧ o.mode < 256 ∧
      o.suspendAllowed < 256 ∧ o.maxDuration < 65536) ∧
    (∃ o : ZoneSetSetOp, o = ⟨255, 1⟩ ∧ o.number < 256) ∧
    (∃ o : PagingSetOp, o = ⟨⟨255, 255, 255, 255⟩, 255, 65535, ⟨-32768, 32767, -32768, 32767⟩⟩ ∧
      o.chime.emergency < 256 ∧ o.chime.urgent < 256 ∧ o.chime.normal < 256 ∧ o.chime.background < 256 ∧
      o.hangTime < 256 ∧ o.suspensionLimit < 65536 ∧ (-32768 ≤ o.margin.emergency ∧ o.margin.emergency ≤ 32767) ∧
      (-32768 ≤ o.margin.urgent ∧ o.margin.urgent ≤ 32767) ∧ (-32768 ≤ o.margin.normal ∧ o.margin.normal ≤ 32767) ∧
      (-32768 ≤ o.margin.background ∧ o.margin.background ≤ 32767)) ∧
    (∃ o : ZoneSetOp, o = ⟨255, 65535, 255, 255, 255, 255, 255, 255, 65535, 255⟩ ∧ o.zone < 256 ∧
      o.initialNoise < 65536 ∧ o.floor < 256 ∧ o.ceiling < 256 ∧ o.minCode < 256 ∧ o.maxCode < 256 ∧
      o.riseFactor < 256 ∧ o.fallFactor < 256 ∧ o.staleTime < 65536 ∧ o.reseed < 256) ∧
    (∃ o : ExcludeSetOp, o = ⟨255, 255, 255, 255⟩ ∧ o.enabled < 256 ∧ o.lower < 256 ∧ o.upper < 256 ∧ o.invert < 256) ∧
    (∃ o : TraceSetOp, o = ⟨65535, 0xFFFF, 255, 255, some 254⟩ ∧ o.depth < 65536 ∧ o.ungrouped < 256 ∧
      o.freezeOnAlarm < 256 ∧ ∀ n, o.control = some n → n < 255) ∧
    (∃ o : TraceReadOp, o = ⟨255, 255⟩ ∧ o.start < 256 ∧ o.count < 256) ∧
    (∃ o : MembersSetOp, o = ⟨255, List.replicate 255 ⟨65535, 255, 255⟩⟩ ∧ o.group < 256 ∧ o.entries.length < 256 ∧
      ∀ e ∈ o.entries, e.ext < 65536 ∧ e.weight < 256 ∧ e.presence < 256) ∧
    (∃ o : PresenceStageOp, o = ⟨255, List.replicate 255 ⟨65535, 255⟩⟩ ∧ o.group < 256 ∧ o.entries.length < 256 ∧
      ∀ e ∈ o.entries, e.ext < 65536 ∧ e.presence < 256) ∧
    (∃ o : PickgroupSetOp, o = ⟨255, 255, 255, List.replicate 255 255⟩ ∧ o.group < 256 ∧ o.configured < 256 ∧
      o.directedOpen < 256 ∧ o.assist.length < 256 ∧ ∀ p ∈ o.assist, p < 256) ∧
    ∃ o : MapWriteOp, o = ⟨1, List.replicate 64 255, List.replicate 4 ⟨255, 1⟩, 255, 255, 255, 255, 255, 255⟩ ∧
      o.sensitivity.length = 64 ∧ (∀ n ∈ o.sensitivity, n < 256) ∧ o.inputs.length = 4 ∧
      (∀ i ∈ o.inputs, i.mode < 256) ∧ o.ceiling < 256 ∧ o.enabled < 256 ∧ o.lower < 256 ∧ o.upper < 256 ∧
      o.invert < 256 ∧ o.protection < 256 := by
  refine ⟨?_, ?_, ?_, ?_, ?_, ?_, ?_, ?_, ?_, ?_, ?_, ?_, ?_, ?_, ?_, ?_, ?_, ?_, ?_, ?_, ?_, ?_, ?_, ?_⟩
  case refine_4 => decide
  all_goals
    refine ⟨_, rfl, ?_⟩
    simp [-List.reduceReplicate, List.mem_replicate]

/-- A frame that joins at the last free place, one dropped at the first full one, and departures with and without room
for OUTPUT-LOST. -/
theorem witness_OutputQueueJoinsAndDeparts :
    let reply : OutFrame := .reply 0x81 0 .ok .nothing
    let notice : OutFrame := .notice .overrideReleased
    let sending (rest : List OutFrame) (lost : Nat) : State :=
      { quiet with link := { quiet.link with output := reply :: rest, lost := lost } }
    ((List.replicate 47 reply).length < 48 ∧ reply.unsolicited = false) ∧
    ((List.replicate 39 notice).length < 48 ∧ unsolicitedCount (List.replicate 39 notice) < 40) ∧
    48 ≤ (List.replicate 48 reply).length ∧
    (notice.unsolicited = true ∧ 40 ≤ unsolicitedCount (List.replicate 40 notice)) ∧
    (∀ lost, (sending (List.replicate 47 reply) lost).running = true ∧
      (sending (List.replicate 47 reply) lost).link.resetAfter = none) ∧
    (List.replicate 47 reply).length < 48 ∧ 40 ≤ unsolicitedCount (List.replicate 40 notice) ∧
    unsolicitedCount (List.replicate 39 notice) < 40 ∧ (sending (List.replicate 39 notice) 255).link.lost ≠ 0 := by
  refine ⟨by decide, by decide, by decide, by decide, fun lost => ⟨rfl, rfl⟩, by decide, by decide, by decide, by decide⟩

/-- A request with a wrong length in front, one that waits behind another, one that waits for the output queue, and one
that finds the queue empty. -/
theorem witness_RequestsAreTakenInOrder :
    let full := behind (List.replicate 40 (.reply 0x81 0 .ok .nothing)) quiet
    (asked ⟨0x22, 7, [0]⟩ quiet).Takes ⟨0x22, 7, [0]⟩ ∧
    (([1, 2] : List Byte).length ≠ 3 ∧ (asked ⟨0x01, 7, [1, 2]⟩ quiet).Takes ⟨0x01, 7, [1, 2]⟩) ∧
    (([] : List Byte).length ≠ 4 * (1 : Byte).toNat ∧ (asked ⟨0x0D, 7, [63, 1]⟩ quiet).Takes ⟨0x0D, 7, [63, 1]⟩) ∧
    ((asked ⟨0x22, 7, []⟩ quiet).running = true ∧ (asked ⟨0x22, 7, []⟩ quiet).link.requests ≠ [] ∧
      (asked ⟨0x22, 7, []⟩ quiet).link.requests.head? ≠ some ⟨0x23, 7, []⟩) ∧
    ((asked ⟨0x23, 7, []⟩ full).link.requests ≠ [] ∧ 40 ≤ full.link.output.length) ∧
    (full.running = true ∧ full.link.resetAfter = none ∧ full.link.requests = []) ∧
    (quiet.link.requests = [] ∧ quiet.link.output.length < 40) := by
  refine ⟨asked_takes _ rfl rfl (by decide), ⟨by decide, asked_takes _ rfl rfl (by decide)⟩,
    ⟨by decide, asked_takes _ rfl rfl (by decide)⟩, by decide, by decide, by decide, by decide⟩

/-- An empty receiver with room for one more request, and with none; the longest payload. -/
theorem witness_FrameReceiveQueuesRequest :
    let three : State := { quiet with link := { quiet.link with requests := List.replicate 3 ⟨0x22, 1, []⟩ } }
    let four : State := { quiet with link := { quiet.link with requests := List.replicate 4 ⟨0x22, 1, []⟩ } }
    (three.running = true ∧ three.link.resetAfter = none ∧ three.link.receiver = .hunting ∧
      (List.replicate 246 (0 : Byte)).length ≤ 246 ∧ three.link.requests.length < 4) ∧
    (four.running = true ∧ four.link.resetAfter = none ∧ four.link.receiver = .hunting ∧
      4 ≤ four.link.requests.length) := ⟨⟨rfl, rfl, rfl, List.length_replicate.le, by decide⟩, rfl, rfl, rfl, by decide⟩

/-- A frame of the shortest and of the longest length with a wrong CRC, a length below and above the range, and a frame
in reception. -/
theorem witness_DamagedFramesAreDiscarded :
    (quiet.running = true ∧ quiet.link.resetAfter = none ∧ quiet.link.receiver = .hunting) ∧
    (2 ≤ (2 : Byte).toNat ∧ ([0x22, 0] : List Byte).length = (2 : Byte).toNat ∧
      crc16 (2 :: [0x22, 0]) ≠ (0 : Byte) ++ (0 : Byte)) ∧
    ((248 : Byte).toNat ≤ 248 ∧ (List.replicate 248 (0 : Byte)).length = (248 : Byte).toNat ∧
      ∃ c1 c0 : Byte, crc16 (248 :: List.replicate 248 0) ≠ c1 ++ c0) ∧
    ((1 : Byte).toNat < 2 ∧ 248 < (249 : Byte).toNat) ∧
    ({ quiet with link := { quiet.link with receiver := .inFrame [2] 0 } } : State).link.receiver = .inFrame [2] 0 := by
  refine ⟨⟨rfl, rfl, rfl⟩, by decide +kernel, ⟨by decide, List.length_replicate, ?_⟩, by decide, rfl⟩
  by_cases h : crc16 (248 :: List.replicate 248 0) = (0 : Byte) ++ (0 : Byte)
  · exact ⟨1, 0, by rw [h]; decide⟩
  · exact ⟨0, 0, h⟩

theorem witness_UnknownKindIsRefused :
    ((0 : Byte).toNat = 0 ∧ (asked ⟨0, 7, [1]⟩ quiet).Takes ⟨0, 7, [1]⟩) ∧
    (36 < (37 : Byte).toNat ∧ (asked ⟨37, 7, []⟩ quiet).Takes ⟨37, 7, []⟩) :=
  ⟨⟨rfl, asked_takes _ rfl rfl (by decide)⟩, by decide, asked_takes _ rfl rfl (by decide)⟩

/-- STATUS-QUERY is taken at the last output length that lets a request be taken. -/
theorem witness_StatusQueryReports :
    (asked ⟨0x22, 7, []⟩ (behind (List.replicate 39 (.reply 0x81 0 .ok .nothing)) quiet)).Takes ⟨0x22, 7, []⟩ :=
  asked_takes _ rfl rfl (by decide)

theorem witness_LinkResetIsPreparedFirst :
    let ready : State := { quiet with link := { quiet.link with prepared := true } }
    (asked ⟨0x23, 7, []⟩ quiet).Takes ⟨0x23, 7, []⟩ ∧
    ((asked ⟨0x24, 7, []⟩ ready).Takes ⟨0x24, 7, []⟩ ∧ (asked ⟨0x24, 7, []⟩ ready).link.prepared = true) ∧
    ((asked ⟨0x24, 7, []⟩ quiet).Takes ⟨0x24, 7, []⟩ ∧ (asked ⟨0x24, 7, []⟩ quiet).link.prepared = false) :=
  ⟨asked_takes _ rfl rfl (by decide), ⟨asked_takes _ rfl rfl (by decide), rfl⟩,
    asked_takes _ rfl rfl (by decide), rfl⟩

theorem witness_PowerOnGivesReset : quiet.supply.resetLow = false := rfl

/-- A due link reset with and without a held range, a pin reset of a part with a good store, with a damaged one and with
a write in flight. -/
theorem witness_StartUpSequence :
    let due : State := { quiet with link := { quiet.link with resetAfter := some 0 } }
    let held : State := { due with map := { due.map with rangeHeld := true, locked := true } }
    let m := EmergencyMap.default
    let good : State := { quiet with map := { quiet.map with store := .copy m (crc16 m.bytes) } }
    (quiet.running = true ∧ quiet.link.resetAfter ≠ some 0) ∧
    (due.running = true ∧ due.link.resetAfter = some 0 ∧ due.map.rangeHeld = false) ∧
    (held.running = true ∧ held.link.resetAfter = some 0 ∧ held.map.rangeHeld = true) ∧
    (good.running = true ∧ good.supply.freshPower = false ∧ good.map.store = .copy m (crc16 m.bytes) ∧
      m.inRange = true ∧ good.map.writing = none) ∧
    (quiet.supply.freshPower = false ∧ quiet.map.store = .damaged) ∧
    ({ good with map := { good.map with writing := some ⟨m, true, 60⟩ } } : State).map.writing ≠ none := by
  refine ⟨by decide, by decide, by decide, ⟨rfl, rfl, rfl, by decide +kernel, rfl⟩, ⟨rfl, rfl⟩, nofun⟩

theorem witness_HeldPartDoesNothing :
    ({ quiet with supply := { quiet.supply with resetLow := true } } : State).running = false ∧
    (Instr.statusQuery 7 []).actsAlways = false := ⟨rfl, rfl⟩

/-- A direct call that rings extension 1023. -/
def directCall : CallContext := { someCall 65534 .ringingDirect with kind := .direct, ringing := [1023] }

/-- The part with that call. -/
def ringingDirect : State :=
  ({ quiet with calls := [directCall] } : State).modExt 1023 fun r => { r with line := .idle, ringing := some 65534 }

/-- An extension and a state past their ranges; a report for an extension without a mark; IDLE and OFFHOOK for one that
a direct call rings. -/
theorem witness_LineReportActsOnLine :
    (LineReportOp.read [4, 0, 0] = some ⟨1024, 0⟩ ∧ (asked ⟨0x01, 7, [4, 0, 0]⟩ quiet).Takes ⟨0x01, 7, [4, 0, 0]⟩) ∧
    (LineReportOp.read [0, 0, 4] = some ⟨0, 4⟩ ∧ (asked ⟨0x01, 7, [0, 0, 4]⟩ quiet).Takes ⟨0x01, 7, [0, 0, 4]⟩) ∧
    (LineReportOp.read [3, 255, 1] = some ⟨1023, 1⟩ ∧
      (asked ⟨0x01, 7, [3, 255, 1]⟩ quiet).Takes ⟨0x01, 7, [3, 255, 1]⟩ ∧
      (1, LineState.offhook) ∈ [(1, LineState.offhook), (2, .inCall), (3, .out)] ∧
      ((asked ⟨0x01, 7, [3, 255, 1]⟩ quiet).ext 1023).ringing = none) ∧
    (LineReportOp.read [3, 255, 3] = some ⟨1023, 3⟩ ∧
      (asked ⟨0x01, 7, [3, 255, 3]⟩ quiet).Takes ⟨0x01, 7, [3, 255, 3]⟩ ∧
      (3, LineState.out) ∈ [(1, LineState.offhook), (2, .inCall), (3, .out)] ∧
      ((asked ⟨0x01, 7, [3, 255, 3]⟩ quiet).ext 1023).ringing = none ∧
      ∀ q ∈ (asked ⟨0x01, 7, [3, 255, 3]⟩ quiet).pages, q.source ≠ .ext 1023) ∧
    (LineReportOp.read [3, 255, 0] = some ⟨1023, 0⟩ ∧
      (asked ⟨0x01, 7, [3, 255, 0]⟩ ringingDirect).Takes ⟨0x01, 7, [3, 255, 0]⟩ ∧
      ((asked ⟨0x01, 7, [3, 255, 0]⟩ ringingDirect).ext 1023).ringing ≠ none ∧
      ∀ q ∈ (asked ⟨0x01, 7, [3, 255, 0]⟩ ringingDirect).pages, q.source ≠ .ext 1023) ∧
    ((asked ⟨0x01, 7, [3, 255, 1]⟩ ringingDirect).Takes ⟨0x01, 7, [3, 255, 1]⟩ ∧
      ((asked ⟨0x01, 7, [3, 255, 1]⟩ ringingDirect).ext 1023).ringing = some 65534 ∧
      (asked ⟨0x01, 7, [3, 255, 1]⟩ ringingDirect).call? 65534 = some directCall ∧
      directCall.state = .ringingDirect) := by
  refine ⟨⟨rfl, asked_takes _ rfl rfl (by decide)⟩, ⟨rfl, asked_takes _ rfl rfl (by decide)⟩,
    ⟨rfl, asked_takes _ rfl rfl (by decide), by decide, by decide +kernel⟩,
    ⟨rfl, asked_takes _ rfl rfl (by decide), by decide, by decide +kernel, by decide +kernel⟩,
    ⟨rfl, asked_takes _ rfl rfl (by decide), by decide +kernel, by decide +kernel⟩,
    asked_takes _ rfl rfl (by decide), by decide +kernel, by decide +kernel, rfl⟩

theorem witness_DirectRingRingsExtension :
    DirectRingOp.read [255, 254, 3, 255, 3] = some ⟨65534, 1023, some 3⟩ ∧
    (asked ⟨0x03, 7, [255, 254, 3, 255, 3]⟩ quiet).Takes ⟨0x03, 7, [255, 254, 3, 255, 3]⟩ :=
  ⟨rfl, asked_takes _ rfl rfl (by decide)⟩

/-- References 0 and 65,535; an unknown call; a known one that does not ring the extension; and one that does. -/
theorem witness_CallAnswerConnectsDirectCall :
    (CallAnswerOp.read [0, 0, 0, 0] = some ⟨0, 0⟩ ∧ (asked ⟨0x04, 7, [0, 0, 0, 0]⟩ quiet).Takes ⟨0x04, 7, [0, 0, 0, 0]⟩) ∧
    CallAnswerOp.read [255, 255, 4, 0] = some ⟨65535, 1024⟩ ∧
    (CallAnswerOp.read [255, 254, 3, 255] = some ⟨65534, 1023⟩ ∧
      (asked ⟨0x04, 7, [255, 254, 3, 255]⟩ quiet).Takes ⟨0x04, 7, [255, 254, 3, 255]⟩ ∧
      (asked ⟨0x04, 7, [255, 254, 3, 255]⟩ quiet).call? 65534 = none) ∧
    (CallAnswerOp.read [255, 254, 3, 254] = some ⟨65534, 1022⟩ ∧
      (asked ⟨0x04, 7, [255, 254, 3, 254]⟩ ringingDirect).Takes ⟨0x04, 7, [255, 254, 3, 254]⟩ ∧
      (asked ⟨0x04, 7, [255, 254, 3, 254]⟩ ringingDirect).call? 65534 ≠ none ∧
      ((asked ⟨0x04, 7, [255, 254, 3, 254]⟩ ringingDirect).ext 1022).ringing ≠ some 65534) ∧
    ((asked ⟨0x04, 7, [255, 254, 3, 255]⟩ ringingDirect).Takes ⟨0x04, 7, [255, 254, 3, 255]⟩ ∧
      ((asked ⟨0x04, 7, [255, 254, 3, 255]⟩ ringingDirect).ext 1023).ringing = some 65534 ∧
      (asked ⟨0x04, 7, [255, 254, 3, 255]⟩ ringingDirect).call? 65534 = some directCall ∧
      directCall.state = .ringingDirect ∧ directCall.ringing = [1023] ∧ directCall.group = none ∧
      directCall.orbit = none) := by
  refine ⟨⟨rfl, asked_takes _ rfl rfl (by decide)⟩, rfl, ⟨rfl, asked_takes _ rfl rfl (by decide), rfl⟩,
    ⟨rfl, asked_takes _ rfl rfl (by decide), by decide +kernel, by decide +kernel⟩,
    asked_takes _ rfl rfl (by decide), by decide +kernel, by decide +kernel, rfl, rfl, rfl, rfl⟩

/-- A call connected to extension 1023. -/
def connectedCall : CallContext := { someCall 65534 .connected with connected := some 1023 }

/-- The part with that call. -/
def talking : State := { quiet with calls := [connectedCall] }

theorem witness_CallGoneFreesCall :
    (readNumber2 [0, 0] = some 0 ∧ (asked ⟨0x05, 7, [0, 0]⟩ quiet).Takes ⟨0x05, 7, [0, 0]⟩) ∧
    (readNumber2 [255, 254] = some 65534 ∧ (asked ⟨0x05, 7, [255, 254]⟩ quiet).Takes ⟨0x05, 7, [255, 254]⟩ ∧
      (asked ⟨0x05, 7, [255, 254]⟩ quiet).call? 65534 = none) ∧
    ((asked ⟨0x05, 7, [255, 254]⟩ talking).Takes ⟨0x05, 7, [255, 254]⟩ ∧
      (asked ⟨0x05, 7, [255, 254]⟩ talking).call? 65534 = some connectedCall ∧ connectedCall.state = .connected) := by
  refine ⟨⟨rfl, asked_takes _ rfl rfl (by decide)⟩, ⟨rfl, asked_takes _ rfl rfl (by decide), rfl⟩,
    asked_takes _ rfl rfl (by decide), by decide +kernel, rfl⟩

/-- A call with both timers stopped and one with both running. -/
theorem witness_CallQueryReports :
    let k : CallContext := { someCall 65534 .waiting with noAnswerDue := some 250, maxWaitDue := some 60000 }
    let timed : State := { quiet with calls := [k] }
    (readNumber2 [255, 254] = some 65534 ∧ (asked ⟨0x21, 7, [255, 254]⟩ talking).Takes ⟨0x21, 7, [255, 254]⟩ ∧
      (asked ⟨0x21, 7, [255, 254]⟩ talking).call? 65534 = some connectedCall ∧ connectedCall.noAnswerDue = none ∧
      connectedCall.maxWaitDue = none) ∧
    ((asked ⟨0x21, 7, [255, 254]⟩ timed).Takes ⟨0x21, 7, [255, 254]⟩ ∧
      (asked ⟨0x21, 7, [255, 254]⟩ timed).call? 65534 = some k ∧ k.noAnswerDue = some 250 ∧
      k.maxWaitDue = some 60000) := by
  refine ⟨⟨rfl, asked_takes _ rfl rfl (by decide), by decide +kernel, rfl, rfl⟩, asked_takes _ rfl rfl (by decide),
    by decide +kernel, rfl, rfl⟩

/-- The GROUP-SET of group 63 with no option used. -/
def groupPayload (configured : Byte) : List Byte :=
  [63, configured, 4, 0, 150, 2, 8, 0, 0, 255, 255, 255, 0, 0, 0, 1, 0, 0, 31, 31, 2, 88]

/-- What `groupPayload` carries. -/
def groupOp (configured : Nat) : GroupSetOp :=
  { group := 63, configured := configured, discipline := 4, noAnswerTime := 150, passLimit := 2, waitingDepth := 8
    maximumWait := 0, overflow := ⟨255, 65535⟩, traceEnable := 0, traceAccept := 0, traceThrough := 0, pickable := 1
    safety := 0, emergencyHold := 0, homeSet := some 31, autoSet := some 31, autoThreshold := 600 }

/-- Group 63 with a waiting call. -/
def withWaiting : State := quiet.modGroup 63 fun r => { r with waiting := [1] }

/-- A payload with a bad discipline; one that unconfigures a group with a waiting call; and one that is taken. -/
theorem witness_GroupSetWritesRecord :
    (GroupSetOp.read ((groupPayload 1).set 2 5) = some { groupOp 1 with discipline := 5 } ∧
      (asked ⟨0x0C, 7, (groupPayload 1).set 2 5⟩ quiet).Takes ⟨0x0C, 7, (groupPayload 1).set 2 5⟩) ∧
    (GroupSetOp.read (groupPayload 0) = some (groupOp 0) ∧
      (asked ⟨0x0C, 7, groupPayload 0⟩ withWaiting).Takes ⟨0x0C, 7, groupPayload 0⟩ ∧
      (∃ f, (groupOp 0).fields = some f ∧ f.configured = false) ∧
      ((asked ⟨0x0C, 7, groupPayload 0⟩ withWaiting).group 63).waiting ≠ []) ∧
    (GroupSetOp.read (groupPayload 1) = some (groupOp 1) ∧
      (asked ⟨0x0C, 7, groupPayload 1⟩ withWaiting).Takes ⟨0x0C, 7, groupPayload 1⟩ ∧
      (∃ f, (groupOp 1).fields = some f ∧ f.configured = true) ∧
      ((asked ⟨0x0C, 7, groupPayload 1⟩ withWaiting).group 63).waiting.length ≤ max 1 (min 8 16) ∧
      (asked ⟨0x0C, 7, groupPayload 1⟩ withWaiting).override = false ∧
      (asked ⟨0x0C, 7, groupPayload 1⟩ withWaiting).held 63 = false) := by
  refine ⟨⟨rfl, asked_takes _ rfl rfl (by decide)⟩,
    ⟨rfl, asked_takes _ rfl rfl (by decide), ⟨_, rfl, rfl⟩, by decide +kernel⟩,
    rfl, asked_takes _ rfl rfl (by decide), ⟨_, rfl, rfl⟩, by decide +kernel, rfl, by decide +kernel⟩

/-- A group past 63; a commit in progress; an extension named twice; 33 entries; and two entries that fit. -/
theorem witness_MembersSetFillsGroup :
    (MembersSetOp.read [64, 0] = some ⟨64, []⟩ ∧ (asked ⟨0x0D, 7, [64, 0]⟩ quiet).Takes ⟨0x0D, 7, [64, 0]⟩) ∧
    (let s := quiet.modGroup 63 fun r => { r with commitInProgress := true }
     MembersSetOp.read [63, 0] = some ⟨63, []⟩ ∧ (asked ⟨0x0D, 7, [63, 0]⟩ s).Takes ⟨0x0D, 7, [63, 0]⟩ ∧
      ((asked ⟨0x0D, 7, [63, 0]⟩ s).group 63).commitInProgress = true) ∧
    (MembersSetOp.read [63, 2, 0, 1, 1, 0, 0, 1, 1, 0] = some ⟨63, [⟨1, 1, 0⟩, ⟨1, 1, 0⟩]⟩ ∧
      ¬([⟨1, 1, 0⟩, ⟨1, 1, 0⟩].map MemberEntry.ext).Nodup ∧
      ((asked ⟨0x0D, 7, [63, 2, 0, 1, 1, 0, 0, 1, 1, 0]⟩ quiet).group 63).commitInProgress = false) ∧
    (let l : List MemberEntry := (List.range 33).map fun x => ⟨x, 1, 0⟩
     (l.map (·.ext)).Nodup ∧ ¬l.length ≤ 32 ∧ MembersSetOp.read (MembersSetOp.bytes ⟨63, l⟩) = some ⟨63, l⟩) ∧
    (let p : List Byte := [63, 2, 3, 255, 15, 255, 0, 0, 1, 3]
     let s := asked ⟨0x0D, 7, p⟩ quiet
     let l : List MemberEntry := [⟨1023, 15, 255⟩, ⟨0, 1, 3⟩]
     MembersSetOp.read p = some ⟨63, l⟩ ∧ s.Takes ⟨0x0D, 7, p⟩ ∧
      (∀ e ∈ l, e.ext ≤ 1023 ∧ (e.presence ≤ 3 ∨ e.presence = 255)) ∧ (l.map (·.ext)).Nodup ∧
      ((List.range 64).map fun g => (s.group g).members.length).sum - (s.group 63).members.length + l.length ≤ 1024 ∧
      (∀ e ∈ l, (s.ext e.ext).memberOf.length < 4) ∧ s.override = false ∧ (s.group 63).members = [] ∧
      (s.group 63).waiting = []) := by
  refine ⟨⟨rfl, asked_takes _ rfl rfl (by decide)⟩, ⟨rfl, asked_takes _ rfl rfl (by decide), by decide +kernel⟩,
    ⟨rfl, by decide, by decide +kernel⟩, by decide +kernel,
    ⟨rfl, asked_takes _ rfl rfl (by decide), by decide, by decide, by decide +kernel, by decide +kernel, rfl,
      by decide +kernel, by decide +kernel⟩⟩

/-- Group 63 with one membership, AVAILABLE at extension 1023. -/
def oneMember : State := quiet.modGroup 63 fun r => { r with configured := true, members := [someMember 1023 .available] }

/-- A commit in progress, and one entry for the group's only member. -/
theorem witness_PresenceStageStages :
    PresenceStageOp.read [63, 1, 3, 255, 3] = some ⟨63, [⟨1023, 3⟩]⟩ ∧
    (let s := oneMember.modGroup 63 fun r => { r with commitInProgress := true }
     (asked ⟨0x0F, 7, [63, 1, 3, 255, 3]⟩ s).Takes ⟨0x0F, 7, [63, 1, 3, 255, 3]⟩ ∧
      ((asked ⟨0x0F, 7, [63, 1, 3, 255, 3]⟩ s).group 63).commitInProgress = true) ∧
    ((asked ⟨0x0F, 7, [63, 1, 3, 255, 3]⟩ oneMember).Takes ⟨0x0F, 7, [63, 1, 3, 255, 3]⟩ ∧
      ((asked ⟨0x0F, 7, [63, 1, 3, 255, 3]⟩ oneMember).group 63).commitInProgress = false ∧
      ([⟨1023, 3⟩].map StageEntry.ext).Nodup ∧
      ∀ e ∈ [(⟨1023, 3⟩ : StageEntry)], ∃ m ∈ ((asked ⟨0x0F, 7, [63, 1, 3, 255, 3]⟩ oneMember).group 63).members,
        m.ext = e.ext) := by
  refine ⟨rfl, ⟨asked_takes _ rfl rfl (by decide), by decide +kernel⟩, asked_takes _ rfl rfl (by decide),
    by decide +kernel, by decide, by decide +kernel⟩

/-- A commit in progress; a member that rings an offer of the group and is staged to SIGNED-OFF; and one that does not
ring. -/
theorem witness_RosterCommitAppliesOrWaits :
    readNumber1 [63] = some 63 ∧
    (let s := oneMember.modGroup 63 fun r => { r with commitInProgress := true }
     (asked ⟨0x10, 7, [63]⟩ s).Takes ⟨0x10, 7, [63]⟩ ∧
      ((asked ⟨0x10, 7, [63]⟩ s).group 63).commitInProgress = true) ∧
    (let m : Membership := { someMember 1023 .available with staged := some .signedOff }
     let s := asked ⟨0x10, 7, [63]⟩
      (({ quiet with calls := [{ someCall 9 .waiting with group := some 63, ringing := [1023] }] } : State).modExt 1023
        (fun r => { r with line := .idle, ringing := some 9 })
      |>.modGroup 63 fun r => { r with configured := true, members := [m], waiting := [9] })
     s.Takes ⟨0x10, 7, [63]⟩ ∧ (s.group 63).commitInProgress = false ∧ (s.group 63).members = [m] ∧
      m.staged = some .signedOff ∧ (s.offerAt 63 1023).isSome = true) ∧
    (let s := asked ⟨0x10, 7, [63]⟩ (oneMember.modGroup 63 fun r =>
      { r with members := [{ someMember 1023 .available with staged := some .standby }] })
     s.Takes ⟨0x10, 7, [63]⟩ ∧ s.override = false ∧ (s.group 63).commitInProgress = false ∧ (s.group 63).waiting = [] ∧
      ((s.group 63).members.map (·.ext)).Nodup ∧
      ∀ m ∈ (s.group 63).members, m.pending = false ∧ s.offerAt 63 m.ext = none) := by
  refine ⟨rfl, ⟨asked_takes _ rfl rfl (by decide), by decide +kernel⟩,
    ⟨asked_takes _ rfl rfl (by decide), by decide +kernel, by decide +kernel, rfl, by decide +kernel⟩,
    asked_takes _ rfl rfl (by decide), rfl, by decide +kernel, by decide +kernel, by decide +kernel, by decide +kernel⟩

theorem witness_RosterQueryReportsAndClears :
    (RosterQueryOp.read [64, 31] = some ⟨64, 31⟩ ∧ (asked ⟨0x11, 7, [64, 31]⟩ quiet).Takes ⟨0x11, 7, [64, 31]⟩) ∧
    RosterQueryOp.read [63, 32] = some ⟨63, 32⟩ ∧
    (RosterQueryOp.read [63, 31] = some ⟨63, 31⟩ ∧ (asked ⟨0x11, 7, [63, 31]⟩ quiet).Takes ⟨0x11, 7, [63, 31]⟩) :=
  ⟨⟨rfl, asked_takes _ rfl rfl (by decide)⟩, rfl, rfl, asked_takes _ rfl rfl (by decide)⟩

/-- Group 63 is the only safety group, its only member STANDBY. -/
theorem witness_OverrideForcesSafetyGroup :
    let s := quiet.modGroup 63 fun r => { r with safety := true, members := [someMember 1023 .standby] }
    (∀ h, h ≤ 63 → ((s.group h).safety = true ↔ h = 63)) ∧ (s.group 63).waiting = [] ∧
      ∃ m ∈ (s.group 63).members, m.programmed ≠ .available := by
  refine ⟨fun h hh => ?_, by decide +kernel, by decide +kernel⟩
  revert h; decide +kernel

/-- Group 64; a reference in use; a full Call Table; and an unconfigured group. -/
theorem witness_CallArriveChecksAndDiverts :
    let p : List Byte := [255, 254, 63, 3, 0]
    let f : Frame := ⟨0x02, 7, p⟩
    let full : State := { quiet with calls := (List.range 256).map fun c => someCall (c + 1) .connected }
    (CallArriveOp.read [255, 254, 64, 3, 0] = some ⟨65534, 64, 3, 0⟩ ∧
      (asked ⟨0x02, 7, [255, 254, 64, 3, 0]⟩ quiet).Takes ⟨0x02, 7, [255, 254, 64, 3, 0]⟩) ∧
    CallArriveOp.read p = some ⟨65534, 63, 3, 0⟩ ∧
    ((asked f talking).Takes f ∧ (asked f talking).call? 65534 ≠ none) ∧
    ((asked f full).Takes f ∧ (asked f full).call? 65534 = none ∧ 256 ≤ (asked f full).calls.length) ∧
    ((asked f quiet).Takes f ∧ (asked f quiet).call? 65534 = none ∧ (asked f quiet).calls.length < 256 ∧
      ((asked f quiet).group 63).configured = false) := by
  refine ⟨⟨rfl, asked_takes _ rfl rfl (by decide)⟩, rfl, ⟨asked_takes _ rfl rfl (by decide), by decide +kernel⟩,
    ⟨asked_takes _ rfl rfl (by decide), by decide +kernel, by decide +kernel⟩, asked_takes _ rfl rfl (by decide), rfl,
    by decide, by decide +kernel⟩

/-- Group 63 with one AVAILABLE member that is in a call. -/
theorem witness_CallArriveQueues :
    let s := asked ⟨0x02, 7, [255, 254, 63, 3, 0]⟩ oneMember
    CallArriveOp.read [255, 254, 63, 3, 0] = some ⟨65534, 63, 3, 0⟩ ∧ s.Takes ⟨0x02, 7, [255, 254, 63, 3, 0]⟩ ∧
    s.call? 65534 = none ∧ s.calls.length < 256 ∧ (s.group 63).configured = true ∧
    (s.group 63).waiting.length < (s.group 63).waitingDepth ∧
    (∀ m ∈ (s.group 63).members, (s.ext m.ext).line ≠ .idle ∨ (s.ext m.ext).ringing ≠ none) ∧
    ∃ m ∈ (s.group 63).members, m.effective = .available ∨ m.effective = .standby := by
  refine ⟨rfl, asked_takes _ rfl rfl (by decide), rfl, by decide, by decide +kernel, by decide +kernel, by decide +kernel,
    by decide +kernel⟩

/-- Group 63 with one AVAILABLE member that is IDLE. -/
theorem witness_CallArriveOffersFirstMember :
    let s := asked ⟨0x02, 7, [255, 254, 63, 3, 0]⟩ (oneMember.modExt 1023 fun r => { r with line := .idle })
    CallArriveOp.read [255, 254, 63, 3, 0] = some ⟨65534, 63, 3, 0⟩ ∧ s.Takes ⟨0x02, 7, [255, 254, 63, 3, 0]⟩ ∧
    s.call? 65534 = none ∧ s.calls.length < 256 ∧ (s.group 63).configured = true ∧ s.held 63 = false ∧
    (s.group 63).waiting.length < (s.group 63).waitingDepth ∧ (s.group 63).discipline = .linear ∧
    (s.group 63).members.find? (fun m => m.effective = .available && (s.ext m.ext).line = .idle
      && (s.ext m.ext).ringing.isNone) = some (someMember 1023 .available) := by
  refine ⟨rfl, asked_takes _ rfl rfl (by decide), rfl, by decide, by decide +kernel, by decide +kernel, by decide +kernel,
    by decide +kernel, by decide +kernel⟩

theorem witness_WaitingListKeepsItsOrder :
    [{ someCall 1 .waiting with priority := 3 }, { someCall 2 .waiting with waitingSince := 0 },
      { someCall 3 .waiting with waitingSince := 5 }].Pairwise fun a b => waitsBefore b a = false := by decide

theorem witness_DisciplinesChoose :
    [(someMember 5 .available, 0), (someMember 6 .available, 31)] ≠ [] ∧
    [(someMember 5 .available, 0), (someMember 6 .available, 31)].Pairwise fun a b => a.2 < b.2 := by decide

/-- A call that rings extension 1023 for group 63 while extension 1022 of the group is untried and in a call; and QUEUED
calls without an overflow target, at depth 3, and with an EXTERNAL target. -/
theorem witness_CallTimersExpire :
    (let k : CallContext := { someCall 9 .waiting with group := some 63, ringing := [1023], tried := [1023]
                                                       noAnswerDue := some 0 }
     let s := (({ quiet with calls := [k] } : State).modExt 1023 fun r =>
        { r with line := .idle, ringing := some 9, memberOf := [63] }).modGroup 63 fun r =>
          { r with configured := true, waiting := [9]
                   members := [someMember 1023 .available, someMember 1022 .available] }
     s.running = true ∧ s.call? 9 = some k ∧ k.noAnswerDue = some 0 ∧ 0 ≤ s.clock ∧ k.state = .waiting ∧
      k.group = some 63 ∧ k.ringing = [1023] ∧ 1023 ∈ k.tried ∧ (∀ h ∈ (s.ext 1023).memberOf, h = 63) ∧
      (s.group 63).waiting = [9] ∧
      (∀ m ∈ (s.group 63).members, m.pending = false ∧ (m.ext ≠ 1023 → (s.ext m.ext).line ≠ .idle)) ∧
      ∃ m ∈ (s.group 63).members, (m.effective = .available ∨ m.effective = .standby) ∧ m.ext ∉ k.tried) ∧
    (let k : CallContext := { someCall 9 .waiting with group := some 63, maxWaitDue := some 0 }
     let s : State := { quiet with calls := [k] }
     s.running = true ∧ s.call? 9 = some k ∧ k.maxWaitDue = some 0 ∧ 0 ≤ s.clock ∧ k.state = .waiting ∧
      k.group = some 63 ∧ k.ringing = [] ∧ (s.group 63).overflow = none ∧ ({ k with depth := 3 }).depth = 3 ∧
      ((s.modGroup 63 fun r => { r with overflow := some (.external 65534) }).group 63).overflow =
        some (.external 65534) ∧ ({ k with depth := 2 }).depth < 3) := by
  refine ⟨⟨rfl, rfl, rfl, by decide, rfl, rfl, rfl, by decide, by decide +kernel, by decide +kernel, by decide +kernel,
    by decide +kernel⟩, rfl, rfl, rfl, by decide, rfl, rfl, rfl, by decide +kernel, rfl, by decide +kernel, by decide⟩

/-- Every zone of the set of zone 63 is faulted when zone 63 is. -/
theorem only_zone_faulted {s : State} (h : (s.amp 63).fault ≠ none) :
    ∀ z, zoneIn 0x8000000000000000#64 z = true → (s.amp z).fault ≠ none := by
  intro z hz
  have hlt : z < 64 := BitVec.lt_of_getLsbD hz
  have h63 : ∀ y, y < 64 → zoneIn 0x8000000000000000#64 y = true → y = 63 := by decide
  rw [h63 z hlt hz]
  exact h

/-- A group whose call has waited the threshold, with an empty zone set and with one whose only zone is faulted. -/
theorem witness_AutoPageIsPlaced :
    let k : CallContext := { someCall 9 .waiting with group := some 63 }
    let s := ({ quiet with calls := [k], clock := 60000 } : State).modGroup 63 fun r =>
      { r with configured := true, waiting := [9], autoSet := some 31 }
    let t : State := { s with zoneSets := tabModify s.zoneSets 31 fun _ => 0x8000000000000000#64 }
    let u := t.modAmp 63 fun a => { a with fault := some .noReply }
    (s.running = true ∧ (s.group 63).configured = true ∧ (s.group 63).liveAutoPage = none ∧
      (s.group 63).autoSet = some 31 ∧ s.oldestQueued 63 = some 0 ∧
      100 * max (s.group 63).rearm (0 + (s.group 63).autoThreshold) ≤ s.clock ∧ s.clock / 100 ≤ 4294967295 ∧
      s.targetOf .normal (s.zoneSet 31) = 0) ∧
    (u.running = true ∧ (u.group 63).autoSet = some 31 ∧ u.oldestQueued 63 = some 0 ∧
      u.targetOf .normal (u.zoneSet 31) = 0x8000000000000000#64 ∧ u.pages = [] ∧ u.ZonesQuiet ∧
      ∀ z, zoneIn 0x8000000000000000#64 z = true → (u.amp z).fault ≠ none) := by
  refine ⟨by decide +kernel, rfl, by decide +kernel, by decide +kernel, by decide +kernel, rfl, zones_quiet rfl rfl,
    only_zone_faulted (by decide +kernel)⟩

/-- Setting requests with the largest values they take, and one out of range. -/
theorem witness_SettingRequestsWrite :
    (readFallback [255, 254] = some (some 65534) ∧
      (asked ⟨0x0E, 7, [255, 254]⟩ quiet).Takes ⟨0x0E, 7, [255, 254]⟩) ∧
    readFallback [0, 0] = some (some 0) ∧ readFallback [255, 255] = some none ∧
    (PickgroupSetOp.read [127, 1, 1, 4, 0, 1, 2, 126] = some ⟨127, 1, 1, [0, 1, 2, 126]⟩ ∧
      (asked ⟨0x12, 7, [127, 1, 1, 4, 0, 1, 2, 126]⟩ quiet).Takes ⟨0x12, 7, [127, 1, 1, 4, 0, 1, 2, 126]⟩) ∧
    (ExtSetOp.read [3, 255, 127] = some ⟨1023, some 127⟩ ∧
      (asked ⟨0x0B, 7, [3, 255, 127]⟩ quiet).Takes ⟨0x0B, 7, [3, 255, 127]⟩) ∧
    (OrbitSetOp.read [31, 0, 0, 255, 255, 1, 63, 31] = some ⟨31, 0, 65535, 1, some 63, some 31⟩ ∧
      (asked ⟨0x13, 7, [31, 0, 0, 255, 255, 1, 63, 31]⟩ quiet).Takes ⟨0x13, 7, [31, 0, 0, 255, 255, 1, 63, 31]⟩) ∧
    (ZoneSetSetOp.read [31, 128, 0, 0, 0, 0, 0, 0, 1] = some ⟨31, 0x8000000000000001#64⟩ ∧
      (asked ⟨0x14, 7, [31, 128, 0, 0, 0, 0, 0, 0, 1]⟩ quiet).Takes ⟨0x14, 7, [31, 128, 0, 0, 0, 0, 0, 0, 1]⟩ ∧
      ∀ g, (asked ⟨0x14, 7, [31, 128, 0, 0, 0, 0, 0, 0, 1]⟩ quiet).held g = false) ∧
    (PagingSetOp.read [31, 0, 30, 255, 21, 2, 89, 255, 216, 0, 60, 127, 255, 128, 0] =
        some ⟨⟨31, 0, 30, 255⟩, 21, 601, ⟨-40, 60, 32767, -32768⟩⟩ ∧
      (asked ⟨0x16, 7, [31, 0, 30, 255, 21, 2, 89, 255, 216, 0, 60, 127, 255, 128, 0]⟩ quiet).Takes
        ⟨0x16, 7, [31, 0, 30, 255, 21, 2, 89, 255, 216, 0, 60, 127, 255, 128, 0]⟩) := by
  refine ⟨⟨rfl, asked_takes _ rfl rfl (by decide)⟩, rfl, rfl, ⟨rfl, asked_takes _ rfl rfl (by decide)⟩,
    ⟨rfl, asked_takes _ rfl rfl (by decide)⟩, ⟨rfl, asked_takes _ rfl rfl (by decide)⟩,
    ⟨by decide, asked_takes _ rfl rfl (by decide), fun g => ?_⟩, by decide, asked_takes _ rfl rfl (by decide)⟩
  simp only [State.held, State.group, asked, quiet, State.reset, tabGet_replicate]
  split <;> rfl

/-- The directed pickups of extension 0 at extension 1023: past the range, by a picker on hook, at a silent extension, at
one that rings another call than the expected, at one without a pickup group, and at an open one. -/
theorem witness_DirectedPickupConnects :
    let p : List Byte := [0, 0, 1, 3, 255, 255, 255]
    let o : PickupAskOp := ⟨0, 1, some 1023, none⟩
    let lifted (s : State) : State := asked ⟨0x06, 7, p⟩ (s.modExt 0 fun r => { r with line := .offhook })
    let opened (s : State) : State := { s.modExt 1023 fun r => { r with pickupGroup := some 127 } with
      pickups := tabModify s.pickups 127 fun _ => { configured := true, assist := [], directedOpen := true } }
    let q : List Byte := [0, 0, 1, 3, 255, 0, 1]
    (PickupAskOp.read [4, 0, 1, 3, 255, 255, 255] = some ⟨1024, 1, some 1023, none⟩ ∧
      (asked ⟨0x06, 7, [4, 0, 1, 3, 255, 255, 255]⟩ quiet).Takes ⟨0x06, 7, [4, 0, 1, 3, 255, 255, 255]⟩) ∧
    PickupAskOp.read [0, 0, 1, 3, 255, 0, 0] = some ⟨0, 1, some 1023, some 0⟩ ∧
    (PickupAskOp.read p = some o ∧ o.mode = 1 ∧ o.target = some 1023 ∧ (asked ⟨0x06, 7, p⟩ quiet).Takes ⟨0x06, 7, p⟩ ∧
      ((asked ⟨0x06, 7, p⟩ quiet).ext 0).line ≠ .offhook) ∧
    ((lifted quiet).Takes ⟨0x06, 7, p⟩ ∧ ((lifted quiet).ext 0).line = .offhook ∧
      ((lifted quiet).ext 1023).ringing = none) ∧
    (PickupAskOp.read q = some ⟨0, 1, some 1023, some 1⟩ ∧
      (asked ⟨0x06, 7, q⟩ (lifted ringingDirect)).Takes ⟨0x06, 7, q⟩ ∧ 1 ≠ 65534) ∧
    ((lifted ringingDirect).Takes ⟨0x06, 7, p⟩ ∧ ((lifted ringingDirect).ext 1023).ringing = some 65534 ∧
      (lifted ringingDirect).call? 65534 = some directCall ∧ ((lifted ringingDirect).ext 1023).pickupGroup = none) ∧
    ((lifted (opened ringingDirect)).Takes ⟨0x06, 7, p⟩ ∧
      ((lifted (opened ringingDirect)).ext 1023).pickupGroup = some 127 ∧
      ((lifted (opened ringingDirect)).pickup 127).configured = true ∧
      ((lifted (opened ringingDirect)).pickup 127).directedOpen = true ∧
      (lifted (opened ringingDirect)).call? 65534 = some directCall ∧
      ((lifted (opened ringingDirect)).ext 1023).ringing = some 65534 ∧ directCall.state = .ringingDirect ∧
      directCall.ringing = [1023] ∧ directCall.group = none ∧ directCall.orbit = none ∧
      ((lifted (opened ringingDirect)).ext 1023).memberOf = []) := by
  refine ⟨⟨rfl, asked_takes _ rfl rfl (by decide)⟩, rfl, ⟨rfl, rfl, rfl, asked_takes _ rfl rfl (by decide),
    by decide +kernel⟩, ⟨asked_takes _ rfl rfl (by decide), by decide +kernel, by decide +kernel⟩,
    ⟨rfl, asked_takes _ rfl rfl (by decide), by decide⟩,
    ⟨asked_takes _ rfl rfl (by decide), by decide +kernel, by decide +kernel, by decide +kernel⟩,
    asked_takes _ rfl rfl (by decide), by decide +kernel, by decide +kernel, by decide +kernel, by decide +kernel,
    by decide +kernel, rfl, rfl, rfl, rfl, by decide +kernel⟩

theorem witness_GroupPickupChoosesMark :
    (ringingDirect.modExt 1023 fun r => { r with pickupGroup := some 127 }).chooseMark 127 0 =
      some (1023, directCall) := by
  have h : ∀ x ∈ List.range 1024, (ringingDirect.modExt 1023 fun r => { r with pickupGroup := some 127 }).candidateAt
      127 0 x = if x = 1023 then some (1023, directCall) else none := by
    intro x hx
    by_cases h : x = 1023
    · subst h; decide +kernel
    · have hn : ((ringingDirect.modExt 1023 fun r => { r with pickupGroup := some 127 }).ext x).pickupGroup = none := by
        rw [ext_modExt, if_neg (by omega), ringingDirect, ext_modExt, if_neg (by omega)]
        simp only [State.ext, quiet, State.reset, tabGet_replicate]
        split <;> rfl
      simp [State.candidateAt, hn, h]
  unfold State.chooseMark
  rw [List.filterMap_congr h]
  decide +kernel

/-- PARK-ASK: announce past its values; an unknown call; a call connected elsewhere; a named orbit in use; every orbit in
use; a named free orbit; and the lowest free one, with an announcement asked for. -/
theorem witness_ParkAskHoldsCall :
    let p : List Byte := [255, 254, 3, 255, 31, 0]
    let f : Frame := ⟨0x07, 7, p⟩
    let any : List Byte := [255, 254, 3, 255, 255, 1]
    let busy : State := talking.modOrbit 31 fun r => { r with state := .held }
    let full : State := { talking with orbits := Vector.replicate 32 { OrbitRecord.atReset with state := .held } }
    let low : State := talking.modOrbit 0 fun r => { r with state := .held }
    (ParkAskOp.read [255, 254, 3, 255, 31, 2] = some ⟨65534, 1023, some 31, 2⟩ ∧
      (asked ⟨0x07, 7, [255, 254, 3, 255, 31, 2]⟩ quiet).Takes ⟨0x07, 7, [255, 254, 3, 255, 31, 2]⟩) ∧
    (ParkAskOp.read p = some ⟨65534, 1023, some 31, 0⟩ ∧ (asked f quiet).Takes f ∧ (asked f quiet).call? 65534 = none) ∧
    (ParkAskOp.read [255, 254, 3, 254, 31, 0] = some ⟨65534, 1022, some 31, 0⟩ ∧
      connectedCall.connected ≠ some 1022) ∧
    ((asked f busy).Takes f ∧ (asked f busy).call? 65534 = some connectedCall ∧ connectedCall.state = .connected ∧
      connectedCall.connected = some 1023 ∧ ((asked f busy).orbit 31).state ≠ .free) ∧
    (ParkAskOp.read any = some ⟨65534, 1023, none, 1⟩ ∧ (asked ⟨0x07, 7, any⟩ full).Takes ⟨0x07, 7, any⟩ ∧
      ∀ n, n ≤ 31 → ((asked ⟨0x07, 7, any⟩ full).orbit n).state ≠ .free) ∧
    ((asked f talking).Takes f ∧ (asked f talking).call? 65534 = some connectedCall ∧
      ((asked f talking).orbit 31).state = .free) ∧
    ((asked ⟨0x07, 7, any⟩ low).Takes ⟨0x07, 7, any⟩ ∧ ((asked ⟨0x07, 7, any⟩ low).orbit 1).state = .free ∧
      (∀ j, j < 1 → ((asked ⟨0x07, 7, any⟩ low).orbit j).state ≠ .free) ∧
      ((asked ⟨0x07, 7, any⟩ low).orbit 1).announceSet = none) := by
  refine ⟨⟨rfl, asked_takes _ rfl rfl (by decide)⟩, ⟨rfl, asked_takes _ rfl rfl (by decide), rfl⟩,
    ⟨rfl, by decide⟩, ⟨asked_takes _ rfl rfl (by decide), by decide +kernel, rfl, rfl, by decide +kernel⟩,
    ⟨rfl, asked_takes _ rfl rfl (by decide), fun n hn => ?_⟩,
    ⟨asked_takes _ rfl rfl (by decide), by decide +kernel, by decide +kernel⟩,
    asked_takes _ rfl rfl (by decide), by decide +kernel, by decide +kernel, by decide +kernel⟩
  have h : n < 32 := by omega
  simp [asked, State.orbit, tabGet_replicate, h]

/-- An orbit whose park time has ended for an IDLE parker, and one whose recall ring has. -/
theorem witness_OrbitTimersRecall :
    let k : CallContext := { someCall 9 .parked with orbit := some 31 }
    let s := ((({ quiet with calls := [k] } : State).modExt 1023 fun r => { r with line := .idle }).modOrbit 31 fun r =>
      { r with state := .held, call := some 9, parker := some 1023, parkDue := some 0 })
    let l : CallContext := { someCall 9 .recallRinging with orbit := some 31, ringing := [1023] }
    let t := ((({ quiet with calls := [l] } : State).modExt 1023 fun r =>
        { r with line := .idle, ringing := some 9 }).modOrbit 31 fun r =>
      { r with state := .recalling, call := some 9, parker := some 1023, recallDue := some 0 })
    (s.running = true ∧ (s.orbit 31).call = some 9 ∧ (s.orbit 31).parker = some 1023 ∧ s.call? 9 = some k ∧
      0 ≤ s.clock ∧ (s.orbit 31).parkDue = some 0 ∧ (s.orbit 31).recallMode = .parkerThenGroup ∧
      (s.ext 1023).line = .idle ∧ (s.ext 1023).ringing = none) ∧
    (t.running = true ∧ (t.orbit 31).call = some 9 ∧ (t.orbit 31).parker = some 1023 ∧ t.call? 9 = some l ∧
      (t.orbit 31).recallDue = some 0 ∧ l.state = .recallRinging ∧ (t.orbit 31).recallGroup = none ∧
      (t.orbit 31).announcePage = none ∧ (t.ext 1023).memberOf = []) := by decide +kernel

/-- RETRIEVE-ASK: orbit 32; an extension on hook; an empty orbit; another call than the expected; and a taken one. -/
theorem witness_RetrieveAskConnects :
    let p : List Byte := [31, 3, 255, 255, 255]
    let f : Frame := ⟨0x08, 7, p⟩
    let k : CallContext := { someCall 65534 .parked with orbit := some 31 }
    let lifted (s : State) : State := s.modExt 1023 fun r => { r with line := .offhook }
    let s := asked f (lifted (({ quiet with calls := [k] } : State).modOrbit 31 fun r =>
      { r with state := .held, call := some 65534, parker := some 5 }))
    (RetrieveAskOp.read [32, 3, 255, 255, 255] = some ⟨32, 1023, none⟩ ∧
      (asked ⟨0x08, 7, [32, 3, 255, 255, 255]⟩ quiet).Takes ⟨0x08, 7, [32, 3, 255, 255, 255]⟩) ∧
    (RetrieveAskOp.read p = some ⟨31, 1023, none⟩ ∧ (asked f quiet).Takes f ∧
      ((asked f quiet).ext 1023).line ≠ .offhook) ∧
    ((asked f (lifted quiet)).Takes f ∧ ((asked f (lifted quiet)).ext 1023).line = .offhook ∧
      ((asked f (lifted quiet)).orbit 31).call = none) ∧
    (RetrieveAskOp.read [31, 3, 255, 0, 1] = some ⟨31, 1023, some 1⟩ ∧ 1 ≠ 65534) ∧
    (s.Takes f ∧ (s.ext 1023).line = .offhook ∧ (s.orbit 31).call = some 65534 ∧ s.call? 65534 = some k ∧
      k.state = .parked ∧ k.ringing = [] ∧ k.group = none ∧ k.orbit = some 31 ∧ (s.orbit 31).announcePage = none) := by
  refine ⟨⟨rfl, asked_takes _ rfl rfl (by decide)⟩,
    ⟨rfl, asked_takes _ rfl rfl (by decide), by decide +kernel⟩,
    ⟨asked_takes _ rfl rfl (by decide), by decide +kernel, by decide +kernel⟩, ⟨rfl, by decide⟩,
    asked_takes _ rfl rfl (by decide), by decide +kernel, by decide +kernel, by decide +kernel, rfl, rfl, rfl, rfl,
    by decide +kernel⟩

/-- Pages of two classes, of two alarm inputs, of an alarm and the host, and two host pages; and a zone that is LIVE for
a page of the same class. -/
theorem witness_PagePrecedence :
    let p := somePage .queued
    let q : PageRecord := { somePage .live with id := 1, arrival := 1 }
    let a : PageRecord := { p with alarm := some 0, cls := .emergency }
    let b : PageRecord := { q with alarm := some 3, cls := .emergency }
    let s := ({ quiet with pages := [q] } : State).modZone 63 fun r => { r with state := .live 1 }
    (∀ i, a.alarm = some i → i ≤ 3) ∧ (∀ i, b.alarm = some i → i ≤ 3) ∧ outranks a b = true ∧
    (∀ i, p.alarm = some i → i ≤ 3) ∧ outranks a p = true ∧ outranks p q = false ∧ outranks q p = false ∧
    s.page? q.id = some q ∧ (s.zone 63).state = .live q.id := by
  refine ⟨by simp, by simp, by decide, nofun, by decide, by decide, by decide, by decide +kernel, by decide +kernel⟩

/-- A part whose zone 63 is faulted. -/
def deaf : State := quiet.modAmp 63 fun a => { a with fault := some .noReply }

/-- PAGE-ASK: class 4; a source on hook; an empty zone set; 24 pages in use; and a page for the faulted zone 63. -/
theorem witness_PageAskQueuesPage :
    let p : List Byte := [1, 1, 44, 1, 1, 0, 63, 1, 1, 0, 10]
    let f : Frame := ⟨0x09, 7, p⟩
    let e : List Byte := [0, 3, 255, 1, 0, 0, 31, 1, 1, 0, 10]
    let lifted := asked ⟨0x09, 7, e⟩ (quiet.modExt 1023 fun r => { r with line := .offhook })
    let full : State := asked f { quiet with pages := List.replicate 24 (somePage .live) }
    (PageAskOp.read (p.set 3 4) = some ⟨⟨1, 300⟩, 4, ⟨1, 63⟩, 1, 1, 10⟩ ∧
      (asked ⟨0x09, 7, p.set 3 4⟩ quiet).Takes ⟨0x09, 7, p.set 3 4⟩) ∧
    (PageAskOp.read e = some ⟨⟨0, 1023⟩, 1, ⟨0, 31⟩, 1, 1, 10⟩ ∧ (asked ⟨0x09, 7, e⟩ quiet).Takes ⟨0x09, 7, e⟩ ∧
      readSource ⟨0, 1023⟩ = some (.ext 1023) ∧ ((asked ⟨0x09, 7, e⟩ quiet).ext 1023).line ≠ .offhook) ∧
    (lifted.Takes ⟨0x09, 7, e⟩ ∧ (lifted.ext 1023).line = .offhook ∧ lifted.readTarget ⟨0, 31⟩ = some 0 ∧
      lifted.targetOf .urgent 0 = 0) ∧
    (full.Takes f ∧ full.targetOf .urgent 0x8000000000000000#64 ≠ 0 ∧
      24 ≤ (full.pages.filter fun r => r.alarm.isNone).length) ∧
    (PageAskOp.read p = some ⟨⟨1, 300⟩, 1, ⟨1, 63⟩, 1, 1, 10⟩ ∧ (asked f deaf).Takes f ∧
      readSource ⟨1, 300⟩ = some (.prompt 300) ∧ readClass 1 = some .urgent ∧
      (asked f deaf).readTarget ⟨1, 63⟩ = some 0x8000000000000000#64 ∧ readMode 1 = some .partially ∧
      (asked f deaf).targetOf .urgent 0x8000000000000000#64 = 0x8000000000000000#64 ∧ (asked f deaf).pages = [] ∧
      (asked f deaf).ZonesQuiet ∧
      ∀ z, zoneIn 0x8000000000000000#64 z = true → ((asked f deaf).amp z).fault ≠ none) := by
  refine ⟨⟨rfl, asked_takes _ rfl rfl (by decide)⟩,
    ⟨rfl, asked_takes _ rfl rfl (by decide), rfl, by decide +kernel⟩,
    ⟨asked_takes _ rfl rfl (by decide), by decide +kernel, by decide +kernel, by decide +kernel⟩,
    ⟨asked_takes _ rfl rfl (by decide), by decide +kernel, by decide +kernel⟩,
    rfl, asked_takes _ rfl rfl (by decide), rfl, rfl, by decide +kernel, rfl, by decide +kernel, rfl,
    zones_quiet rfl rfl, only_zone_faulted (by decide +kernel)⟩

/-- The URGENT page of prompt 300 for zone 63, at the last output length at which its two directives may join. -/
theorem witness_PageAskOpensZone :
    let p : List Byte := [1, 1, 44, 1, 1, 0, 63, 1, 1, 0, 10]
    let s := asked ⟨0x09, 7, p⟩ (behind (List.replicate 38 (.notice .overrideReleased)) quiet)
    PageAskOp.read p = some ⟨⟨1, 300⟩, 1, ⟨1, 63⟩, 1, 1, 10⟩ ∧ s.Takes ⟨0x09, 7, p⟩ ∧
    readSource ⟨1, 300⟩ = some (.prompt 300) ∧ readClass 1 = some .urgent ∧
    s.readTarget ⟨1, 63⟩ = some 0x8000000000000000#64 ∧ readMode 1 = some .partially ∧ s.pages = [] ∧ s.ZonesQuiet ∧
    zonesOf (s.targetOf .urgent 0x8000000000000000#64) = [63] ∧ (s.amp 63).fault = none ∧
    (s.amp 63).commanded = .idle ∧ s.paging.chime.of .urgent ≠ 0 ∧ unsolicitedCount s.link.output < 39 := by
  refine ⟨rfl, asked_takes _ rfl rfl (by decide), rfl, rfl, by decide +kernel, rfl, rfl, zones_quiet rfl rfl,
    by decide +kernel, by decide +kernel, by decide +kernel, by decide, by decide⟩

/-- PAGE-STOP of id 256, of an unknown id, of an alarm page and of a waiting host page; and a suspension that ends. -/
theorem witness_WaitingPageIsRemoved :
    let f : Frame := ⟨0x0A, 7, [0, 255]⟩
    let r := somePage .queued
    let a : PageRecord := { r with alarm := some 3 }
    let u : PageRecord := { somePage .suspended with suspensionDue := some 0 }
    let waiting := asked f { quiet with pages := [r] }
    (readNumber2 [1, 0] = some 256 ∧ (asked ⟨0x0A, 7, [1, 0]⟩ quiet).Takes ⟨0x0A, 7, [1, 0]⟩) ∧
    (readNumber2 [0, 255] = some 255 ∧ (asked f quiet).Takes f ∧ (asked f quiet).page? 255 = none) ∧
    ((asked f { quiet with pages := [a] }).Takes f ∧ (asked f { quiet with pages := [a] }).page? 255 = some a ∧
      a.alarm ≠ none) ∧
    (waiting.Takes f ∧ waiting.pages = [r] ∧ r.id = 255 ∧ r.alarm = none ∧ r.requester = .host ∧ r.state = .queued ∧
      waiting.ZonesQuiet) ∧
    (quiet.running = true ∧ u.state = .suspended ∧ u.suspensionDue = some 0 ∧ 0 ≤ quiet.clock ∧
      ({ quiet with pages := [u] } : State).ZonesQuiet) := by
  refine ⟨⟨rfl, asked_takes _ rfl rfl (by decide)⟩, ⟨rfl, asked_takes _ rfl rfl (by decide), rfl⟩,
    ⟨asked_takes _ rfl rfl (by decide), by decide +kernel, by decide⟩,
    ⟨asked_takes _ rfl rfl (by decide), rfl, rfl, rfl, rfl, rfl, zones_quiet rfl rfl⟩, rfl, rfl, rfl, by decide,
    zones_quiet rfl rfl⟩

/-- The only page OPENING, LIVE and CLOSING in zone 63, with the timer of each ended. -/
theorem witness_PageTimersMovePageOn :
    let z (st : ZoneState) (c h : Option Nat) (r : PageRecord) : State :=
      ({ quiet with pages := [r] } : State).modZone 63 fun _ => { state := st, chimeDue := c, hangDue := h }
    let o := somePage .opening
    let l : PageRecord := { somePage .live with durationDue := some 0, audioSent := true }
    let c : PageRecord := { somePage .closing with endReason := some .duration }
    (∀ st ch h r, (z st ch h r).running = true ∧ (z st ch h r).pages = [r] ∧ (z st ch h r).covered = 0 ∧
      (∀ y, y ≠ 63 → ((z st ch h r).zone y).state = .idle) ∧ (z st ch h r).link.output.length < 46 ∧
      unsolicitedCount (z st ch h r).link.output < 38) ∧
    (o.alarm = none ∧ o.requester = .host ∧ o.cls ≠ .emergency ∧
      ((z (.opening 255) (some 0) none o).zone 63).state = .opening o.id ∧
      ((z (.opening 255) (some 0) none o).zone 63).chimeDue = some 0 ∧ o.state = .opening ∧ o.channel = some 0 ∧
      o.durationStarted = false ∧ o.source = .ext 1023) ∧
    (((z (.live 255) none none l).zone 63).state = .live l.id ∧ l.state = .live ∧ l.durationDue = some 0 ∧
      l.channel = some 0 ∧ l.audioSent = true ∧ (z (.live 255) none none l).paging.hangTime ≠ 0) ∧
    (((z (.closing 255 none) none (some 0) c).zone 63).state = .closing c.id none ∧
      ((z (.closing 255 none) none (some 0) c).zone 63).hangDue = some 0 ∧ c.state = .closing) := by
  refine ⟨fun st ch h r => ⟨rfl, rfl, rfl, fun y hy => ?_, Nat.zero_lt_succ _, Nat.zero_lt_succ _⟩,
    by decide +kernel, by decide +kernel, by decide +kernel⟩
  have : (quiet.zone y).state = .idle := (zones_quiet (s := quiet) rfl rfl).idle y
  simp only [State.zone, State.modZone]
  rw [tabGet_tabModify_other _ _ _ (Ne.symm hy)]
  exact this

/-- An exchange with zone 63 with two replies missed and with one, and replies of each class. -/
theorem witness_ExchangesEnd :
    let e : Exchange := { zone := 63, sent := .idle, frame := stateFrame 63 .idle, superseded := false, deadline := 4 }
    let s (n : Nat) : State := ({ quiet with exchange := some e, clock := 4 } : State).modAmp 63 fun a =>
      { a with missCount := n }
    (∀ n, (s n).running = true ∧ (s n).exchange = some e ∧ (s n).installed e.zone = true ∧ e.deadline ≤ (s n).clock ∧
      (s n).clock ≤ e.deadline) ∧
    (((s 1).amp 63).fault = none ∧ ((s 1).amp 63).missCount < 2) ∧
    (((s 2).amp 63).fault = none ∧ 2 ≤ ((s 2).amp 63).missCount) ∧
    ((64 : Byte) + 0 + 0 + 7 + 0 ≠ 0 ∧ ((0 : Byte) + 0 + 4 + 7 + 245 = 0 ∧ (0 : Byte).toNat ≠ 63 + 1)) ∧
    ((64 : Byte) + 0 + 1 + 0 + 191 = 0 ∧ (64 : Byte).toNat = e.zone + 1) ∧
    ((64 : Byte) + 0 + 2 + 0 + 190 = 0 ∧ (64 : Byte) + 0 + 3 + 0 + 189 = 0) ∧
    ((64 : Byte) + 255 + 0 + 7 + 186 = 0 ∧ (7 : Byte).toNat = e.sent.channel ∧ e.superseded = false ∧
      e.sent.channel = 7 ∧ e.sent.gain = 255) := by
  have hi : quiet.installed 63 = true := by decide +kernel
  refine ⟨fun n => ⟨rfl, rfl, hi, Nat.le_refl 4, Nat.le_refl 4⟩, by decide +kernel, by decide +kernel, by decide,
    by decide, by decide, by decide⟩

/-- An emergency change at zone 63, a plain one there, and a turn of the rotation after zone 62 and after zone 63. -/
theorem witness_NextExchangeIsChosen :
    let rest : State := { quiet with exchange := none, amps := Vector.replicate 64 (AmpState.atReset false) }
    let plain := rest.modAmp 63 fun a => { a with deliveryPending := true }
    let urgent := rest.modAmp 63 fun a => { a with deliveryPending := true, emergencyMark := true }
    (urgent.exchange = none ∧ urgent.installed 63 = true ∧ (urgent.amp 63).deliveryPending = true ∧
      (urgent.amp 63).emergencyMark = true ∧ ∀ y, y < 63 → (urgent.amp y).deliveryPending = false) ∧
    (plain.exchange = none ∧ plain.installed 63 = true ∧ (plain.amp 63).deliveryPending = true ∧
      (plain.amp 63).emergencyMark = false ∧ ∀ y, y < 63 → (plain.amp y).deliveryPending = false) ∧
    ((∀ y, y ≤ 63 → (rest.amp y).deliveryPending = false) ∧ rest.rotation = 63 ∧ rest.installed 0 = true ∧
      ({ rest with rotation := 62 } : State).rotation < 63 ∧ rest.installed 63 = true) := by
  refine ⟨⟨rfl, by decide +kernel, by decide +kernel, by decide +kernel, by decide +kernel⟩,
    ⟨rfl, by decide +kernel, by decide +kernel, by decide +kernel, by decide +kernel⟩, fun y hy => ?_, rfl,
    by decide +kernel, by decide, by decide +kernel⟩
  have h : y < 64 := by omega
  simp [State.amp, tabGet_replicate, h, AmpState.atReset]

/-- Readings 0, 1 and 255 at zone 63, unseeded and seeded. -/
theorem witness_NoiseFollowsReadings :
    let s := quiet.modLevel 63 fun l => { l with seeded := true }
    (quiet.level 63).seeded = false ∧ (s.level 63).seeded = true ∧ (s.level 63).Bounded ∧ (255 : Nat) ≤ 255 ∧
    (2080 : Int) ≠ (s.level 63).noise ∧ 1 ≤ (s.level 63).riseFactor ∧ (s.level 63).riseFactor ≤ 64 ∧
    1 ≤ (s.level 63).fallFactor ∧ (s.level 63).fallFactor ≤ 64 := by
  refine ⟨by decide +kernel, by decide +kernel, ⟨by decide +kernel, by decide +kernel⟩, by decide, by decide +kernel,
    by decide +kernel, by decide +kernel, by decide +kernel, by decide +kernel⟩

/-- A zone whose stale time has passed; ZONE-SET of zone 64, of a bad reseed and of an IDLE zone 63; LEVEL-QUERY of zones
64 and 63. -/
theorem witness_LevelUnitCommands :
    let s : State := { quiet with clock := 30000 }
    let p : List Byte := [63, 1, 5, 79, 251, 145, 0, 65, 0, 11, 185, 1]
    (s.running = true ∧ (s.level 63).stale = false ∧
      100 * ((s.level 63).lastReading.getD 0 + (s.level 63).staleTime) ≤ s.clock ∧ s.clock / 100 ≤ 4294967295) ∧
    (ZoneSetOp.read (p.set 0 64) = some ⟨64, 261, 79, 251, 145, 0, 65, 0, 3001, 1⟩ ∧
      (asked ⟨0x15, 7, p.set 0 64⟩ quiet).Takes ⟨0x15, 7, p.set 0 64⟩) ∧
    ZoneSetOp.read (p.set 11 2) = some ⟨63, 261, 79, 251, 145, 0, 65, 0, 3001, 2⟩ ∧
    (ZoneSetOp.read p = some ⟨63, 261, 79, 251, 145, 0, 65, 0, 3001, 1⟩ ∧ (asked ⟨0x15, 7, p⟩ quiet).Takes ⟨0x15, 7, p⟩ ∧
      ((asked ⟨0x15, 7, p⟩ quiet).zone 63).state = .idle) ∧
    (readNumber1 [64] = some 64 ∧ (asked ⟨0x17, 7, [64]⟩ quiet).Takes ⟨0x17, 7, [64]⟩) ∧
    (readNumber1 [63] = some 63 ∧ (asked ⟨0x17, 7, [63]⟩ quiet).Takes ⟨0x17, 7, [63]⟩) := by
  refine ⟨by decide +kernel, ⟨rfl, asked_takes _ rfl rfl (by decide)⟩, rfl,
    ⟨rfl, asked_takes _ rfl rfl (by decide), by decide +kernel⟩, ⟨rfl, asked_takes _ rfl rfl (by decide)⟩, rfl,
    asked_takes _ rfl rfl (by decide)⟩

/-- Input 3: a change of its contact; the end of its debounce closed, with mode UNUSED and with a page still in use; and
open after it was ACTIVE. -/
theorem witness_AlarmContactDebounces :
    let s (closed active : Bool) : State := quiet.modInput 3 fun r =>
      { r with closed := closed, active := active, debounceDue := some 0 }
    let unused : State := { s true false with map := { quiet.map with
      copy := { quiet.map.copy with inputs := Vector.replicate 4 { mode := .unused, zones := 0 } } } }
    let used : State := { s true false with pages := [{ somePage .closing with alarm := some 3 }] }
    (quiet.running = true ∧ (quiet.input 3).closed = false) ∧
    (unused.running = true ∧ (unused.input 3).debounceDue = some 0 ∧ 0 ≤ unused.clock ∧
      (unused.input 3).closed = true ∧ (unused.meaning 3).mode = .unused) ∧
    (used.running = true ∧ (used.input 3).debounceDue = some 0 ∧ (used.input 3).closed = true ∧
      (used.meaning 3).mode = .evacuate ∧ used.alarmPage 3 ≠ none) ∧
    ((s false true).running = true ∧ ((s false true).input 3).debounceDue = some 0 ∧
      ((s false true).input 3).closed = false ∧ ((s false true).input 3).page = none ∧
      ((s false true).input 3).latchedMode ≠ .muster) := by decide +kernel

/-- Input 3 of the default map settles closed: EVACUATE to every zone, with the chime times 0 and 30. -/
theorem witness_EvacuationTakesItsZones :
    let s : State := quiet.modInput 3 fun r => { r with closed := true, debounceDue := some 0 }
    let chimed : State := { s with paging := { s.paging with chime := { s.paging.chime with emergency := 30 } } }
    s.running = true ∧ (s.input 3).debounceDue = some 0 ∧ 0 ≤ s.clock ∧ (s.input 3).closed = true ∧
    (s.meaning 3).mode = .evacuate ∧ s.pages = [] ∧ (∀ z, (s.zone z).state = .idle) ∧
    (zoneIn (s.meaning 3).zones 63 = true ∧ s.installed 63 = true) ∧ s.paging.chime.emergency = 0 ∧
    chimed.paging.chime.emergency = 30 := by
  refine ⟨rfl, by decide +kernel, by decide, by decide +kernel, by decide +kernel, rfl, ?_, by decide +kernel, rfl, rfl⟩
  exact (zones_quiet (s := quiet.modInput 3 _) rfl rfl).idle

/-- The map requests with no write in flight and with one, and an EXCLUDE-SET under the hold, out of range and taken. -/
theorem witness_MapRequestsAct :
    let writing : State := { quiet with map := { quiet.map with writing := some ⟨quiet.map.copy, true, 60⟩ } }
    let held : State := { quiet with map := { quiet.map with rangeHeld := true } }
    let p : List Byte := [1, 0, 63, 1]
    (asked ⟨0x1D, 7, []⟩ quiet).Takes ⟨0x1D, 7, []⟩ ∧
    ((asked ⟨0x1A, 7, []⟩ quiet).Takes ⟨0x1A, 7, []⟩ ∧ quiet.map.writing = none) ∧
    ((asked ⟨0x1A, 7, []⟩ writing).Takes ⟨0x1A, 7, []⟩ ∧ (asked ⟨0x1A, 7, []⟩ writing).map.writing ≠ none) ∧
    (asked ⟨0x19, 7, []⟩ quiet).Takes ⟨0x19, 7, []⟩ ∧
    (ExcludeSetOp.read p = some ⟨1, 0, 63, 1⟩ ∧ (asked ⟨0x18, 7, p⟩ quiet).Takes ⟨0x18, 7, p⟩ ∧
      (asked ⟨0x18, 7, p⟩ quiet).pages = [] ∧ (asked ⟨0x18, 7, p⟩ quiet).ZonesQuiet) ∧
    ((asked ⟨0x18, 7, p⟩ held).Takes ⟨0x18, 7, p⟩ ∧ (asked ⟨0x18, 7, p⟩ held).map.rangeHeld = true ∧
      (asked ⟨0x18, 7, p⟩ held).ZonesQuiet) ∧
    ExcludeSetOp.read [1, 1, 0, 1] = some ⟨1, 1, 0, 1⟩ := by
  refine ⟨asked_takes _ rfl rfl (by decide), ⟨asked_takes _ rfl rfl (by decide), rfl⟩,
    ⟨asked_takes _ rfl rfl (by decide), nofun⟩, asked_takes _ rfl rfl (by decide),
    ⟨rfl, asked_takes _ rfl rfl (by decide), rfl, zones_quiet rfl rfl⟩,
    ⟨asked_takes _ rfl rfl (by decide), rfl, zones_quiet rfl rfl⟩, rfl⟩

/-- A MAP-WRITE with protection 3 and one that is taken, and a MAP-PROTECT. -/
theorem witness_MapWriteIsGuarded :
    let o : MapWriteOp := { installed := 1, sensitivity := List.replicate 64 91, inputs := List.replicate 4 ⟨3, 1⟩
                            ceiling := 91, enabled := 1, lower := 63, upper := 63, invert := 0, protection := 2 }
    let f : Frame := ⟨0x1B, 7, o.bytes⟩
    let bad : MapWriteOp := { o with protection := 3 }
    (MapWriteOp.read o.bytes = some o ∧ (asked f quiet).Takes f ∧
      ¬((∃ i ∈ o.inputs, 3 < i.mode) ∨ 2 < o.protection ∨ 63 < o.upper ∨ o.upper < o.lower)) ∧
    (MapWriteOp.read bad.bytes = some bad ∧ (asked ⟨0x1B, 7, bad.bytes⟩ quiet).Takes ⟨0x1B, 7, bad.bytes⟩ ∧
      2 < bad.protection) ∧
    (readNumber1 [3] = some 3 ∧ (asked ⟨0x1C, 7, [3]⟩ quiet).Takes ⟨0x1C, 7, [3]⟩) := by
  refine ⟨⟨by decide +kernel, asked_takes _ rfl rfl (by decide), by decide⟩,
    ⟨by decide +kernel, asked_takes _ rfl rfl (by decide), by decide⟩, rfl, asked_takes _ rfl rfl (by decide)⟩

/-- A write whose time has come, of contents with the same installed set. -/
theorem witness_MapWriteCompletes :
    let w : MapWriting := { contents := { EmergencyMap.default with ceiling := 160 }, byMapWrite := true, due := 0 }
    let s : State := { quiet with map := { quiet.map with writing := some w } }
    s.running = true ∧ s.map.writing = some w ∧ w.due ≤ s.clock ∧ w.contents.installed = s.map.copy.installed ∧
    s.pages = [] ∧ s.ZonesQuiet ∧ s.exchange ≠ none :=
  ⟨rfl, rfl, Nat.le_refl 0, rfl, rfl, zones_quiet rfl rfl, nofun⟩

/-- Counts on each side of the encoding's boundaries. -/
theorem witness_ElapsedCountEncodes :
    (1023 < 1024 ∧ 1024 ≤ 1024 ∧ 2 ^ 10 ≤ 1024 ∧ 1024 < 2 ^ (10 + 1) ∧ 2 ^ 16 ≤ 131071 ∧ 131071 < 2 ^ (16 + 1)) ∧
    (2047 ≤ 2047 ∧ 2048 ≤ 2048 ∧ 131071 ≤ 131071 ∧ elapsedExponent 131008 = 7 ∧ elapsedMantissa 131008 = 1023) := by
  decide

theorem witness_TraceClearEmptiesTrace : (asked ⟨0x20, 7, []⟩ quiet).Takes ⟨0x20, 7, []⟩ :=
  asked_takes _ rfl rfl (by decide)

/-- An ANSWER of group 63; TRACE-SET with a bad filter, without a control, with THAW and with FREEZE; TRACE-READ. -/
theorem witness_TraceKeepsAndReads :
    let p (f0 c : Byte) : List Byte := [0, 31, 0x0F, f0, 1, 0, c]
    let f (f0 c : Byte) : Frame := ⟨0x1E, 7, p f0 c⟩
    ((TraceRecord.offered .answer 1).kind ≠ .overflow ∧
      ({ TraceRecord.offered .answer 1 with group := some 63 } : TraceRecord).group = some 63) ∧
    (TraceSetOp.read (p 0xF5 255) = some ⟨31, 0x0FF5, 1, 0, none⟩ ∧ (asked (f 0xF5 255) quiet).Takes (f 0xF5 255) ∧
      (0x0FF5 : Word16).getLsbD 0 = true) ∧
    (TraceSetOp.read (p 0xF4 255) = some ⟨31, 0x0FF4, 1, 0, none⟩ ∧ (asked (f 0xF4 255) quiet).Takes (f 0xF4 255) ∧
      (0x0FF4 : Word16).getLsbD 0 = false ∧ (0x0FF4 : Word16).getLsbD 15 = false) ∧
    (TraceSetOp.read (p 0xF4 1) = some ⟨31, 0x0FF4, 1, 0, some 1⟩ ∧ (asked (f 0xF4 1) quiet).Takes (f 0xF4 1)) ∧
    (TraceSetOp.read (p 0xF4 0) = some ⟨31, 0x0FF4, 1, 0, some 0⟩ ∧ (asked (f 0xF4 0) quiet).Takes (f 0xF4 0)) ∧
    (TraceReadOp.read [255, 8] = some ⟨255, 8⟩ ∧ (asked ⟨0x1F, 7, [255, 8]⟩ quiet).Takes ⟨0x1F, 7, [255, 8]⟩) ∧
    TraceReadOp.read [0, 9] = some ⟨0, 9⟩ := by
  refine ⟨by decide, ⟨by decide, asked_takes _ rfl rfl (by decide), by decide⟩,
    ⟨by decide, asked_takes _ rfl rfl (by decide), by decide, by decide⟩, ⟨by decide, asked_takes _ rfl rfl (by decide)⟩,
    ⟨by decide, asked_takes _ rfl rfl (by decide)⟩, ⟨rfl, asked_takes _ rfl rfl (by decide)⟩, rfl⟩

/-! ## Witnesses of the further clauses -/

/-- The state frame that State.reset's exchange holds is the one to zone 0 with the muted commanded state (R136, R137). -/
theorem test_reset_frame :
    State.reset.exchange.map (·.frame) = some [1, 7, 255, 0, 0, 249] ∧ stateFrame 0 .idle = [1, 7, 255, 0, 0, 249] := by
  decide +kernel

/-- STATUS-QUERY reports an ACTIVE input as 0 and an INACTIVE one as 1, as its table lists them (R186, R192). -/
theorem test_status_input_bytes :
    InputReport.bytes { active := true, mode := some .unused, page := none } = [0, 0, 255, 255] ∧
    InputReport.bytes { active := false, mode := none, page := none } = [1, 255, 255, 255] := by decide +kernel

/-- A departure one before a link reset is due and at it, and one from an empty queue. -/
theorem witness_OutputQueueJoinsAndDeparts_resetDue :
    let due (n : Nat) : State :=
      { quiet with link := { quiet.link with output := [.notice .overrideReleased], resetAfter := some n } }
    ((due 1).running = true ∧ (due 1).link.resetAfter ≠ some 0 ∧ (due 1).link.output = .notice .overrideReleased :: [] ∧
      (due 1).link.lost = 0) ∧
    ((due 0).running = true ∧ (due 0).link.resetAfter = some 0) ∧ quiet.link.output = [] := by decide

/-- Frames of the longest payload and damaged frames while a link reset is due. -/
theorem witness_LinkResetIsPreparedFirst_due :
    let due (n : Nat) : State := { quiet with link := { quiet.link with resetAfter := some n } }
    ((due 0).running = true ∧ (due 0).link.resetAfter = some 0 ∧ (due 48).link.resetAfter = some 48 ∧
      (due 48).link.receiver = .hunting) ∧
    (List.replicate 246 (0 : Byte)).length ≤ 246 ∧ (1 : Byte).toNat < 2 ∧ 248 < (249 : Byte).toNat := by
  decide +kernel

/-- A held part whose power is fresh, one without power, and a store that lost its contents. -/
theorem witness_StartUpSequence_held :
    let held : State := { quiet with supply := { powered := true, resetLow := true, freshPower := true } }
    let dark : State := { quiet with supply := { powered := false, resetLow := true, freshPower := false } }
    (held.supply.powered = true ∧ held.running = false ∧ held.supply.freshPower = true) ∧ dark.supply.powered = false ∧
    ({ straps := 3, closed := 15, storeHolds := false } : StartSample).storeHolds = false := by decide

/-- A QUEUED call of group 63 that has not tried extension 1023, its AVAILABLE member. -/
def queuedCall : CallContext := { someCall 9 .waiting with group := some 63, maxWaitDue := some 60000 }

/-- The part with that call. -/
def queueing : State :=
  (({ quiet with calls := [queuedCall] } : State).modExt 1023 fun r => { r with memberOf := [63] }).modGroup 63 fun r =>
    { r with configured := true, members := [someMember 1023 .available], waiting := [9] }

/-- Extension 1023 becomes IDLE while the call waits. -/
theorem witness_LineReportActsOnLine_arbitration :
    let s := asked ⟨0x01, 7, [3, 255, 0]⟩ queueing
    LineReportOp.read [3, 255, 0] = some ⟨1023, 0⟩ ∧ s.Takes ⟨0x01, 7, [3, 255, 0]⟩ ∧ (s.ext 1023).ringing = none ∧
    (s.ext 1023).memberOf = [63] ∧ (s.group 63).configured = true ∧ s.held 63 = false ∧
    (s.group 63).discipline ≠ .circular ∧
    (∃ m ∈ (s.group 63).members, m.ext = 1023 ∧ m.effective = .available) ∧ (s.group 63).waiting = [9] ∧
    s.call? 9 = some queuedCall ∧ queuedCall.ringing = [] ∧ 1023 ∉ queuedCall.tried ∧
    ∀ q ∈ s.pages, q.source ≠ .ext 1023 := by
  refine ⟨rfl, asked_takes _ rfl rfl (by decide), by decide +kernel, by decide +kernel, by decide +kernel,
    by decide +kernel, by decide +kernel, by decide +kernel, by decide +kernel, by decide +kernel, rfl, by decide +kernel, fun q hq => nomatch hq⟩

/-- A hunt offer at extension 1023 and a recall ring there from orbit 31. -/
theorem witness_CallAnswerConnectsDirectCall_others :
    let p : List Byte := [0, 9, 3, 255]
    let k : CallContext := { queuedCall with ringing := [1023], tried := [1023], noAnswerDue := some 9 }
    let r : CallContext := { someCall 9 .recallRinging with ringing := [1023], orbit := some 31 }
    let s := asked ⟨0x04, 7, p⟩ (({ queueing with calls := [k] } : State).modExt 1023 fun x => { x with ringing := some 9 })
    let t := asked ⟨0x04, 7, p⟩ ((({ quiet with calls := [r] } : State).modExt 1023 fun x =>
      { x with ringing := some 9 }).modOrbit 31 fun o => { o with state := .recalling, call := some 9 })
    CallAnswerOp.read p = some ⟨9, 1023⟩ ∧
    (s.Takes ⟨0x04, 7, p⟩ ∧ s.call? 9 = some k ∧ (s.ext 1023).ringing = some 9 ∧ k.state = .waiting ∧
      k.ringing = [1023] ∧ k.group = some 63 ∧ k.orbit = none ∧ ∀ m ∈ (s.group 63).members, m.pending = false) ∧
    (t.Takes ⟨0x04, 7, p⟩ ∧ t.call? 9 = some r ∧ (t.ext 1023).ringing = some 9 ∧ r.state = .recallRinging ∧
      r.ringing = [1023] ∧ r.group = none ∧ r.orbit = some 31 ∧ (t.orbit 31).call = some 9 ∧
      (t.orbit 31).announcePage = none) := by
  refine ⟨rfl, ⟨asked_takes _ rfl rfl (by decide), by decide +kernel, by decide +kernel, rfl, rfl, rfl, rfl,
    by decide +kernel⟩, asked_takes _ rfl rfl (by decide), by decide +kernel, by decide +kernel, rfl, rfl, rfl, rfl,
    by decide +kernel, by decide +kernel⟩

/-- A ringing direct call, a QUEUED call and a PARKED one. -/
theorem witness_CallGoneFreesCall_others :
    let k : CallContext := { someCall 9 .parked with orbit := some 31 }
    let d := asked ⟨0x05, 7, [255, 254]⟩ ringingDirect
    let q := asked ⟨0x05, 7, [0, 9]⟩ queueing
    let p := asked ⟨0x05, 7, [0, 9]⟩ (({ quiet with calls := [k] } : State).modOrbit 31 fun o =>
      { o with state := .held, call := some 9 })
    (readNumber2 [255, 254] = some 65534 ∧ d.Takes ⟨0x05, 7, [255, 254]⟩ ∧ d.call? 65534 = some directCall ∧
      directCall.state = .ringingDirect ∧ directCall.ringing = [1023] ∧ (d.ext 1023).memberOf = []) ∧
    (readNumber2 [0, 9] = some 9 ∧ q.Takes ⟨0x05, 7, [0, 9]⟩ ∧ q.call? 9 = some queuedCall ∧
      queuedCall.state = .waiting ∧ queuedCall.ringing = [] ∧ queuedCall.group = some 63 ∧ queuedCall.orbit = none) ∧
    (p.Takes ⟨0x05, 7, [0, 9]⟩ ∧ p.call? 9 = some k ∧ k.state = .parked ∧ k.orbit = some 31 ∧
      (p.orbit 31).call = some 9 ∧ (p.orbit 31).announcePage = none) := by
  refine ⟨⟨rfl, asked_takes _ rfl rfl (by decide), by decide +kernel, rfl, rfl, by decide +kernel⟩,
    ⟨rfl, asked_takes _ rfl rfl (by decide), by decide +kernel, rfl, rfl, rfl, rfl⟩,
    asked_takes _ rfl rfl (by decide), by decide +kernel, rfl, rfl, by decide +kernel, by decide +kernel⟩

/-- A form code FFh with 65,534 and a form code 2 as overflow targets. -/
theorem witness_GroupSetWritesRecord_form :
    let p := (groupPayload 1).set 11 254
    let q := (groupPayload 1).set 9 2
    (GroupSetOp.read p = some { groupOp 1 with overflow := ⟨255, 65534⟩ } ∧
      (asked ⟨0x0C, 7, p⟩ quiet).Takes ⟨0x0C, 7, p⟩ ∧ (⟨255, 65534⟩ : Form) ≠ ⟨255, 65535⟩) ∧
    (GroupSetOp.read q = some { groupOp 1 with overflow := ⟨2, 65535⟩ } ∧
      (asked ⟨0x0C, 7, q⟩ quiet).Takes ⟨0x0C, 7, q⟩) := by
  refine ⟨⟨rfl, asked_takes _ rfl rfl (by decide), by decide⟩, rfl, asked_takes _ rfl rfl (by decide)⟩

/-- Groups of each kind of discipline. -/
theorem witness_DisciplinesChoose_moved :
    let g (d : Discipline) : GroupRecord := { GroupRecord.atReset with discipline := d }
    (g .ringAll).discipline = .ringAll ∧ (g .circular).discipline = .circular ∧ (g .weighted).discipline = .weighted :=
  ⟨rfl, rfl, rfl⟩

/-- A call of group 63 whose maximum wait ends, with the target GROUP(0): unconfigured, full without a target, full at
depth 2, with room for one more, and full with the target GROUP(1) that has room. -/
theorem witness_CallTimersExpire_cascade :
    let k (depth : Nat) : CallContext := { queuedCall with depth := depth, maxWaitDue := some 0 }
    let from63 (depth : Nat) : State := ({ quiet with calls := [k depth] } : State).modGroup 63 fun r =>
      { r with configured := true, waiting := [9], overflow := some (.group 0) }
    let group (n : Nat) (waiting : List Nat) (overflow : Option OverflowTarget) (s : State) : State :=
      s.modGroup n fun r => { r with configured := true, waitingDepth := 1, waiting := waiting, overflow := overflow
                                     members := [someMember 5 .standby] }
    let full (s : State) (n : Nat) : Prop :=
      (s.group n).configured = true ∧ (s.group n).waitingDepth ≤ (s.group n).waiting.length
    let takesIt (s : State) (n : Nat) : Prop := (s.group n).configured = true ∧ 9 ∉ (s.group n).waiting ∧
      (s.group n).waiting.length < (s.group n).waitingDepth ∧
      (∀ m ∈ (s.group n).members, (s.ext m.ext).line ≠ .idle) ∧
      ∃ m ∈ (s.group n).members, m.effective = .available ∨ m.effective = .standby
    let wide := group 1 [] none (group 0 [8] (some (.group 1)) (from63 1))
    ((from63 2).running = true ∧ (from63 2).call? 9 = some (k 2) ∧ (k 2).maxWaitDue = some 0 ∧
      0 ≤ (from63 2).clock ∧ (k 2).state = .waiting ∧ (k 2).group = some 63 ∧ (k 2).ringing = [] ∧ (k 2).depth < 3 ∧
      ((from63 2).group 63).overflow = some (.group 0) ∧ ((from63 2).group 0).configured = false) ∧
    (full (group 0 [8] none (from63 0)) 0 ∧ ((group 0 [8] none (from63 0)).group 0).overflow = none) ∧
    (full (group 0 [8] (some (.group 1)) (from63 2)) 0 ∧ (k 2).depth = 2) ∧
    takesIt (group 0 [] none (from63 2)) 0 ∧
    (full wide 0 ∧ (wide.group 0).overflow = some (.group 1) ∧ (k 1).depth < 2 ∧ takesIt wide 1) := by
  decide +kernel

/-- A NORMAL page of the host LIVE in zone 63 on channel 5, whose zone an URGENT PAGE-ASK takes; and six held channels. -/
theorem witness_PageAskOpensZone_preempts :
    let p : List Byte := [1, 1, 44, 1, 1, 0, 63, 1, 1, 0, 10]
    let q : PageRecord := { somePage .live with id := 254, cls := .normal, channel := some 5, audioSent := true }
    let s := asked ⟨0x09, 7, p⟩ (({ quiet with pages := [q] } : State).modZone 63 fun z => { z with state := .live 254 })
    let h (j : Nat) : PageRecord :=
      { q with id := j + 1, channel := some j, arrival := j, cls := if j = 0 then .background else .normal }
    let t : State := { quiet with pages := (List.range 6).map h }
    (PageAskOp.read p = some ⟨⟨1, 300⟩, 1, ⟨1, 63⟩, 1, 1, 10⟩ ∧ s.Takes ⟨0x09, 7, p⟩ ∧ s.pages = [q] ∧ q.alarm = none ∧
      q.requester = .host ∧ q.cls = .normal ∧ q.state = .live ∧ q.channel = some 5 ∧ q.audioSent = true ∧
      zonesOf q.target = [63] ∧ (s.zone 63).state = .live q.id ∧ (∀ y, y ≠ 63 → (s.zone y).state = .idle) ∧
      s.covered = 0 ∧ zonesOf (s.targetOf .urgent 0x8000000000000000#64) = [63] ∧ (s.amp 63).fault = none ∧
      s.paging.chime.urgent ≠ 0 ∧ q.id ≠ s.lastPageId % 255 + 1 ∧ unsolicitedCount s.link.output < 37) ∧
    (∀ j, j < 6 → t.holder j = some (h j)) ∧
    (∀ j, j < 6 → j ≠ 0 → (h j).cls.order < (h 0).cls.order) ∧ (quiet.holder 0 = none ∧ t.holder 6 = none) := by
  refine ⟨⟨rfl, asked_takes _ rfl rfl (by decide), rfl, rfl, rfl, rfl, rfl, rfl, rfl, by decide +kernel, by decide +kernel,
    fun y hy => ?_, rfl, by decide +kernel, by decide +kernel, by decide, by decide, by decide⟩, by decide +kernel,
    by decide +kernel, by decide +kernel⟩
  exact live_alone (f := fun z => { z with state := .live 254 }) hy rfl

/-- A zone reserved by an OPENING page, one whose end lets a SUSPENDED page resume, and one that a LIVE page joins. -/
theorem witness_PageTimersMovePageOn_second :
    let q : PageRecord := { somePage .closing with id := 254, channel := none, endReason := some .stopped }
    let o := somePage .opening
    let u : PageRecord := { somePage .suspended with channel := none }
    let l := somePage .live
    let s (r : PageRecord) (reserved : Option Nat) : State := ({ quiet with pages := [q, r] } : State).modZone 63 fun _ =>
      { state := .closing 254 reserved, chimeDue := none, hangDue := some 0 }
    (∀ r v, (s r v).running = true ∧ (s r v).pages = [q, r] ∧ (s r v).covered = 0 ∧ (s r v).link.output.length < 46 ∧
      unsolicitedCount (s r v).link.output < 38 ∧ (∀ y, y ≠ 63 → ((s r v).zone y).state = .idle)) ∧
    (q.alarm = none ∧ q.state = .closing ∧ q.channel = none) ∧
    (((s o (some 255)).zone 63).hangDue = some 0 ∧ ((s o (some 255)).zone 63).state = .closing q.id (some o.id) ∧
      q.id ≠ o.id ∧ o.alarm = none ∧ o.cls = .urgent ∧ (s o (some 255)).paging.chime.of o.cls ≠ 0 ∧
      (s o (some 255)).installed 63 = true ∧ ((s o (some 255)).amp 63).fault = none ∧ o.state = .opening ∧
      o.channel = some 0) ∧
    (((s u none).zone 63).state = .closing q.id none ∧ u.state = .suspended ∧ u.channel = none ∧
      zonesOf u.target = [63]) ∧
    (((s l none).zone 63).state = .closing q.id none ∧ l.state = .live ∧ l.mode = .partially ∧ l.channel = some 0 ∧
      zoneIn l.target 63 = true ∧ ∀ y, y < 63 → zoneIn l.target y = false) := by
  refine ⟨fun r v => ⟨rfl, rfl, rfl, Nat.zero_lt_succ _, Nat.zero_lt_succ _, fun y hy => live_alone (f := fun _ => { state := .closing 254 v, chimeDue := none, hangDue := some 0 }) hy rfl⟩,
    by decide +kernel, by decide +kernel, by decide +kernel, by decide +kernel⟩

/-- A faulted zone 63 with the same and another cause, a frame that a hand-over superseded, and a zone that has left. -/
theorem witness_ExchangesEnd_others :
    let e : Exchange := { zone := 63, sent := .idle, frame := stateFrame 63 .idle, superseded := true, deadline := 4 }
    let s : State := ({ quiet with exchange := some e, clock := 4 } : State).modAmp 63 fun a =>
      { a with fault := some .lineOpen }
    let left : State := { s with map := { s.map with copy := { s.map.copy with installed := 0 } } }
    (s.running = true ∧ s.exchange = some e ∧ e.zone ≤ 63 ∧ s.installed e.zone = true ∧ (s.amp e.zone).fault ≠ none ∧
      e.deadline ≤ s.clock ∧ s.clock ≤ e.deadline ∧ s.pages = [] ∧ s.ZonesQuiet) ∧
    ((s.amp e.zone).fault = some .lineOpen ∧ (s.amp e.zone).fault ≠ some .amplifier ∧ e.superseded = true) ∧
    (left.running = true ∧ left.exchange = some e ∧ left.installed e.zone = false) ∧
    ((64 : Byte) + 255 + 4 + 7 + 182 = 0 ∧ 3 < (4 : Byte).toNat) ∧
    ((64 : Byte) + 255 + 0 + 6 + 187 = 0 ∧ (6 : Byte).toNat ≠ e.sent.channel) := by
  refine ⟨⟨rfl, rfl, by decide, by decide +kernel, by decide +kernel, by decide, by decide, rfl, zones_quiet rfl rfl⟩,
    by decide +kernel, by decide +kernel, by decide, by decide⟩

/-- Input 3 with each mode and with its page: the activation of a MUSTER input whose record is in use, of inputs without
an installed zone and of an ALERT input whose only zone is faulted; the clearing of a MUSTER input beside another, alone,
of a QUEUED page's input and of a LIVE page's input. -/
theorem witness_AlarmContactDebounces_pages :
    let m (mode : AlarmMode) (zones : ZoneSet) (s : State) : State := { s with map := { s.map with
      copy := { s.map.copy with inputs := Vector.replicate 4 { mode := mode, zones := zones } } } }
    let at3 (closed active : Bool) (latched : AlarmMode) (s : State) : State := s.modInput 3 fun r =>
      { r with closed := closed, active := active, debounceDue := some 0, latchedMode := latched }
    let used := at3 true false .unused (m .muster 1 { quiet with pages := [{ somePage .closing with alarm := some 3 }] })
    let none0 (mode : AlarmMode) := at3 true false .unused (m mode 0 quiet)
    let alert := at3 true false .unused (m .alert 0x8000000000000000#64 deaf)
    let muster := at3 false true .muster quiet
    let two := muster.modInput 0 fun r => { r with active := true, latchedMode := .muster }
    let q (st : PageState) : PageRecord :=
      { somePage st with alarm := some 3, requester := .alarm 3, channel := some 5, audioSent := true }
    let paged (st : PageState) := (at3 false true .alert { quiet with pages := [q st] }).modInput 3 fun r =>
      { r with page := some 255 }
    let live := (paged .live).modZone 63 fun z => { z with state := .live 255 }
    (used.running = true ∧ (used.input 3).debounceDue = some 0 ∧ (used.input 3).closed = true ∧
      (used.meaning 3).mode = .muster ∧ used.alarmPage 3 ≠ none) ∧
    (((none0 .evacuate).meaning 3).mode = .evacuate ∧ ((none0 .muster).meaning 3).mode = .muster ∧
      (none0 .muster).alarmPage 3 = none ∧
      (zonesWhere fun z => zoneIn ((none0 .muster).meaning 3).zones z && (none0 .muster).installed z) = 0) ∧
    ((alert.meaning 3).mode = .alert ∧ alert.pages = [] ∧ alert.ZonesQuiet ∧
      (zonesWhere fun z => zoneIn (alert.meaning 3).zones z && alert.installed z) = 0x8000000000000000#64 ∧
      ∀ z, zoneIn 0x8000000000000000#64 z = true → (alert.amp z).fault ≠ none) ∧
    ((muster.input 3).debounceDue = some 0 ∧ (muster.input 3).closed = false ∧ (muster.input 3).page = none ∧
      (muster.input 3).latchedMode = .muster ∧ ∀ j, j ≤ 2 → (muster.input j).active = false) ∧
    ((two.input 0).active = true ∧ (two.input 0).latchedMode = .muster) ∧
    (((paged .queued).input 3).page = some (q .queued).id ∧ (paged .queued).pages = [q .queued] ∧
      (q .queued).alarm = some 3 ∧ (q .queued).requester = .alarm 3 ∧ ((paged .queued).input 3).latchedMode ≠ .muster ∧
      (paged .queued).ZonesQuiet) ∧
    ((live.input 3).page = some (q .live).id ∧ live.pages = [q .live] ∧ (q .live).cls = .urgent ∧
      (q .live).channel = some 5 ∧ (q .live).audioSent = true ∧ (live.zone 63).state = .live (q .live).id ∧
      (∀ y, y ≠ 63 → (live.zone y).state = .idle) ∧ live.covered = 0 ∧ live.paging.hangTime ≠ 0 ∧
      live.link.output.length < 46 ∧ unsolicitedCount live.link.output < 38) := by
  refine ⟨by decide +kernel, by decide +kernel, ⟨by decide +kernel, rfl, zones_quiet rfl rfl, by decide +kernel,
    only_zone_faulted (by decide +kernel)⟩, by decide +kernel, by decide +kernel,
    ⟨by decide +kernel, rfl, rfl, rfl, by decide +kernel, zones_quiet rfl rfl⟩,
    ⟨by decide +kernel, rfl, rfl, rfl, rfl, by decide +kernel, fun y hy => live_alone (f := fun z => { z with state := .live 255 }) hy rfl, rfl, by decide, by decide,
      by decide⟩⟩

/-- A NORMAL page LIVE in zone 63, which a range of zone 63 alone excludes; and a range that leaves out zones 0 to 62. -/
theorem witness_MapRequestsAct_pages :
    let p : List Byte := [1, 63, 63, 0]
    let r : PageRecord := { somePage .live with cls := .normal, audioSent := true }
    let s := asked ⟨0x18, 7, p⟩ (({ quiet with pages := [r] } : State).modZone 63 fun z => { z with state := .live 255 })
    ExcludeSetOp.read p = some ⟨1, 63, 63, 0⟩ ∧ ExcludeSetOp.read [1, 0, 62, 1] = some ⟨1, 0, 62, 1⟩ ∧
    s.Takes ⟨0x18, 7, p⟩ ∧ s.map.writing = none ∧ s.map.rangeHeld = false ∧ s.pages = [r] ∧ r.alarm = none ∧
    r.requester = .host ∧ r.cls = .normal ∧ r.state = .live ∧ r.channel = some 0 ∧ r.audioSent = true ∧
    (s.zone 63).state = .live r.id ∧ (∀ y, y ≠ 63 → (s.zone y).state = .idle) ∧ s.covered = 0 ∧
    s.paging.hangTime ≠ 0 ∧ unsolicitedCount s.link.output < 39 := by
  refine ⟨rfl, rfl, asked_takes _ rfl rfl (by decide), rfl, rfl, rfl, rfl, rfl, rfl, rfl, rfl, rfl, by decide +kernel,
    fun y hy => live_alone (f := fun z => { z with state := .live 255 }) hy rfl, rfl, by decide, by decide⟩

/-- A write that takes zone 63 out of the installed set, with no page and with a page LIVE there. -/
theorem witness_MapWriteCompletes_uninstalls :
    let w : MapWriting := { contents := { EmergencyMap.default with installed := 0x7FFFFFFFFFFFFFFF#64 }
                            byMapWrite := true, due := 0 }
    let r : PageRecord := { somePage .live with audioSent := true }
    let s : State := { quiet with map := { quiet.map with writing := some w } }
    let t := ({ s with pages := [r] } : State).modZone 63 fun z => { z with state := .live 255 }
    (s.running = true ∧ s.map.writing = some w ∧ w.due ≤ s.clock ∧ w.contents.installed ≠ s.map.copy.installed ∧
      s.pages = [] ∧ s.ZonesQuiet) ∧
    (t.running = true ∧ t.map.writing = some w ∧ t.installed 63 = true ∧ zoneIn w.contents.installed 63 = false ∧
      t.pages = [r] ∧ r.alarm = none ∧ r.requester = .host ∧ r.cls ≠ .emergency ∧ r.state = .live ∧
      r.channel = some 0 ∧ r.audioSent = true ∧ (t.zone 63).state = .live r.id ∧
      (∀ y, y ≠ 63 → (t.zone y).state = .idle) ∧ t.covered = 0 ∧ t.link.output.length < 45 ∧
      unsolicitedCount t.link.output < 37) := by
  refine ⟨⟨rfl, rfl, Nat.le_refl 0, by decide +kernel, rfl, zones_quiet rfl rfl⟩, rfl, rfl, by decide +kernel,
    by decide +kernel, rfl, rfl, rfl, by decide, rfl, rfl, rfl, by decide +kernel, fun y hy => live_alone (f := fun z => { z with state := .live 255 }) hy rfl, rfl,
    by decide, by decide⟩

/-- A record of no group, and an OVERFLOW record from group 63 to group 0 in each row of the table. -/
theorem witness_TraceKeepsAndReads_others :
    let r : TraceRecord := { TraceRecord.offered .overflow 1 with group := some 63, target := some 0 }
    let s (source target accept : Bool) := (quiet.modGroup 63 fun g => { g with traceEnable := source }).modGroup 0 fun g =>
      { g with traceEnable := target, traceAccept := accept }
    ((TraceRecord.offered .park 1).group = none ∧ (TraceRecord.offered .park 1).kind ≠ .overflow) ∧
    (r.kind = .overflow ∧ r.group = some 63 ∧ r.target = some 0) ∧
    (∀ a b c, (s a b c).trace.frozen = false ∧ (s a b c).trace.filter.getLsbD r.kind.code = true ∧
      ((s a b c).group 63).traceEnable = a ∧ ((s a b c).group 0).traceEnable = b ∧
      ((s a b c).group 0).traceAccept = c) ∧
    ((∀ i ∈ ([] : List Nat), ((s true false true).group i).traceThrough = true) ∧
      ¬∀ i ∈ [5], ((s true false true).group i).traceThrough = true) := by
  decide +kernel

/-- The hunt offer at extension 1023 beside one at extension 0, and alone with nobody else to ring; a recall ring there
from orbit 31. -/
theorem witness_LineReportActsOnLine_withdrawn :
    let p : List Byte := [3, 255, 1]
    let k (ringing : List Nat) : CallContext := { queuedCall with ringing := ringing, tried := [0, 1023], noAnswerDue := some 9 }
    let r : CallContext := { someCall 9 .recallRinging with ringing := [1023], orbit := some 31 }
    let s (ringing : List Nat) := asked ⟨0x01, 7, p⟩ ((({ queueing with calls := [k ringing] } : State).modExt 1023
      fun x => { x with ringing := some 9 }).modGroup 63 fun r =>
        { r with members := [someMember 1 .standby, someMember 1023 .available] })
    let t := asked ⟨0x01, 7, p⟩ ((({ quiet with calls := [r] } : State).modExt 1023 fun x =>
      { x with ringing := some 9 }).modOrbit 31 fun o => { o with state := .recalling, call := some 9 })
    (LineReportOp.read p = some ⟨1023, 1⟩ ∧ ∀ l, (s l).Takes ⟨0x01, 7, p⟩) ∧
    (((s [0, 1023]).ext 1023).ringing = some 9 ∧ (s [0, 1023]).call? 9 = some (k [0, 1023]) ∧
      ∃ y ∈ (k [0, 1023]).ringing, y ≠ 1023) ∧
    (((s [1023]).ext 1023).ringing = some 9 ∧ (s [1023]).call? 9 = some (k [1023]) ∧ (k [1023]).state = .waiting ∧
      (k [1023]).group = some 63 ∧ (∀ m ∈ ((s [1023]).group 63).members, m.pending = false) ∧
      (∀ m ∈ ((s [1023]).group 63).members, m.ext ≠ 1023 → ((s [1023]).ext m.ext).line ≠ .idle) ∧
      ∃ m ∈ ((s [1023]).group 63).members,
        (m.effective = .available ∨ m.effective = .standby) ∧ m.ext ∉ (k [1023]).tried) ∧
    (t.Takes ⟨0x01, 7, p⟩ ∧ (t.ext 1023).ringing = some 9 ∧ t.call? 9 = some r ∧ r.state = .recallRinging ∧
      r.orbit = some 31 ∧ (t.orbit 31).call = some 9 ∧ (t.orbit 31).recallGroup = none ∧
      (t.orbit 31).announcePage = none) := by
  refine ⟨⟨rfl, fun l => asked_takes _ rfl rfl (Nat.zero_lt_succ _)⟩, by decide +kernel, by decide +kernel,
    asked_takes _ rfl rfl (by decide), by decide +kernel, by decide +kernel, rfl, rfl, by decide +kernel,
    by decide +kernel, by decide +kernel⟩

/-- The hunt offer at extension 1023 of a group with no other call, and a recall ring there from orbit 31. -/
theorem witness_CallGoneFreesCall_ringing :
    let k : CallContext := { queuedCall with ringing := [1023], tried := [1023], noAnswerDue := some 9 }
    let r : CallContext := { someCall 9 .recallRinging with ringing := [1023], orbit := some 31 }
    let s := asked ⟨0x05, 7, [0, 9]⟩
      (({ queueing with calls := [k] } : State).modExt 1023 fun x => { x with ringing := some 9 })
    let t := asked ⟨0x05, 7, [0, 9]⟩ (({ quiet with calls := [r] } : State).modOrbit 31 fun o =>
      { o with state := .recalling, call := some 9 })
    readNumber2 [0, 9] = some 9 ∧
    (s.Takes ⟨0x05, 7, [0, 9]⟩ ∧ s.call? 9 = some k ∧ k.state = .waiting ∧ k.ringing = [1023] ∧ k.group = some 63 ∧
      k.orbit = none ∧ (∀ m ∈ (s.group 63).members, m.pending = false) ∧ (s.group 63).waiting = [9] ∧
      ∀ h ∈ (s.ext 1023).memberOf, h = 63) ∧
    (t.Takes ⟨0x05, 7, [0, 9]⟩ ∧ t.call? 9 = some r ∧ r.state = .recallRinging ∧ r.ringing = [1023] ∧
      r.orbit = some 31 ∧ (t.orbit 31).call = some 9 ∧ (t.orbit 31).announcePage = none ∧
      (t.ext 1023).memberOf = []) := by
  refine ⟨rfl, ⟨asked_takes _ rfl rfl (by decide), by decide +kernel, rfl, rfl, rfl, rfl, by decide +kernel,
    by decide +kernel, by decide +kernel⟩, asked_takes _ rfl rfl (by decide), by decide +kernel, rfl, rfl, rfl,
    by decide +kernel, by decide +kernel, by decide +kernel⟩

/-- Where only group 63 has its emergency hold and a covered home set, only group 63 is held. -/
theorem held_alone {s : State} (hs : s.held 63 = true)
    (hg : ∀ h, h ≠ 63 → (s.group h).emergencyHold = false) (h : Nat) : s.held h = true ↔ h = 63 := by
  refine ⟨fun hh => ?_, fun hh => hh ▸ hs⟩
  by_contra hne
  simp [State.held, hg h hne] at hh

/-- Group 63, held by zone 63 in zone set 31, with a QUEUED call for extension 1023 and one that rings behind it. -/
theorem witness_CallArriveOffersFirstMember_released :
    let p : List Byte := [31, 0, 0, 0, 0, 0, 0, 0, 1]
    let b : CallContext := { queuedCall with ref := 65534, ringing := [0] }
    let g0 := fun r : GroupRecord => { r with
      configured := true, discipline := .linear, emergencyHold := true, homeSet := some 31, waiting := [9, 65534]
      members := [someMember 1023 .available] }
    let s := asked ⟨0x14, 7, p⟩ ((({ quiet with calls := [queuedCall, b], covered := 0x8000000000000000#64
                                                zoneSets := tabModify quiet.zoneSets 31 fun _ => 0x8000000000000000#64 } :
      State).modExt 1023 fun r => { r with line := .idle }).modGroup 63 g0)
    ZoneSetSetOp.read p = some ⟨31, 1⟩ ∧ s.Takes ⟨0x14, 7, p⟩ ∧ (∀ h, s.held h = true ↔ h = 63) ∧
    (s.group 63).homeSet = some 31 ∧ (1 : ZoneSet) &&& s.covered = 0 ∧ (s.group 63).configured = true ∧
    (s.group 63).discipline = .linear ∧ (s.group 63).waiting = [9, 65534] ∧ s.call? 9 = some queuedCall ∧
    queuedCall.ringing = [] ∧
    (s.group 63).members.find? (fun m => m.effective = .available && (s.ext m.ext).line = .idle
      && (s.ext m.ext).ringing.isNone && !queuedCall.tried.contains m.ext) = some (someMember 1023 .available) ∧
    ((65534 : Nat) ≠ 9 ∧ s.call? 65534 = some b ∧ b.ringing ≠ []) := by
  refine ⟨by decide +kernel, asked_takes _ rfl rfl (by decide), held_alone (by decide +kernel) fun h hh => ?_,
    by decide +kernel, by decide +kernel, by decide +kernel, by decide +kernel, by decide +kernel, by decide +kernel, rfl,
    by decide +kernel, by decide +kernel⟩
  change (tabGet (tabModify State.reset.groups 63 _) h GroupRecord.atReset).emergencyHold = false
  rw [tabGet_tabModify_other _ _ _ (Ne.symm hh)]
  simp only [State.reset, tabGet_replicate]
  split <;> rfl

/-- The LIVE evacuation page of input 3 in zone 63, and the contact of input 2 with zones 0 and 62. -/
theorem witness_EvacuationTakesItsZones_outranks :
    let q : PageRecord := { somePage .live with alarm := some 3, requester := .alarm 3, cls := .emergency, channel := some 6 }
    let s := (({ quiet with
        pages := [q], covered := 0x8000000000000000#64
        map := { quiet.map with copy := { quiet.map.copy with
          inputs := Vector.replicate 4 { mode := .evacuate, zones := 0x4000000000000001#64 } } } } : State).modInput 2
      fun r => { r with closed := true, debounceDue := some 0 }).modZone 63 fun z => { z with state := .live 255 }
    (s.running = true ∧ (s.input 2).debounceDue = some 0 ∧ (s.input 2).closed = true ∧ (s.meaning 2).mode = .evacuate ∧
      s.pages = [q] ∧ q.cls = .emergency ∧ q.alarm = some 3 ∧ q.state = .live ∧ q.channel = some 6 ∧
      q.audioSent = false) ∧
    (∀ z, (s.zone z).state = .idle ∨ (s.zone z).state = .live q.id) ∧
    (zoneIn (s.meaning 2).zones 62 = true ∧ s.installed 62 = true) := by
  refine ⟨by decide +kernel, fun z => ?_, by decide +kernel⟩
  by_cases h : z = 63
  · exact .inr (by subst h; decide +kernel)
  · exact .inl (live_alone (f := fun z => { z with state := .live 255 }) h rfl)

/-- A NORMAL page LIVE in zones 62 and 63, and one QUEUED for zone 63, under a range of zone 63 alone. -/
theorem witness_MapRequestsAct_ranges :
    let p : List Byte := [1, 63, 63, 0]
    let r (st : PageState) (target : ZoneSet) : PageRecord := { somePage st with cls := .normal, target := target }
    let live := r .live 0xC000000000000000#64
    let s := asked ⟨0x18, 7, p⟩ ((({ quiet with pages := [live] } : State).modZone 63 fun z =>
      { z with state := .live 255 }).modZone 62 fun z => { z with state := .live 255 })
    let t := asked ⟨0x18, 7, p⟩ { quiet with pages := [r .queued 0x8000000000000000#64] }
    ExcludeSetOp.read p = some ⟨1, 63, 63, 0⟩ ∧
    (s.Takes ⟨0x18, 7, p⟩ ∧ s.pages = [live] ∧ (s.zone 63).state = .live live.id ∧ (s.zone 62).state = .live live.id ∧
      ∀ x, x ≠ 63 → x ≠ 62 → (s.zone x).state = .idle ∧ zoneIn live.target x = false) ∧
    (t.Takes ⟨0x18, 7, p⟩ ∧ t.ZonesQuiet ∧ ∀ z, zoneIn 0x8000000000000000#64 z = true → 63 ≤ z ∧ z ≤ 63) := by
  refine ⟨rfl, ⟨asked_takes _ rfl rfl (by decide), rfl, by decide +kernel, by decide +kernel, fun x hx hy => ⟨?_, ?_⟩⟩,
    asked_takes _ rfl rfl (by decide), zones_quiet rfl rfl, ?_⟩
  · have h := live_alone (s := ({ quiet with pages := [] } : State).modZone 63 fun z => { z with state := .live 255 })
      (f := fun z => { z with state := .live 255 }) hx rfl
    change (tabGet (tabModify _ 62 _) x PageZone.atReset).state = .idle
    rw [tabGet_tabModify_other _ _ _ (Ne.symm hy)]
    exact h
  · refine Bool.eq_false_iff.mpr fun h => ?_
    have hlt : x < 64 := BitVec.lt_of_getLsbD h
    have : ∀ y, y < 64 → zoneIn 0xC000000000000000#64 y = true → y = 63 ∨ y = 62 := by decide
    exact (this x hlt h).elim hx hy
  · have : ∀ y, y < 64 → zoneIn 0x8000000000000000#64 y = true → 63 ≤ y ∧ y ≤ 63 := by decide
    exact fun z hz => this z (BitVec.lt_of_getLsbD hz) hz

/-- The bytes of the reply OK of a LINE-REPORT with tag 7, of RING, of FRAME-ERROR and of a REFUSED reply, each written
out from R186, R187, R189 and R191, before their CRC. -/
theorem test_frame_layouts :
    (OutFrame.reply 0x81 7 .ok .nothing).bytes.take 6 = [0xA5, 4, 0x81, 7, 0, 0xFF] ∧
    (OutFrame.reply 0xA4 7 (.refused .notArmed) .nothing).bytes.take 6 = [0xA5, 4, 0xA4, 7, 3, 15] ∧
    (OutFrame.directive (.ring 1023 65534 .recall)).bytes.take 9 = [0xA5, 7, 0x40, 0, 3, 255, 255, 254, 1] ∧
    (OutFrame.frameError true).bytes.take 5 = [0xA5, 3, 0x80, 0, 1] ∧
    (OutFrame.frameError true).bytes.length = 7 := by decide +kernel

/-- A frame of the shortest length with a wrong CRC while a link reset is due. -/
theorem witness_LinkResetIsPreparedFirst_crc :
    2 ≤ (2 : Byte).toNat ∧ (2 : Byte).toNat ≤ 248 ∧ ([0x22, 7] : List Byte).length = (2 : Byte).toNat ∧
    crc16 (2 :: [0x22, 7]) ≠ (0 : Byte) ++ (0 : Byte) := by decide +kernel

/-- A due link reset that finds a good store, a damaged one, and a map write in flight. -/
theorem witness_StartUpSequence_link :
    let m := EmergencyMap.default
    let due (map : MapUnit) : State := { quiet with link := { quiet.link with resetAfter := some 0 }, map := map }
    let good := due { quiet.map with store := .copy m (crc16 m.bytes) }
    let writing := due { good.map with writing := some ⟨m, true, 60⟩ }
    (good.running = true ∧ good.link.resetAfter = some 0 ∧ good.map.store = .copy m (crc16 m.bytes) ∧ m.inRange = true ∧
      good.map.writing = none) ∧
    ((due { quiet.map with store := .damaged }).map.store = .damaged) ∧
    (writing.running = true ∧ writing.link.resetAfter = some 0 ∧ writing.map.writing ≠ none) := by
  refine ⟨⟨rfl, rfl, rfl, by decide +kernel, rfl⟩, rfl, rfl, rfl, nofun⟩

/-- A report of OUT for the direct call's extension; and reports of OUT and IDLE for the source of a QUEUED page and of a
NORMAL page LIVE in zone 63. -/
theorem witness_LineReportActsOnLine_pages :
    let out : List Byte := [3, 255, 3]
    let idle : List Byte := [3, 255, 0]
    let q := somePage .queued
    let l : PageRecord := { somePage .live with cls := .normal, audioSent := true }
    let s := asked ⟨0x01, 7, out⟩ ringingDirect
    let t (p : List Byte) := asked ⟨0x01, 7, p⟩ { quiet with pages := [q] }
    let u (p : List Byte) := asked ⟨0x01, 7, p⟩
      (({ quiet with pages := [l] } : State).modZone 63 fun z => { z with state := .live 255 })
    (LineReportOp.read out = some ⟨1023, 3⟩ ∧ LineReportOp.read idle = some ⟨1023, 0⟩ ∧
      (3, LineState.out) ∈ [(1, LineState.offhook), (2, .inCall), (3, .out)]) ∧
    (s.Takes ⟨0x01, 7, out⟩ ∧ (∀ q ∈ s.pages, q.source ≠ .ext 1023) ∧ (s.ext 1023).ringing = some 65534 ∧
      s.call? 65534 = some directCall) ∧
    (∀ p, (t p).Takes ⟨0x01, 7, p⟩ ∧ ((t p).ext 1023).ringing = none ∧ ((t p).ext 1023).memberOf = [] ∧
      (t p).pages = [q] ∧ (t p).ZonesQuiet) ∧
    (q.source = .ext 1023 ∧ q.alarm = none ∧ q.requester = .host ∧ q.state = .queued) ∧
    (∀ p, (u p).Takes ⟨0x01, 7, p⟩ ∧ ((u p).ext 1023).ringing = none ∧ ((u p).ext 1023).memberOf = [] ∧
      (u p).pages = [l] ∧ ((u p).zone 63).state = .live l.id ∧ (∀ y, y ≠ 63 → ((u p).zone y).state = .idle) ∧
      (u p).covered = 0 ∧ (u p).paging.hangTime ≠ 0 ∧ unsolicitedCount (u p).link.output < 39) ∧
    (l.source = .ext 1023 ∧ l.cls ≠ .emergency ∧ l.state = .live ∧ l.channel = some 0 ∧ l.audioSent = true) := by
  have hr : (quiet.ext 1023).ringing = none := by decide +kernel
  have hm : (quiet.ext 1023).memberOf = [] := by decide +kernel
  refine ⟨by decide, ⟨asked_takes _ rfl rfl (by decide), (fun _ h => nomatch h), by decide +kernel, by decide +kernel⟩,
    fun p => ⟨asked_takes _ rfl rfl (Nat.zero_lt_succ _), hr, hm, rfl, zones_quiet rfl rfl⟩,
    ⟨rfl, rfl, rfl, rfl⟩,
    fun p => ⟨asked_takes _ rfl rfl (Nat.zero_lt_succ _), hr, hm, rfl, rfl,
      fun y hy => live_alone (f := fun z => { z with state := .live 255 }) hy rfl, rfl, (by decide : (5 : Nat) ≠ 0),
      Nat.zero_lt_succ _⟩, by decide⟩

/-- A MEMBERS-SET that keeps extension 1, adds extension 1023 and removes extension 2 of group 63: silent, and where the
group's only call rings the removed one alone or with extension 1. -/
theorem witness_MembersSetFillsGroup_replaced :
    let p : List Byte := [63, 2, 3, 255, 15, 1, 0, 1, 2, 3]
    let l : List MemberEntry := [⟨1023, 15, 1⟩, ⟨1, 2, 3⟩]
    let k (ringing : List Nat) : CallContext := { queuedCall with ringing := ringing, tried := [1, 2] }
    let silent := asked ⟨0x0D, 7, p⟩ (quiet.modGroup 63 fun r =>
      { r with configured := true, members := [someMember 1 .available, someMember 2 .available] })
    let s (ringing : List Nat) := ((({ silent with calls := [k ringing] } : State).modExt 2 fun r =>
      { r with ringing := some 9, memberOf := [63] }).modGroup 63 fun r => { r with waiting := [9] })
    (MembersSetOp.read p = some ⟨63, l⟩ ∧ silent.Takes ⟨0x0D, 7, p⟩ ∧ (∀ r, (s r).Takes ⟨0x0D, 7, p⟩)) ∧
    ((silent.group 63).commitInProgress = false ∧ (l.map (·.ext)).Nodup ∧ l.length ≤ 32 ∧
      ((List.range 64).map fun g => (silent.group g).members.length).sum - (silent.group 63).members.length + l.length
        ≤ 1024 ∧ (∀ e ∈ l, (silent.ext e.ext).memberOf.length < 4) ∧ silent.override = false ∧
      (silent.group 63).waiting = [] ∧ ∀ x ∈ [2], (silent.ext x).ringing = none) ∧
    (∀ r, r = [2] ∨ r = [1, 2] → ((s r).group 63).waiting = [9] ∧ (s r).call? 9 = some (k r) ∧ ((s r).ext 2).ringing = some 9 ∧
      ((s r).ext 2).memberOf = [63] ∧ ((s r).ext 1).line ≠ .idle ∧ ((s r).ext 1023).line ≠ .idle) ∧
    ((k [2]).state = .waiting ∧ (k [2]).group = some 63 ∧ (∃ y ∈ (k [1, 2]).ringing, y ≠ 2) ∧ 1023 ∉ (k [2]).tried) := by
  refine ⟨⟨rfl, asked_takes _ rfl rfl (by decide), fun r => ⟨rfl, rfl, rfl, Nat.zero_lt_succ _⟩⟩, ?_, ?_, by decide⟩
  · decide +kernel
  · rintro r (rfl | rfl) <;> decide +kernel

/-- Two calls of group 63 and a third that enters between them. -/
theorem witness_WaitingListKeepsItsOrder_entry :
    let a : CallContext := { queuedCall with ref := 1, priority := 3, waitingSince := 5 }
    let b : CallContext := { queuedCall with ref := 2, priority := 1, waitingSince := 5 }
    let c : CallContext := { queuedCall with ref := 3, priority := 1, waitingSince := 4 }
    let s := ({ quiet with calls := [a, b, c] } : State).modGroup 63 fun r => { r with waiting := [1, 2] }
    s.call? 3 = some c ∧ (s.group 63).waiting = [1, 2] ∧ s.call? 1 = some a ∧ s.call? 2 = some b ∧
    ¬(a.priority < b.priority) ∧ a.priority ≠ b.priority := by decide +kernel

/-- Where extensions 0 and 1023 alone have been changed, no other has a pickup group, and 1023 has the one given to it. -/
theorem two_exts {s : State} {f g : ExtRecord → ExtRecord} {q y : Nat}
    (hs : s.exts = tabModify (tabModify State.reset.exts 0 f) 1023 g) (h : (s.ext y).pickupGroup = some q) :
    y = 0 ∨ (y = 1023 ∧ ∃ r, (g r).pickupGroup = some q) := by
  by_cases hy : 1023 = y
  · subst hy
    simp only [State.ext, hs] at h
    rw [tabGet_tabModify_same _ _ _ (by decide)] at h
    exact .inr ⟨rfl, _, h⟩
  · refine .inl (Classical.byContradiction fun hn => ?_)
    revert h
    simp only [State.ext, hs]
    rw [tabGet_tabModify_other _ _ _ hy, tabGet_tabModify_other _ _ _ (Ne.symm hn)]
    simp only [State.reset, tabGet_replicate]
    split <;> exact nofun

/-- Extension 0 asks for a group pickup: its pickup group 0 is not configured; none rings; and its assist list leads past
the unconfigured group 126 to group 127, where extension 1023 rings for a direct call, a hunt offer and a recall. -/
theorem witness_GroupPickupChoosesMark_asked :
    let p : List Byte := [0, 0, 0, 255, 255, 255, 255]
    let s (k : CallContext) (ringing : Option Nat) (own : Bool) : State := asked ⟨0x06, 7, p⟩
      { (quiet.modExt 0 fun r => { r with line := .offhook, pickupGroup := some 0 }).modExt 1023 fun r =>
          { r with pickupGroup := some 127, ringing := ringing } with
        calls := [k]
        pickups := tabModify (tabModify quiet.pickups 0 fun r => { r with configured := own, assist := [126, 127] }) 127
          fun r => { r with configured := true } }
    let d : CallContext := { someCall 9 .ringingDirect with ringing := [1023] }
    let h : CallContext := { queuedCall with ringing := [1023] }
    let r : CallContext := { someCall 9 .recallRinging with ringing := [1023], orbit := some 31 }
    let hunt := (s h (some 9) true).modGroup 63 fun g => { g with pickable := true, waiting := [9] }
    let recalls := (s r (some 9) true).modOrbit 31 fun o => { o with call := some 9 }
    PickupAskOp.read p = some ⟨0, 0, none, none⟩ ∧
    (∀ k ringing own, (s k ringing own).Takes ⟨0x06, 7, p⟩ ∧ ((s k ringing own).ext 0).line = .offhook ∧
      ((s k ringing own).ext 0).pickupGroup = some 0 ∧ ((s k ringing own).pickup 0).configured = own ∧
      (∀ y, ((s k ringing own).ext y).pickupGroup = some 0 → y = 0) ∧
      (∀ y, ((s k ringing own).ext y).pickupGroup = some 127 → y = 1023)) ∧
    (0 :: ((s d none true).pickup 0).assist.filter fun q => ((s d none true).pickup q).configured) = [0] ++ 127 :: [] ∧
    ((s d none true).ext 1023).ringing = none ∧
    ((s d (some 9) true).call? 9 = some d ∧ ((s d (some 9) true).ext 1023).memberOf = [] ∧ d.group = none) ∧
    (hunt.call? 9 = some h ∧ (hunt.ext 1023).ringing = some 9 ∧ h.group = some 63 ∧ (hunt.group 63).pickable = true ∧
      (hunt.group 63).waiting = [9] ∧ (∀ m ∈ (hunt.group 63).members, m.pending = false) ∧ h.orbit = none) ∧
    (recalls.call? 9 = some r ∧ (recalls.orbit 31).call = some 9 ∧ (recalls.orbit 31).announcePage = none ∧
      r.group = none) := by
  refine ⟨rfl, fun k ringing own => ⟨asked_takes _ rfl rfl (Nat.zero_lt_succ _), rfl, rfl, rfl, fun y hy => ?_,
    fun y hy => ?_⟩,
    by decide +kernel, by decide +kernel, by decide +kernel, by decide +kernel, by decide +kernel⟩
  · rcases two_exts (f := fun r => { r with line := .offhook, pickupGroup := some 0 })
      (g := fun r => { r with pickupGroup := some 127, ringing := ringing }) rfl hy with h | ⟨-, _, h⟩
    · exact h
    · exact absurd (Option.some.inj h) (by decide)
  · rcases two_exts (f := fun r => { r with line := .offhook, pickupGroup := some 0 })
      (g := fun r => { r with pickupGroup := some 127, ringing := ringing }) rfl hy with rfl | h
    · exact absurd (Option.some.inj hy) (by decide)
    · exact h.1

/-- Orbits in mode GROUP-ONLY and at the end of a recall ring whose recall group 63 is unconfigured, is full, and has
room. -/
theorem witness_OrbitTimersRecall_group :
    let k : CallContext := { someCall 9 .parked with orbit := some 31, priority := 3, depth := 2 }
    let l : CallContext := { k with state := .recallRinging, ringing := [1023] }
    let orbit (o : OrbitRecord) (k : CallContext) (s : State) : State :=
      { s with calls := [k] }.modOrbit 31 fun r => { o with call := r.call }
    let held : OrbitRecord := { OrbitRecord.atReset with
      state := .held, parker := some 1023, parkDue := some 0, recallMode := .groupOnly, recallGroup := some 63 }
    let ringing : OrbitRecord := { held with state := .recalling, parkDue := none, recallDue := some 0 }
    let group (configured : Bool) (depth : Nat) : State := (quiet.modOrbit 31 fun r => { r with call := some 9 }).modGroup 63
      fun r => { r with configured := configured, waitingDepth := depth, members := [someMember 5 .standby] }
    let takesIt (s : State) : Prop := (s.group 63).configured = true ∧ 9 ∉ (s.group 63).waiting ∧
      (s.group 63).waiting.length < (s.group 63).waitingDepth ∧
      (∀ m ∈ (s.group 63).members, (s.ext m.ext).line ≠ .idle) ∧
      ∃ m ∈ (s.group 63).members, m.effective = .available ∨ m.effective = .standby
    let s := orbit held k (group true 1)
    let t := orbit ringing l (group true 1)
    (s.running = true ∧ (s.orbit 31).call = some 9 ∧ (s.orbit 31).parker = some 1023 ∧ s.call? 9 = some k ∧
      (s.orbit 31).parkDue = some 0 ∧ (s.orbit 31).recallMode ≠ .parkerThenGroup ∧ (s.orbit 31).announcePage = none ∧
      (s.orbit 31).recallGroup = some 63 ∧ takesIt s) ∧
    (t.running = true ∧ (t.orbit 31).call = some 9 ∧ (t.orbit 31).parker = some 1023 ∧ t.call? 9 = some l ∧
      (t.orbit 31).recallDue = some 0 ∧ l.state = .recallRinging ∧ (t.orbit 31).announcePage = none ∧
      (t.ext 1023).memberOf = [] ∧ (t.orbit 31).recallGroup = some 63 ∧ takesIt t) ∧
    (((orbit held k (group false 1)).group 63).configured = false ∧
      ((orbit ringing l (group true 0)).group 63).waitingDepth ≤
        ((orbit ringing l (group true 0)).group 63).waiting.length) := by decide +kernel

/-- A frame of no request kind, below and above the codes, and a request of another kind behind another frame. -/
theorem witness_RequestsAreTakenInOrder_kinds :
    let f : Frame := ⟨0x24, 7, []⟩
    ((0 : Byte).toNat = 0 ∧ 36 < (37 : Byte).toNat ∧ 36 < (255 : Byte).toNat) ∧
    ((asked ⟨0x24, 8, []⟩ quiet).running = true ∧ (asked ⟨0x24, 8, []⟩ quiet).link.resetAfter = none ∧
      (asked ⟨0x24, 8, []⟩ quiet).link.requests ≠ [] ∧
      (asked ⟨0x24, 8, []⟩ quiet).link.requests.head? ≠ some f) := by decide

/-- A group whose members have been offered two calls: call 9 rings extensions 0 and 1023, call 65534 waits. -/
def ringAll (waiting : List Nat) : State :=
  let k : CallContext := { queuedCall with ringing := [0, 1023], tried := [0, 1023], noAnswerDue := some 9 }
  let on (r : ExtRecord) : ExtRecord := { r with line := .idle, ringing := some 9, memberOf := [63] }
  (((({ quiet with calls := [k, { queuedCall with ref := 65534 }] } : State).modExt 0 on).modExt 1023 on).modGroup 63
    fun r => { r with configured := true, discipline := .ringAll, waiting := waiting
                      members := [someMember 0 .available, someMember 1023 .available] })

/-- Extension 0 answers the call that also rings 1023, alone in its group and with a call behind it. -/
theorem witness_CallAnswerConnectsDirectCall_ringAll :
    let p : List Byte := [0, 9, 0, 0]
    let k : CallContext := { queuedCall with ringing := [0, 1023], tried := [0, 1023], noAnswerDue := some 9 }
    let q : CallContext := { queuedCall with ref := 65534 }
    let s (waiting : List Nat) := asked ⟨0x04, 7, p⟩ (ringAll waiting)
    CallAnswerOp.read p = some ⟨9, 0⟩ ∧ (∀ l, (s l).Takes ⟨0x04, 7, p⟩) ∧
    ∀ l ∈ [[9], [9, 65534]], (s l).call? 9 = some k ∧ ((s l).ext 0).ringing = some 9 ∧ k.state = .waiting ∧
      k.group = some 63 ∧ k.orbit = none ∧ (∀ m ∈ ((s l).group 63).members, m.pending = false) ∧ 0 ∈ k.ringing ∧
      k.ringing.filter (· != 0) = [1023] ∧ ((s l).group 63).waiting = l ∧ (∀ h ∈ ((s l).ext 1023).memberOf, h = 63) ∧
      (s l).call? 65534 = some q ∧ q.ringing = [] ∧ 1023 ∉ q.tried ∧ ((s l).ext 1023).line = .idle ∧
      ((s l).ext 1023).memberOf = [63] ∧
      (∃ m ∈ ((s l).group 63).members, m.ext = 1023 ∧ m.effective = .available) ∧
      ((s l).group 63).configured = true ∧ (s l).held 63 = false ∧ ((s l).group 63).discipline ≠ .circular := by
  refine ⟨rfl, fun l => asked_takes _ rfl rfl (Nat.zero_lt_succ _), fun l hl => ?_⟩
  simp only [List.mem_cons, List.not_mem_nil, or_false] at hl
  rcases hl with rfl | rfl <;> decide +kernel

/-- Group 63 under the override, its safety flag set and cleared by the request. -/
theorem witness_GroupSetWritesRecord_override :
    let set := (groupPayload 1).set 16 1
    let s (safety : Bool) : State := { (quiet.modGroup 63 fun r =>
      { r with configured := true, safety := safety, members := [someMember 1023 .signedOff] }) with override := true }
    (GroupSetOp.read set = some { groupOp 1 with safety := 1 } ∧
      ((groupOp 1).fields.map fun f => (f.safety, f.configured)) = some (false, true) ∧
      (({ groupOp 1 with safety := 1 } : GroupSetOp).fields.map fun f => (f.safety, f.configured)) =
        some (true, true)) ∧
    (∀ b p, (asked ⟨0x0C, 7, p⟩ (s b)).Takes ⟨0x0C, 7, p⟩) ∧
    ∀ b, (s b).override = true ∧ ((s b).group 63).safety = b ∧ ((s b).group 63).waiting = [] ∧ (s b).held 63 = false ∧
      ((s b).group 63).members.filter (fun m => m.programmed ≠ .available) = [someMember 1023 .signedOff] := by
  refine ⟨⟨rfl, rfl, rfl⟩, fun b p => asked_takes _ rfl rfl (Nat.zero_lt_succ _), fun b => ?_⟩
  cases b <;> decide +kernel

/-- A SIGNED-OFF member joins group 63, a safety group under the override. -/
theorem witness_MembersSetFillsGroup_override :
    let p : List Byte := [63, 1, 3, 255, 15, 3]
    let s := asked ⟨0x0D, 7, p⟩
      { (quiet.modGroup 63 fun r => { r with configured := true, safety := true }) with override := true }
    MembersSetOp.read p = some ⟨63, [⟨1023, 15, 3⟩]⟩ ∧ s.Takes ⟨0x0D, 7, p⟩ ∧ s.override = true ∧
    (s.group 63).safety = true ∧ (s.group 63).members = [] ∧ (s.group 63).waiting = [] ∧
    (s.ext 1023).memberOf.length < 4 ∧ readPresence 3 = some .signedOff := by
  refine ⟨rfl, asked_takes _ rfl rfl (by decide), rfl, ?_⟩
  decide +kernel

/-- A commit of group 63, a safety group under the override, for a member staged to STANDBY. -/
theorem witness_RosterCommitAppliesOrWaits_override :
    let s := asked ⟨0x10, 7, [63]⟩ { (oneMember.modGroup 63 fun r =>
      { r with safety := true, members := [{ someMember 1023 .available with staged := some .standby }] }) with
        override := true }
    s.Takes ⟨0x10, 7, [63]⟩ ∧ (s.override = true ∧ (s.group 63).safety = true) ∧
    (s.group 63).commitInProgress = false ∧ (s.group 63).waiting = [] ∧ ((s.group 63).members.map (·.ext)).Nodup ∧
    ∀ m ∈ (s.group 63).members, m.pending = false ∧ s.offerAt 63 m.ext = none := by
  refine ⟨asked_takes _ rfl rfl (by decide), ?_⟩
  decide +kernel

/-- The offer of call 9 at extension 1023, whose membership of group 63 is pending to SIGNED-OFF, ends in each of the
four ways; the other member is on another call. -/
theorem witness_RosterCommitAppliesOrWaits_ends :
    let k : CallContext := { queuedCall with ringing := [1023], tried := [1023], noAnswerDue := some 0 }
    let m : Membership := { someMember 1023 .available with staged := some .signedOff, pending := true }
    let s := ((({ quiet with calls := [k] } : State).modExt 1023 fun r =>
      { r with line := .idle, ringing := some 9, memberOf := [63] }).modGroup 63 fun r =>
        { r with configured := true, commitInProgress := true, waiting := [9], members := [m, someMember 0 .standby] })
    (s.call? 9 = some k ∧ k.state = .waiting ∧ k.group = some 63 ∧ k.orbit = none ∧ k.ringing = [1023] ∧
      (s.ext 1023).ringing = some 9 ∧ (s.group 63).waiting = [9] ∧ (∀ h ∈ (s.ext 1023).memberOf, h = 63) ∧
      (s.group 63).members.find? (·.ext = 1023) = some m ∧ m.pending = true ∧ m.staged = some .signedOff ∧
      ∀ b ∈ (s.group 63).members, b.ext ≠ 1023 → b.pending = false) ∧
    ((∀ b ∈ (s.group 63).members, b.ext ≠ 1023 → (s.ext b.ext).line ≠ .idle) ∧
      ∃ b ∈ (s.group 63).members, b.ext ≠ 1023 ∧ (b.effective = .available ∨ b.effective = .standby) ∧
        b.ext ∉ k.tried) ∧
    (CallAnswerOp.read [0, 9, 3, 255] = some ⟨9, 1023⟩ ∧ readNumber2 [0, 9] = some 9 ∧
      LineReportOp.read [3, 255, 1] = some ⟨1023, 1⟩ ∧ ∀ kind p, (asked ⟨kind, 7, p⟩ s).Takes ⟨kind, 7, p⟩) ∧
    (s.running = true ∧ k.noAnswerDue = some 0 ∧ 0 ≤ s.clock ∧ 1023 ∈ k.tried) := by
  refine ⟨by decide +kernel, by decide +kernel,
    ⟨rfl, rfl, rfl, fun kind p => asked_takes _ rfl rfl (Nat.zero_lt_succ _)⟩, by decide +kernel⟩

/-- The offer of call 9 at extension 1023 goes unanswered in a LINEAR group: the next member is free; every member has
been tried, below and at the pass limit, with every member busy and with one free; and at the limit with an EXTERNAL
target. -/
theorem witness_CallTimersExpire_passes :
    let k (tried : List Nat) (passes : Nat) : CallContext :=
      { queuedCall with ringing := [1023], tried := tried, passCount := passes, noAnswerDue := some 0 }
    let s (tried : List Nat) (passes : Nat) (line : LineState) (target : Option OverflowTarget) : State :=
      (((({ quiet with calls := [k tried passes] } : State).modExt 0 fun r => { r with line := line }).modExt 1023
        fun r => { r with line := line, ringing := some 9, memberOf := [63] }).modGroup 63 fun r =>
          { r with configured := true, discipline := .linear, passLimit := 4, waiting := [9], overflow := target
                   members := [someMember 0 .available, someMember 1023 .available] })
    let first (t : State) (tried : List Nat) := (t.group 63).members.find? (fun m =>
      m.effective = .available && (t.ext m.ext).line = .idle && ((t.ext m.ext).ringing.isNone || m.ext = 1023)
        && m.ext ∉ tried)
    let starts (t : State) (k : CallContext) : Prop := t.running = true ∧ t.call? 9 = some k ∧ k.noAnswerDue = some 0 ∧
      0 ≤ t.clock ∧ k.state = .waiting ∧ k.group = some 63 ∧ k.ringing = [1023] ∧ 1023 ∈ k.tried ∧
      (∀ h ∈ (t.ext 1023).memberOf, h = 63) ∧ (t.group 63).waiting = [9] ∧
      (∀ m ∈ (t.group 63).members, m.pending = false) ∧ (t.group 63).configured = true ∧ t.held 63 = false ∧
      (t.group 63).discipline = .linear
    let spent (t : State) (k : CallContext) : Prop :=
      ∀ m ∈ (t.group 63).members, m.effective = .available ∨ m.effective = .standby → m.ext ∈ k.tried
    let a := s [1023] 0 .idle none
    let b (passes : Nat) (line : LineState) := s [0, 1023] passes line none
    let c := s [0, 1023] 3 .idle (some (.external 65534))
    (starts a (k [1023] 0) ∧ first a [1023] = some (someMember 0 .available)) ∧
    (starts (b 2 .out) (k [0, 1023] 2) ∧ spent (b 2 .out) (k [0, 1023] 2) ∧ 2 + 1 < ((b 2 .out).group 63).passLimit ∧
      ∀ m ∈ ((b 2 .out).group 63).members, ((b 2 .out).ext m.ext).line ≠ .idle) ∧
    (starts (b 3 .idle) (k [0, 1023] 3) ∧ spent (b 3 .idle) (k [0, 1023] 3) ∧ ((b 3 .idle).group 63).passLimit ≤ 3 + 1 ∧
      ((b 3 .idle).group 63).overflow = none ∧ first (b 3 .idle) [] = some (someMember 0 .available)) ∧
    (starts c (k [0, 1023] 3) ∧ spent c (k [0, 1023] 3) ∧ (c.group 63).passLimit ≤ 3 + 1 ∧
      (c.group 63).overflow = some (.external 65534) ∧ (k [0, 1023] 3).depth < 3) := by
  refine ⟨?_, ?_, ?_, ?_⟩ <;> decide +kernel

/-- The maximum wait of a call that rings extension 1023 ends: with a call behind it that the extension can take, and
alone in a group that is its own target. -/
theorem witness_CallTimersExpire_ringing :
    let k : CallContext :=
      { queuedCall with ringing := [1023], tried := [1023], noAnswerDue := some 9, maxWaitDue := some 0 }
    let q : CallContext := { queuedCall with ref := 65534 }
    let s (waiting : List Nat) (line : LineState) (target : Option OverflowTarget) : State :=
      (({ quiet with calls := [k, q] } : State).modExt 1023 fun r =>
        { r with line := line, ringing := some 9, memberOf := [63] }).modGroup 63 fun r =>
          { r with configured := true, waitingDepth := 1, waiting := waiting, overflow := target
                   members := [someMember 1023 .available] }
    let starts (t : State) : Prop := t.running = true ∧ t.call? 9 = some k ∧ k.maxWaitDue = some 0 ∧ 0 ≤ t.clock ∧
      k.state = .waiting ∧ k.group = some 63 ∧ k.ringing = [1023] ∧ (∀ m ∈ (t.group 63).members, m.pending = false) ∧
      ∀ h ∈ (t.ext 1023).memberOf, h = 63
    let a := s [9, 65534] .idle none
    let b := s [9] .out (some (.group 63))
    (starts a ∧ (a.group 63).overflow = none ∧ (a.group 63).waiting = [9, 65534] ∧ a.call? 65534 = some q ∧
      q.ringing = [] ∧ 1023 ∉ q.tried ∧ (a.ext 1023).line = .idle ∧ (a.ext 1023).memberOf = [63] ∧
      (∃ m ∈ (a.group 63).members, m.ext = 1023 ∧ m.effective = .available) ∧ (a.group 63).configured = true ∧
      a.held 63 = false ∧ (a.group 63).discipline ≠ .circular) ∧
    (starts b ∧ (b.group 63).waiting = [9] ∧ (b.group 63).overflow = some (.group 63) ∧ k.depth < 3 ∧
      (b.group 63).configured = true ∧ 9 ∉ (b.group 63).waiting.filter (· != 9) ∧
      ((b.group 63).waiting.filter (· != 9)).length < (b.group 63).waitingDepth ∧
      (∀ m ∈ (b.group 63).members, (b.ext m.ext).line ≠ .idle) ∧
      ∃ m ∈ (b.group 63).members, m.effective = .available ∨ m.effective = .standby) := by decide +kernel

/-- Extension 0 asks for a directed pickup: without a target; from a target whose pickup group is closed, and is not
configured; of a direct call by the assist list; and, from an open group, of a hunt offer and a recall ring. -/
theorem witness_DirectedPickupConnects_others :
    let p : List Byte := [0, 0, 1, 3, 255, 255, 255]
    let s (k : CallContext) (configured directedOpen : Bool) (assist : List Nat) : State := asked ⟨0x06, 7, p⟩
      { (quiet.modExt 0 fun r => { r with line := .offhook, pickupGroup := some 0 }).modExt 1023 fun r =>
          { r with pickupGroup := some 127, ringing := some k.ref, memberOf := k.group.toList } with
        calls := [k]
        pickups := tabModify (tabModify quiet.pickups 0 fun r => { r with configured := true, assist := assist }) 127
          fun r => { r with configured := configured, directedOpen := directedOpen } }
    let h : CallContext := { queuedCall with ringing := [1023] }
    let r : CallContext := { someCall 9 .recallRinging with ringing := [1023], orbit := some 31 }
    let permitted (t : State) (q : Nat) : Bool := (t.pickup q).configured && ((t.pickup q).directedOpen ||
      match (t.ext 0).pickupGroup with
      | none => false
      | some own => (t.pickup own).configured && (own = q || (t.pickup own).assist.contains q))
    let hunt := (s h true true []).modGroup 63 fun g => { g with pickable := false, waiting := [9] }
    let recalls := (s r true true []).modOrbit 31 fun o => { o with call := some 9 }
    (PickupAskOp.read [0, 0, 1, 255, 255, 255, 255] = some ⟨0, 1, none, none⟩ ∧
      (asked ⟨0x06, 7, [0, 0, 1, 255, 255, 255, 255]⟩ quiet).Takes ⟨0x06, 7, [0, 0, 1, 255, 255, 255, 255]⟩) ∧
    (PickupAskOp.read p = some ⟨0, 1, some 1023, none⟩ ∧ (∀ k c d a, (s k c d a).Takes ⟨0x06, 7, p⟩) ∧
      ∀ k ∈ [directCall, h, r], ((s k true true []).ext 0).line = .offhook ∧
        ((s k true true []).ext 1023).pickupGroup = some 127 ∧ ((s k true true []).ext 1023).ringing = some k.ref) ∧
    (permitted (s directCall true false []) 127 = false ∧ permitted (s directCall false true [127]) 127 = false ∧
      permitted (s directCall true false [127]) 127 = true ∧ permitted hunt 127 = true ∧
      permitted recalls 127 = true) ∧
    ((s directCall true false [127]).call? 65534 = some directCall ∧ directCall.ringing = [1023] ∧
      ((s directCall true false [127]).ext 1023).memberOf = []) ∧
    (hunt.call? 9 = some h ∧ h.state = .waiting ∧ h.group = some 63 ∧ h.orbit = none ∧ (hunt.group 63).waiting = [9] ∧
      (∀ m ∈ (hunt.group 63).members, m.pending = false) ∧ (hunt.group 63).pickable = false ∧
      ∀ g ∈ (hunt.ext 1023).memberOf, g = 63) ∧
    (recalls.call? 9 = some r ∧ r.state = .recallRinging ∧ r.group = none ∧ (recalls.orbit 31).call = some 9 ∧
      (recalls.orbit 31).announcePage = none ∧ (recalls.ext 1023).memberOf = []) := by
  refine ⟨⟨rfl, asked_takes _ rfl rfl (by decide)⟩,
    ⟨rfl, fun k c d a => asked_takes _ rfl rfl (Nat.zero_lt_succ _), ?_⟩, ?_, ?_, ?_, ?_⟩ <;> decide +kernel

/-- A park with its announcement asked for, in an orbit whose zone set is empty, and holds a faulted zone. -/
theorem witness_ParkAskHoldsCall_announced :
    let p : List Byte := [255, 254, 3, 255, 31, 1]
    let s (zones : ZoneSet) : State := asked ⟨0x07, 7, p⟩ { (talking.modOrbit 31 fun r =>
        { r with announceSet := some 31 }).modAmp 63 fun a => { a with fault := some .noReply } with
      zoneSets := tabModify quiet.zoneSets 31 fun _ => zones }
    let one := s 0x8000000000000000#64
    (ParkAskOp.read p = some ⟨65534, 1023, some 31, 1⟩ ∧ ∀ z, (s z).Takes ⟨0x07, 7, p⟩) ∧
    (∀ z, (s z).call? 65534 = some connectedCall ∧ ((s z).orbit 31).state = .free ∧
      ((s z).orbit 31).announceSet = some 31) ∧
    (s 0).targetOf .normal ((s 0).zoneSet 31) = 0 ∧
    (one.targetOf .normal (one.zoneSet 31) = 0x8000000000000000#64 ∧ one.pages = [] ∧ one.ZonesQuiet ∧
      ∀ z, zoneIn 0x8000000000000000#64 z = true → (one.amp z).fault ≠ none) ∧
    24 ≤ ((List.replicate 24 (somePage .queued)).filter fun r => r.alarm.isNone).length := by
  refine ⟨⟨rfl, fun z => asked_takes _ rfl rfl (Nat.zero_lt_succ _)⟩, fun z => ⟨rfl, rfl, rfl⟩, by decide +kernel,
    ⟨by decide +kernel, rfl, zones_quiet rfl rfl, only_zone_faulted (by decide +kernel)⟩, by decide +kernel⟩

/-- Extension 1023 retrieves from orbit 31 a call of group 63 that is parked, and one that rings extension 0, the
parker. -/
theorem witness_RetrieveAskConnects_others :
    let p : List Byte := [31, 3, 255, 255, 255]
    let k : CallContext := { someCall 65534 .parked with group := some 63, orbit := some 31 }
    let r : CallContext := { k with state := .recallRinging, ringing := [0] }
    let s (k : CallContext) : State := asked ⟨0x08, 7, p⟩
      ((({ quiet with calls := [k] } : State).modExt 1023 fun x => { x with line := .offhook }).modOrbit 31 fun o =>
        { o with call := some 65534, parker := some 0 })
    RetrieveAskOp.read p = some ⟨31, 1023, none⟩ ∧
    (∀ k, (s k).Takes ⟨0x08, 7, p⟩) ∧
    (∀ l ∈ [k, r], ((s l).ext 1023).line = .offhook ∧ ((s l).orbit 31).call = some 65534 ∧
      ((s l).orbit 31).announcePage = none) ∧
    ((s k).call? 65534 = some k ∧ k.state = .parked ∧ k.ringing = [] ∧ k.orbit = some 31) ∧
    ((s r).call? 65534 = some r ∧ r.state = .recallRinging ∧ r.ringing = [0] ∧ r.orbit = some 31 ∧ 0 ≠ 1023 ∧
      ((s r).ext 0).memberOf = []) := by
  refine ⟨rfl, fun k => asked_takes _ rfl rfl (Nat.zero_lt_succ _), by decide +kernel, by decide +kernel,
    by decide +kernel⟩

/-- PAGE-STOP of the only page: OPENING and LIVE in zone 63, with and without a hang time; and of a CLOSING one. -/
theorem witness_WaitingPageIsRemoved_started :
    let f : Frame := ⟨0x0A, 7, [0, 255]⟩
    let z (st : ZoneState) (r : PageRecord) (hang : Nat) : State := asked f
      (({ quiet with pages := [r], paging := { quiet.paging with hangTime := hang } } : State).modZone 63 fun z =>
        { z with state := st })
    let a := z (.opening 255) (somePage .opening)
    let b := z (.live 255) { somePage .live with audioSent := true }
    let c := asked f { quiet with pages := [somePage .closing] }
    readNumber2 [0, 255] = some 255 ∧ (somePage .opening).cls ≠ .emergency ∧
    (∀ hang, (a hang).Takes f ∧ (b hang).Takes f ∧ ((a hang).zone 63).state = .opening 255 ∧
      ((b hang).zone 63).state = .live 255 ∧ (∀ y, y ≠ 63 → ((a hang).zone y).state = .idle) ∧
      (∀ y, y ≠ 63 → ((b hang).zone y).state = .idle) ∧ (a hang).covered = 0 ∧ (a hang).paging.hangTime = hang ∧
      unsolicitedCount (a hang).link.output < 38) ∧
    (c.Takes f ∧ c.page? 255 = some (somePage .closing) ∧ (somePage .closing).alarm = none) := by
  refine ⟨rfl, by decide, fun hang => ⟨asked_takes _ rfl rfl (Nat.zero_lt_succ _),
    asked_takes _ rfl rfl (Nat.zero_lt_succ _), rfl, rfl, fun y hy => ?_, fun y hy => ?_, rfl, rfl, Nat.zero_lt_succ _⟩,
    asked_takes _ rfl rfl (by decide), by decide +kernel, rfl⟩
  · exact live_alone (f := fun z => { z with state := .opening 255 }) hy rfl
  · exact live_alone (f := fun z => { z with state := .live 255 }) hy rfl

/-- A ZONE-SET of zone 63 with the limits 10 to 20, whatever the zone's state, the class of the page there and the code
in force, outside the limits or inside them. -/
theorem witness_LevelUnitCommands_clamped :
    let p : List Byte := [63, 0, 160, 80, 200, 10, 20, 1, 1, 0, 50, 0]
    let s (st : ZoneState) (cls : PageClass) (gain : Nat) : State := asked ⟨0x15, 7, p⟩
      ((({ quiet with pages := [{ somePage .live with cls := cls }] } : State).modZone 63 fun z =>
        { z with state := st }).modAmp 63 fun a => { a with commanded := { a.commanded with gain := gain } })
    ZoneSetOp.read p = some ⟨63, 160, 80, 200, 10, 20, 1, 1, 50, 0⟩ ∧
    (∀ st cls gain, (s st cls gain).Takes ⟨0x15, 7, p⟩ ∧ ((s st cls gain).zone 63).state = st ∧
      ((s st cls gain).amp 63).commanded.gain = gain ∧
      (s st cls gain).page? 255 = some { somePage .live with cls := cls }) ∧
    (PageClass.urgent ≠ .emergency ∧ 20 < 21 ∧ 9 < 10 ∧ 10 ≤ 15 ∧ 15 ≤ 20) := by
  refine ⟨rfl, fun st cls gain => ⟨asked_takes _ rfl rfl (Nat.zero_lt_succ _), rfl, rfl, rfl⟩, by decide⟩

end Sys2Proof.Tests
end

section
/-! PROOF. Each field encoding of R186 reads back as the field it was written from, and with it each payload. -/

namespace Sys2Proof.Machine

/-! ## Fields -/

@[simp] theorem num1_ofNat {n : Nat} (h : n < 256) : num1 (BitVec.ofNat 8 n) = n := by
  simp only [num1, BitVec.toNat_ofNat]; omega

@[simp] theorem num2_ofNat {n : Nat} (h : n < 65536) : num2 (BitVec.ofNat 8 (n / 256)) (BitVec.ofNat 8 n) = n := by
  simp only [num2, BitVec.toNat_ofNat]; omega

@[simp] theorem readForm_ofNat {f : Form} (hc : f.code < 256) (hv : f.value < 65536) :
    readForm (BitVec.ofNat 8 f.code) (BitVec.ofNat 8 (f.value / 256)) (BitVec.ofNat 8 f.value) = f := by
  simp [readForm, hc, hv]

/-- The byte of a one-byte field that may be absent (R2). -/
def optByte (n : Option Nat) : Byte := n.elim 0xFF (BitVec.ofNat 8)
/-- The high byte of a two-byte field that may be absent (R2). -/
def optHigh (n : Option Nat) : Byte := n.elim 0xFF fun n => BitVec.ofNat 8 (n / 256)

theorem putOpt1_eq (n : Option Nat) : putOpt1 n = [optByte n] := by cases n <;> rfl

theorem putOpt2_eq (n : Option Nat) : putOpt2 n = [optHigh n, optByte n] := by cases n <;> rfl

/-- A present field is not all ones, so it is not taken for the absent one. -/
theorem opt1_optByte {o : Option Nat} (h : ∀ n, o = some n → n < 255) : opt1 (optByte o) = o := by
  cases o with
  | none => rfl
  | some n =>
    have hn : n < 255 := h n rfl
    have present : BitVec.ofNat 8 n ≠ 0xFF := by bv_omega
    calc opt1 (BitVec.ofNat 8 n) = some (num1 (BitVec.ofNat 8 n)) := if_neg present
      _ = some n := by rw [num1_ofNat (by omega)]

/-- A present field is not all ones, so it is not taken for the absent one. -/
theorem opt2_optByte {o : Option Nat} (h : ∀ n, o = some n → n < 65535) : opt2 (optHigh o) (optByte o) = o := by
  cases o with
  | none => rfl
  | some n =>
    have hn : n < 65535 := h n rfl
    have present : ¬ (BitVec.ofNat 8 (n / 256) = 0xFF ∧ BitVec.ofNat 8 n = 0xFF) := by
      rintro ⟨hhigh, hlow⟩
      have both : num2 (BitVec.ofNat 8 (n / 256)) (BitVec.ofNat 8 n) = 65535 := by rw [hhigh, hlow]; rfl
      rw [num2_ofNat (by omega)] at both
      omega
    calc opt2 (BitVec.ofNat 8 (n / 256)) (BitVec.ofNat 8 n)
        = some (num2 (BitVec.ofNat 8 (n / 256)) (BitVec.ofNat 8 n)) := if_neg present
      _ = some n := by rw [num2_ofNat (by omega)]

/-- The two halves of a word make the word. -/
theorem halves_append (w : Word16) : w.extractLsb' 8 8 ++ w.extractLsb' 0 8 = w :=
  (BitVec.extractLsb'_append_extractLsb'_eq_extractLsb' rfl).trans BitVec.extractLsb'_eq_self

theorem signed2_halves {i : Int} (h : -32768 ≤ i ∧ i ≤ 32767) :
    signed2 ((BitVec.ofInt 16 i).extractLsb' 8 8) ((BitVec.ofInt 16 i).extractLsb' 0 8) = i := by
  rw [signed2, halves_append]
  exact BitVec.toInt_ofInt_eq_self (by decide) (by omega) (by omega)

theorem putZones_eq (z : ZoneSet) : putZones z =
    [z.extractLsb' 56 8, z.extractLsb' 48 8, z.extractLsb' 40 8, z.extractLsb' 32 8, z.extractLsb' 24 8,
      z.extractLsb' 16 8, z.extractLsb' 8 8, z.extractLsb' 0 8] := rfl

@[simp] theorem length_putZones (z : ZoneSet) : (putZones z).length = 8 := rfl

/-- The eight bytes of a zone set, high byte first, make the set. -/
theorem zones8_extractLsb' (z : ZoneSet) :
    zones8 (z.extractLsb' 56 8) (z.extractLsb' 48 8) (z.extractLsb' 40 8) (z.extractLsb' 32 8) (z.extractLsb' 24 8)
      (z.extractLsb' 16 8) (z.extractLsb' 8 8) (z.extractLsb' 0 8) = z := by
  have joined (low high len : Nat) (h : high = low + 8) :
      z.extractLsb' high len ++ z.extractLsb' low 8 = z.extractLsb' low (len + 8) :=
    BitVec.extractLsb'_append_extractLsb'_eq_extractLsb' h
  rw [zones8, joined 48 56 8 rfl, joined 40 48 16 rfl, joined 32 40 24 rfl, joined 24 32 32 rfl, joined 16 24 40 rfl,
    joined 8 16 48 rfl, joined 0 8 56 rfl, BitVec.extractLsb'_eq_self]

@[simp] theorem readZones_putZones (z : ZoneSet) (rest : List Byte) : readZones (putZones z ++ rest) = z :=
  zones8_extractLsb' z

/-! ## Lists of fields -/

theorem flatMap_put1 (l : List Nat) : l.flatMap put1 = l.map (BitVec.ofNat 8) := by
  rw [List.map_eq_flatMap]; rfl

theorem map_num1_map_ofNat {l : List Nat} (h : ∀ n ∈ l, n < 256) : (l.map (BitVec.ofNat 8)).map num1 = l := by
  rw [List.map_map]
  exact (List.map_congr_left fun n hn => num1_ofNat (h n hn)).trans (List.map_id l)

/-- Entries of one length each take up their number times that length. -/
theorem length_flatMap_of_const {α : Type} {f : α → List Byte} {k : Nat} (h : ∀ a, (f a).length = k) (l : List α) :
    (l.flatMap f).length = k * l.length := by
  simp [List.length_flatMap, h, Nat.mul_comm]

@[simp] theorem MemberEntry.length_bytes (e : MemberEntry) : e.bytes.length = 4 := rfl

@[simp] theorem StageEntry.length_bytes (e : StageEntry) : e.bytes.length = 3 := rfl

theorem readMemberEntries_flatMap {l : List MemberEntry}
    (h : ∀ e ∈ l, e.ext < 65536 ∧ e.weight < 256 ∧ e.presence < 256) :
    readMemberEntries (l.flatMap MemberEntry.bytes) = some l := by
  induction l with
  | nil => rfl
  | cons e l ih =>
    obtain ⟨⟨hext, hweight, hpresence⟩, hrest⟩ := List.forall_mem_cons.mp h
    simp [MemberEntry.bytes, put1, put2, readMemberEntries, ih hrest, hext, hweight, hpresence]

theorem readStageEntries_flatMap {l : List StageEntry} (h : ∀ e ∈ l, e.ext < 65536 ∧ e.presence < 256) :
    readStageEntries (l.flatMap StageEntry.bytes) = some l := by
  induction l with
  | nil => rfl
  | cons e l ih =>
    obtain ⟨⟨hext, hpresence⟩, hrest⟩ := List.forall_mem_cons.mp h
    simp [StageEntry.bytes, put1, put2, readStageEntries, ih hrest, hext, hpresence]

/-- What a map payload holds for one alarm input. -/
def MapInputOp.bytes (i : MapInputOp) : List Byte := put1 i.mode ++ putZones i.zones

@[simp] theorem MapInputOp.length_bytes (i : MapInputOp) : i.bytes.length = 9 := rfl

theorem readMapInputs_flatMap {l : List MapInputOp} (h : ∀ i ∈ l, i.mode < 256) (rest : List Byte) :
    readMapInputs l.length (l.flatMap MapInputOp.bytes ++ rest) = l := by
  induction l with
  | nil => rfl
  | cons i l ih =>
    obtain ⟨hmode, hrest⟩ := List.forall_mem_cons.mp h
    simp [MapInputOp.bytes, put1, readMapInputs, hmode, ih hrest, List.drop_left' (length_putZones i.zones)]

/-! ## Requests with fields of fixed length -/

theorem LineReportOp.read_bytes {o : LineReportOp} (hext : o.ext < 65536) (hstate : o.state < 256) :
    LineReportOp.read o.bytes = some o := by
  simp [LineReportOp.read, LineReportOp.bytes, put1, put2, hext, hstate]

theorem DirectRingOp.read_bytes {o : DirectRingOp} (hcall : o.call < 65536) (hext : o.ext < 65536)
    (hpriority : ∀ p, o.priority = some p → p < 255) : DirectRingOp.read o.bytes = some o := by
  simp [DirectRingOp.read, DirectRingOp.bytes, put2, putOpt1_eq, hcall, hext, opt1_optByte hpriority]

theorem CallAnswerOp.read_bytes {o : CallAnswerOp} (hcall : o.call < 65536) (hext : o.ext < 65536) :
    CallAnswerOp.read o.bytes = some o := by
  simp [CallAnswerOp.read, CallAnswerOp.bytes, put2, hcall, hext]

theorem readNumber2_put2 {n : Nat} (h : n < 65536) : readNumber2 (put2 n) = some n := by
  simp [readNumber2, put2, h]

theorem readNumber1_put1 {n : Nat} (h : n < 256) : readNumber1 (put1 n) = some n := by
  simp [readNumber1, put1, h]

theorem GroupSetOp.read_bytes {o : GroupSetOp} (hgroup : o.group < 256) (hconfigured : o.configured < 256)
    (hdiscipline : o.discipline < 256) (hnoAnswer : o.noAnswerTime < 65536) (hpass : o.passLimit < 256)
    (hdepth : o.waitingDepth < 256) (hmaximum : o.maximumWait < 65536) (hcode : o.overflow.code < 256)
    (hvalue : o.overflow.value < 65536) (henable : o.traceEnable < 256) (haccept : o.traceAccept < 256)
    (hthrough : o.traceThrough < 256) (hpickable : o.pickable < 256) (hsafety : o.safety < 256)
    (hhold : o.emergencyHold < 256) (hhome : ∀ n, o.homeSet = some n → n < 255)
    (hauto : ∀ n, o.autoSet = some n → n < 255) (hthreshold : o.autoThreshold < 65536) :
    GroupSetOp.read o.bytes = some o := by
  simp [GroupSetOp.read, GroupSetOp.bytes, put1, put2, putForm, putOpt1_eq, opt1_optByte hhome, opt1_optByte hauto,
    *]

theorem RosterQueryOp.read_bytes {o : RosterQueryOp} (hgroup : o.group < 256) (hfirst : o.first < 256) :
    RosterQueryOp.read o.bytes = some o := by
  simp [RosterQueryOp.read, RosterQueryOp.bytes, put1, hgroup, hfirst]

theorem CallArriveOp.read_bytes {o : CallArriveOp} (hcall : o.call < 65536) (hgroup : o.group < 256)
    (hpriority : o.priority < 256) (hclass : o.callerClass < 256) : CallArriveOp.read o.bytes = some o := by
  simp [CallArriveOp.read, CallArriveOp.bytes, put1, put2, hcall, hgroup, hpriority, hclass]

theorem readFallback_putOpt2 {c : Option Nat} (h : ∀ n, c = some n → n < 65535) :
    readFallback (putOpt2 c) = some c := by
  simp [readFallback, putOpt2_eq, opt2_optByte h]

theorem PickupAskOp.read_bytes {o : PickupAskOp} (hpicker : o.picker < 65536) (hmode : o.mode < 256)
    (htarget : ∀ n, o.target = some n → n < 65535) (hexpected : ∀ n, o.expected = some n → n < 65535) :
    PickupAskOp.read o.bytes = some o := by
  simp [PickupAskOp.read, PickupAskOp.bytes, put1, put2, putOpt2_eq, hpicker, hmode, opt2_optByte htarget,
    opt2_optByte hexpected]

theorem ExtSetOp.read_bytes {o : ExtSetOp} (hext : o.ext < 65536) (hgroup : ∀ n, o.pickupGroup = some n → n < 255) :
    ExtSetOp.read o.bytes = some o := by
  simp [ExtSetOp.read, ExtSetOp.bytes, put2, putOpt1_eq, hext, opt1_optByte hgroup]

theorem ParkAskOp.read_bytes {o : ParkAskOp} (hcall : o.call < 65536) (hparker : o.parker < 65536)
    (horbit : ∀ n, o.orbit = some n → n < 255) (hannounce : o.announce < 256) : ParkAskOp.read o.bytes = some o := by
  simp [ParkAskOp.read, ParkAskOp.bytes, put1, put2, putOpt1_eq, hcall, hparker, opt1_optByte horbit, hannounce]

theorem OrbitSetOp.read_bytes {o : OrbitSetOp} (horbit : o.orbit < 256) (hpark : o.parkTime < 65536)
    (hrecall : o.recallRingTime < 65536) (hmode : o.recallMode < 256) (hgroup : ∀ n, o.recallGroup = some n → n < 255)
    (hannounce : ∀ n, o.announceSet = some n → n < 255) : OrbitSetOp.read o.bytes = some o := by
  simp [OrbitSetOp.read, OrbitSetOp.bytes, put1, put2, putOpt1_eq, horbit, hpark, hrecall, hmode, opt1_optByte hgroup,
    opt1_optByte hannounce]

theorem RetrieveAskOp.read_bytes {o : RetrieveAskOp} (horbit : o.orbit < 256) (hext : o.ext < 65536)
    (hexpected : ∀ n, o.expected = some n → n < 65535) : RetrieveAskOp.read o.bytes = some o := by
  simp [RetrieveAskOp.read, RetrieveAskOp.bytes, put1, put2, putOpt2_eq, horbit, hext, opt2_optByte hexpected]

theorem PageAskOp.read_bytes {o : PageAskOp} (hsource : o.source.code < 256) (hsourceValue : o.source.value < 65536)
    (hclass : o.cls < 256) (htarget : o.target.code < 256) (htargetValue : o.target.value < 65536)
    (hmode : o.mode < 256) (hsuspend : o.suspendAllowed < 256) (hduration : o.maxDuration < 65536) :
    PageAskOp.read o.bytes = some o := by
  simp [PageAskOp.read, PageAskOp.bytes, put1, put2, putForm, *]

theorem ZoneSetSetOp.read_bytes {o : ZoneSetSetOp} (hnumber : o.number < 256) : ZoneSetSetOp.read o.bytes = some o := by
  simp [ZoneSetSetOp.read, ZoneSetSetOp.bytes, put1, putZones_eq, zones8_extractLsb', hnumber]

theorem PagingSetOp.read_bytes {o : PagingSetOp} (hchimeE : o.chime.emergency < 256) (hchimeU : o.chime.urgent < 256)
    (hchimeN : o.chime.normal < 256) (hchimeB : o.chime.background < 256) (hhang : o.hangTime < 256)
    (hlimit : o.suspensionLimit < 65536)
    (hmarginE : -32768 ≤ o.margin.emergency ∧ o.margin.emergency ≤ 32767)
    (hmarginU : -32768 ≤ o.margin.urgent ∧ o.margin.urgent ≤ 32767)
    (hmarginN : -32768 ≤ o.margin.normal ∧ o.margin.normal ≤ 32767)
    (hmarginB : -32768 ≤ o.margin.background ∧ o.margin.background ≤ 32767) :
    PagingSetOp.read o.bytes = some o := by
  simp [PagingSetOp.read, PagingSetOp.bytes, put1, put2, putSigned2, hchimeE, hchimeU, hchimeN, hchimeB, hhang, hlimit,
    signed2_halves hmarginE, signed2_halves hmarginU, signed2_halves hmarginN, signed2_halves hmarginB]

theorem ZoneSetOp.read_bytes {o : ZoneSetOp} (hzone : o.zone < 256) (hinitial : o.initialNoise < 65536)
    (hfloor : o.floor < 256) (hceiling : o.ceiling < 256) (hmin : o.minCode < 256) (hmax : o.maxCode < 256)
    (hrise : o.riseFactor < 256) (hfall : o.fallFactor < 256) (hstale : o.staleTime < 65536)
    (hreseed : o.reseed < 256) : ZoneSetOp.read o.bytes = some o := by
  simp [ZoneSetOp.read, ZoneSetOp.bytes, put1, put2, *]

theorem ExcludeSetOp.read_bytes {o : ExcludeSetOp} (henabled : o.enabled < 256) (hlower : o.lower < 256)
    (hupper : o.upper < 256) (hinvert : o.invert < 256) : ExcludeSetOp.read o.bytes = some o := by
  simp [ExcludeSetOp.read, ExcludeSetOp.bytes, put1, henabled, hlower, hupper, hinvert]

theorem TraceSetOp.read_bytes {o : TraceSetOp} (hdepth : o.depth < 65536) (hungrouped : o.ungrouped < 256)
    (hfreeze : o.freezeOnAlarm < 256) (hcontrol : ∀ n, o.control = some n → n < 255) :
    TraceSetOp.read o.bytes = some o := by
  simp [TraceSetOp.read, TraceSetOp.bytes, put1, put2, putOpt1_eq, halves_append, hdepth, hungrouped, hfreeze,
    opt1_optByte hcontrol]

theorem TraceReadOp.read_bytes {o : TraceReadOp} (hstart : o.start < 256) (hcount : o.count < 256) :
    TraceReadOp.read o.bytes = some o := by
  simp [TraceReadOp.read, TraceReadOp.bytes, put1, hstart, hcount]

/-! ## Requests that carry a list -/

theorem MembersSetOp.read_bytes {o : MembersSetOp} (hgroup : o.group < 256) (hcount : o.entries.length < 256)
    (hentries : ∀ e ∈ o.entries, e.ext < 65536 ∧ e.weight < 256 ∧ e.presence < 256) :
    MembersSetOp.read o.bytes = some o := by
  have hlength := length_flatMap_of_const MemberEntry.length_bytes o.entries
  simp [MembersSetOp.read, MembersSetOp.bytes, put1, hgroup, hcount, hlength, readMemberEntries_flatMap hentries,
    -List.length_flatMap]

theorem PresenceStageOp.read_bytes {o : PresenceStageOp} (hgroup : o.group < 256) (hcount : o.entries.length < 256)
    (hentries : ∀ e ∈ o.entries, e.ext < 65536 ∧ e.presence < 256) : PresenceStageOp.read o.bytes = some o := by
  have hlength := length_flatMap_of_const StageEntry.length_bytes o.entries
  simp [PresenceStageOp.read, PresenceStageOp.bytes, put1, hgroup, hcount, hlength, readStageEntries_flatMap hentries,
    -List.length_flatMap]

theorem PickgroupSetOp.read_bytes {o : PickgroupSetOp} (hgroup : o.group < 256) (hconfigured : o.configured < 256)
    (hopen : o.directedOpen < 256) (hcount : o.assist.length < 256) (hassist : ∀ p ∈ o.assist, p < 256) :
    PickgroupSetOp.read o.bytes = some o := by
  simp [PickgroupSetOp.read, PickgroupSetOp.bytes, flatMap_put1, put1, hgroup, hconfigured, hopen, hcount,
    map_num1_map_ofNat hassist, -List.map_map]

/-! ## MAP-WRITE -/

/-- The six single bytes at the end of a map payload. -/
def MapWriteOp.tail (o : MapWriteOp) : List Byte :=
  put1 o.ceiling ++ put1 o.enabled ++ put1 o.lower ++ put1 o.upper ++ put1 o.invert ++ put1 o.protection

/-- A map payload in its four parts: installed set, sensitivities, inputs and the bytes at the end. -/
theorem MapWriteOp.bytes_eq (o : MapWriteOp) : o.bytes =
    putZones o.installed ++ (o.sensitivity.map (BitVec.ofNat 8) ++
      (o.inputs.flatMap MapInputOp.bytes ++ o.tail)) := by
  simp only [MapWriteOp.bytes, MapWriteOp.tail, flatMap_put1, List.append_assoc]
  rfl

section
variable {o : MapWriteOp} (hsensitivity : o.sensitivity.length = 64)
include hsensitivity

theorem MapWriteOp.drop_72_bytes : o.bytes.drop 72 = o.inputs.flatMap MapInputOp.bytes ++ o.tail := by
  rw [MapWriteOp.bytes_eq, ← List.append_assoc]
  exact List.drop_left' (by simp [hsensitivity])

theorem MapWriteOp.take_drop_8_bytes : (o.bytes.drop 8).take 64 = o.sensitivity.map (BitVec.ofNat 8) := by
  rw [MapWriteOp.bytes_eq, List.drop_left' (length_putZones _)]
  exact List.take_left' (by simp [hsensitivity])

variable (hinputs : o.inputs.length = 4)
include hinputs

theorem MapWriteOp.length_bytes : o.bytes.length = mapLength := by
  have hlength := length_flatMap_of_const MapInputOp.length_bytes o.inputs
  simp [MapWriteOp.bytes_eq, hsensitivity, hlength, hinputs, MapWriteOp.tail, put1, mapLength]

theorem MapWriteOp.drop_108_bytes : o.bytes.drop 108 = o.tail := by
  have hlength := length_flatMap_of_const MapInputOp.length_bytes o.inputs
  rw [show 108 = 72 + 36 from rfl, ← List.drop_drop, MapWriteOp.drop_72_bytes hsensitivity]
  exact List.drop_left' (by rw [hlength, hinputs])

end

theorem MapWriteOp.read_bytes {o : MapWriteOp} (hsensitivity : o.sensitivity.length = 64)
    (hlevels : ∀ n ∈ o.sensitivity, n < 256) (hinputs : o.inputs.length = 4) (hmodes : ∀ i ∈ o.inputs, i.mode < 256)
    (hceiling : o.ceiling < 256) (henabled : o.enabled < 256) (hlower : o.lower < 256) (hupper : o.upper < 256)
    (hinvert : o.invert < 256) (hprotection : o.protection < 256) : MapWriteOp.read o.bytes = some o := by
  have zones : readZones o.bytes = o.installed := by rw [MapWriteOp.bytes_eq, readZones_putZones]
  have inputs : readMapInputs 4 (o.inputs.flatMap MapInputOp.bytes ++ o.tail) = o.inputs := by
    rw [← hinputs, readMapInputs_flatMap hmodes]
  simp only [MapWriteOp.read, MapWriteOp.length_bytes hsensitivity hinputs, if_true,
    MapWriteOp.drop_108_bytes hsensitivity hinputs, MapWriteOp.drop_72_bytes hsensitivity,
    MapWriteOp.take_drop_8_bytes hsensitivity, zones, inputs, map_num1_map_ofNat hlevels]
  simp [MapWriteOp.tail, put1, *]

/-- Settles O8: every request's payload is its fields' bytes in a row, and each field reads back. -/
theorem payloadsReadBack : Obligations.PayloadsReadBack :=
  ⟨fun _ => LineReportOp.read_bytes, fun _ => DirectRingOp.read_bytes, fun _ => CallAnswerOp.read_bytes,
    fun _ => readNumber2_put2, fun _ => readNumber1_put1, fun _ => GroupSetOp.read_bytes,
    fun _ => RosterQueryOp.read_bytes, fun _ => CallArriveOp.read_bytes, fun _ => readFallback_putOpt2,
    fun _ => PickupAskOp.read_bytes, fun _ => ExtSetOp.read_bytes, fun _ => ParkAskOp.read_bytes,
    fun _ => OrbitSetOp.read_bytes, fun _ => RetrieveAskOp.read_bytes, fun _ => PageAskOp.read_bytes,
    fun _ => ZoneSetSetOp.read_bytes, fun _ => PagingSetOp.read_bytes, fun _ => ZoneSetOp.read_bytes,
    fun _ => ExcludeSetOp.read_bytes, fun _ => TraceSetOp.read_bytes, fun _ => TraceReadOp.read_bytes,
    fun _ => MembersSetOp.read_bytes, fun _ => PresenceStageOp.read_bytes, fun _ => PickgroupSetOp.read_bytes,
    fun _ => MapWriteOp.read_bytes⟩

end Sys2Proof.Machine
end

section
/-! PROOF. What an idle step does to each block, and that the expiry of a stopped timer does nothing. -/

namespace Sys2Proof.Machine

/-! ## The passing of time -/

theorem step_idle {s : State} (h : s.pending = []) : step s = .next (tick s) := by simp [step, h]

/-- The members of every group count the units that pass (R28). -/
theorem group_elapse (ms : Nat) (s : State) (g : Nat) :
    (elapse ms s).group g = if unitsCrossed s.clock ms = 0 then s.group g else
      { s.group g with
        members := (s.group g).members.map fun m =>
          m.runClock (unitsCrossed s.clock ms) ((s.ext m.ext).line = .idle) } := by
  unfold elapse
  dsimp only
  split
  · rfl
  · exact tabGet_tabMap _ s.groups g GroupRecord.atReset

/-- The elapsed counter of an unfrozen trace counts the units that pass (R177). -/
theorem trace_elapse (ms : Nat) (s : State) :
    (elapse ms s).trace = if unitsCrossed s.clock ms = 0 ∨ s.trace.frozen then s.trace else
      { s.trace with elapsed := min (s.trace.elapsed + unitsCrossed s.clock ms) Config.elapsedEnd } := by
  unfold elapse
  dsimp only
  split <;> simp [*]

/-- A millisecond that ends a unit of 100 ms crosses one unit. -/
theorem unitsCrossed_one {clock : Nat} (h : (clock + 1) % 100 = 0) : unitsCrossed clock 1 = 1 := by
  unfold unitsCrossed; omega

theorem runClock_one (m : Membership) (l : LineState) :
    m.runClock 1 (l = .idle) = if m.effective = .available ∧ l = .idle then
      { m with idleTenths := min (m.idleTenths + 1) 655350 } else m := by
  simp [Membership.runClock, Config.idleTenthsEnd]

/-- A part that does not run stays as it is (log entry 10). -/
theorem tick_held {s : State} (h : s.running = false) : tick s = s := whenRunning_held h _

theorem tick_running {s : State} (h : s.running = true) : tick s = elapse 1 s := whenRunning_running h _

/-- Within a unit of 100 ms only the clock moves. -/
theorem tick_within_unit {s : State} (hrun : s.running = true) (h : (s.clock + 1) % 100 ≠ 0) :
    tick s = { s with clock := s.clock + 1 } :=
  (tick_running hrun).trans (elapse_within (by omega))

/-! ## Expiries of stopped timers -/

/-- A command that leaves a running part as it is leaves every part as it is. -/
theorem next_whenRunning_of_fixed {s : State} {k : State → State} (h : k s = s) :
    (.next (whenRunning k s) : Host.Outcome State Fault Refusal) = .next s := by
  simp [whenRunning, h]

theorem atExpiry_stopped {s : State} {due : Option Nat} (h : due = none) (k : State → State) : atExpiry due k s = s := by
  rw [h, atExpiry_none]

theorem exec_noAnswerExpiry_stopped {s : State} {c : Nat} (h : (s.call? c).bind (·.noAnswerDue) = none) :
    exec (.noAnswerExpiry c) s = .next s := by
  refine next_whenRunning_of_fixed ?_
  cases hc : s.call? c with
  | none => rfl
  | some k => exact atExpiry_stopped (by simpa [hc] using h) _

theorem exec_maximumWaitExpiry_stopped {s : State} {c : Nat} (h : (s.call? c).bind (·.maxWaitDue) = none) :
    exec (.maximumWaitExpiry c) s = .next s := by
  refine next_whenRunning_of_fixed ?_
  cases hc : s.call? c with
  | none => rfl
  | some k => exact atExpiry_stopped (by simpa [hc] using h) _

theorem exec_parkTimerExpiry_stopped {s : State} {o : Nat} (h : (s.orbit o).parkDue = none) :
    exec (.parkTimerExpiry o) s = .next s := next_whenRunning_of_fixed (atExpiry_stopped h _)

theorem exec_recallRingExpiry_stopped {s : State} {o : Nat} (h : (s.orbit o).recallDue = none) :
    exec (.recallRingExpiry o) s = .next s := next_whenRunning_of_fixed (atExpiry_stopped h _)

theorem exec_chimeTimerExpiry_stopped {s : State} {z : Nat} (h : (s.zone z).chimeDue = none) :
    exec (.chimeTimerExpiry z) s = .next s := next_whenRunning_of_fixed (atExpiry_stopped h _)

theorem exec_hangTimerExpiry_stopped {s : State} {z : Nat} (h : (s.zone z).hangDue = none) :
    exec (.hangTimerExpiry z) s = .next s := next_whenRunning_of_fixed (atExpiry_stopped h _)

theorem exec_suspensionTimerExpiry_stopped {s : State} {p : Nat} (h : (s.page? p).bind (·.suspensionDue) = none) :
    exec (.suspensionTimerExpiry p) s = .next s :=
  next_whenRunning_of_fixed (atExpiry_stopped h _)

theorem exec_durationExpiry_stopped {s : State} {p : Nat} (h : (s.page? p).bind (·.durationDue) = none) :
    exec (.durationExpiry p) s = .next s := next_whenRunning_of_fixed (atExpiry_stopped h _)

theorem exec_debounceExpiry_stopped {s : State} {i : Nat} (h : (s.input i).debounceDue = none) :
    exec (.debounceExpiry i) s = .next s := next_whenRunning_of_fixed (atExpiry_stopped h _)

/-- A group without an auto-page set has no auto-page falling due (R66). -/
theorem autoPagePoint_without_set {s : State} {g : Nat} (h : (s.group g).autoSet = none) : s.autoPagePoint g = none := by
  simp [State.autoPagePoint, h]

theorem exec_autoPageDue_without_set {s : State} {g : Nat} (h : (s.group g).autoSet = none) :
    exec (.autoPageDue g) s = .next s :=
  next_whenRunning_of_fixed (by simp only [autoPagePoint_without_set h])

/-! ## Ends of what is not in progress -/

theorem exec_zoneReplyTimeout_no_exchange {s : State} (h : s.exchange = none) : exec .zoneReplyTimeout s = .next s :=
  next_whenRunning_of_fixed (by simp only [h])

theorem exec_zoneReply_no_exchange {s : State} (h : s.exchange = none) (a r st ap ck : Byte) :
    exec (.zoneReply a r st ap ck) s = .next s :=
  next_whenRunning_of_fixed (by simp only [h])

theorem exec_mapWriteComplete_no_write {s : State} (h : s.map.writing = none) (v : Bool) :
    exec (.mapWriteComplete v) s = .next s :=
  next_whenRunning_of_fixed (by simp only [h])

theorem exec_receiveGapTimeout_hunting {s : State} (h : s.link.receiver = .hunting) :
    exec .receiveGapTimeout s = .next s :=
  next_whenRunning_of_fixed (by simp only [h])

/-- Settles O3: an idle step is a tick, whose millisecond crosses at most one unit, and every expiry asks its timer
first. -/
theorem timePassesAndStoppedTimersStay : Obligations.TimePassesAndStoppedTimersStay := by
  refine ⟨fun s hidle => ?_, fun s => ?_⟩
  · rw [step_idle hidle]
    refine ⟨fun h => by rw [tick_held h], fun hrun h => by rw [tick_within_unit hrun h], fun hrun hend => ?_⟩
    have hunit := unitsCrossed_one hend
    refine ⟨_, rfl, ?_⟩
    rw [tick_running hrun]
    refine ⟨elapse_clock 1 s, ?_, fun g => ?_⟩
    · simp [trace_elapse, hunit, Config.elapsedEnd]
    · simp [group_elapse, hunit, runClock_one]
  · exact ⟨fun _ => exec_noAnswerExpiry_stopped, fun _ => exec_maximumWaitExpiry_stopped,
      fun _ => exec_parkTimerExpiry_stopped, fun _ => exec_recallRingExpiry_stopped,
      fun _ => exec_chimeTimerExpiry_stopped, fun _ => exec_hangTimerExpiry_stopped,
      fun _ => exec_suspensionTimerExpiry_stopped, fun _ => exec_durationExpiry_stopped,
      fun _ => exec_debounceExpiry_stopped, fun _ => exec_autoPageDue_without_set, exec_zoneReplyTimeout_no_exchange,
      fun a r st ap ck h => exec_zoneReply_no_exchange h a r st ap ck, fun v h => exec_mapWriteComplete_no_write h v,
      exec_receiveGapTimeout_hunting⟩

end Sys2Proof.Machine
end

section
/-! PROOF. The bounds of a sound state survive every command, and what a power-on start-up leaves. -/

namespace Sys2Proof.Machine

/-! ## The bounds after a reset -/

theorem level_of_reset {s : State} (h : s.levels = State.reset.levels) (z : Nat) : s.level z = LevelState.atReset := by
  simp only [State.level, h, State.reset, tabGet_replicate, ite_self]

theorem traceAtReset_bounded : TraceUnit.atReset.Bounded :=
  ⟨by decide, by decide, by decide, by decide⟩

/-- A state whose levels, trace and calls are those after a reset is sound once its link is bounded. -/
theorem sound_of_reset {s : State} (hlink : s.link.Bounded) (htrace : s.trace = TraceUnit.atReset)
    (hlevels : s.levels = State.reset.levels) (hcalls : s.calls = []) : s.Sound where
  link := hlink
  trace := htrace ▸ traceAtReset_bounded
  levels z := by rw [level_of_reset hlevels]; exact ⟨by decide, by decide⟩
  calls := by simp [hcalls]

/-- Settles O4: the reset state holds one notice, no request, no record and no call. -/
theorem resetIsSound : Obligations.ResetIsSound :=
  sound_of_reset ⟨by decide, by decide, by decide, by decide⟩ rfl rfl rfl

theorem startUp_sound (cause : ResetCause) (sample : StartSample) (s : State) : (startUp cause sample s).Sound := by
  obtain ⟨e, r, h⟩ := startUp_eq cause sample s
  rw [h]
  exact sound_of_reset ⟨Nat.le_of_ble_eq_true rfl, Nat.le_of_ble_eq_true rfl, Nat.zero_le _, Nat.zero_le _⟩ rfl rfl rfl

/-! ## The bounds under the primitive changes -/

theorem keep_bounded {t : TraceUnit} (r : TraceRecord) (h : t.Bounded) : (t.keep r).Bounded where
  depth := h.depth
  held := by simp [TraceUnit.keep]
  sequence := Nat.mod_lt _ (by decide)
  elapsed := Nat.zero_le _

/-- A zone's level after a change is its old level or the changed one. -/
theorem modLevel_bounded {s : State} {z : Nat} {f : LevelState → LevelState} (hf : ∀ l, l.Bounded → (f l).Bounded)
    (h : ∀ y, (s.level y).Bounded) (y : Nat) : ((s.modLevel z f).level y).Bounded := by
  rw [level_modLevel]
  split
  · exact hf _ (h y)
  · exact h y

theorem elapse_trace_bounded (ms : Nat) {s : State} (h : s.trace.Bounded) : (elapse ms s).trace.Bounded := by
  rw [trace_elapse]
  split
  · exact h
  · exact ⟨h.depth, h.held, h.sequence, Nat.min_le_right _ _⟩

theorem elapse_sound (ms : Nat) {s : State} (h : s.Sound) : (elapse ms s).Sound := by
  have htrace := elapse_trace_bounded ms h.trace
  unfold elapse at htrace ⊢
  dsimp only at htrace ⊢
  split
  · exact ⟨h.link, h.trace, h.levels, h.calls⟩
  · rename_i hk
    rw [if_neg hk] at htrace
    exact ⟨h.link, htrace, h.levels, h.calls⟩

theorem sound_steady : Steady State.Sound where
  modExt _ _ _ h := ⟨h.link, h.trace, h.levels, h.calls⟩
  modGroup _ _ _ h := ⟨h.link, h.trace, h.levels, h.calls⟩
  modOrbit _ _ _ h := ⟨h.link, h.trace, h.levels, h.calls⟩
  modCall _ _ _ h := ⟨h.link, h.trace, h.levels, by simpa using h.calls⟩
  freeCall _ _ h := ⟨h.link, h.trace, h.levels, (List.length_filter_le _ _).trans h.calls⟩
  setPages _ _ h := ⟨h.link, h.trace, h.levels, h.calls⟩
  setIds _ _ _ h := ⟨h.link, h.trace, h.levels, h.calls⟩
  modZone _ _ _ h := ⟨h.link, h.trace, h.levels, h.calls⟩
  modAmp _ _ _ h := ⟨h.link, h.trace, h.levels, h.calls⟩
  limit _ _ h := ⟨h.link, h.trace, modLevel_bounded (fun _ hl => hl) h.levels, h.calls⟩
  modInput _ _ _ h := ⟨h.link, h.trace, h.levels, h.calls⟩
  emit _ f h := ⟨put_bounded f h.link, h.trace, h.levels, h.calls⟩
  keep _ r h := ⟨h.link, keep_bounded r h.trace, h.levels, h.calls⟩
  freezeTrace _ h :=
    ⟨h.link, ⟨h.trace.depth, h.trace.held, h.trace.sequence, h.trace.elapsed⟩, h.levels, h.calls⟩
  setOverride _ _ h := ⟨h.link, h.trace, h.levels, h.calls⟩
  setCovered _ _ h := ⟨h.link, h.trace, h.levels, h.calls⟩
  setExchange _ _ _ h := ⟨h.link, h.trace, h.levels, h.calls⟩

theorem sound_loose : Loose State.Sound where
  toSteady := sound_steady
  setLink _ _ hl h := ⟨hl h.link, h.trace, h.levels, h.calls⟩
  setMap _ _ _ h := ⟨h.link, h.trace, h.levels, h.calls⟩
  setTrace _ _ ht h := ⟨h.link, ht h.trace, h.levels, h.calls⟩
  setLevel _ _ _ hf h := ⟨h.link, h.trace, modLevel_bounded hf h.levels, h.calls⟩
  addCall s k hn h := ⟨h.link, h.trace, h.levels, by simpa [State.addCall] using hn⟩
  setSupply _ _ h := ⟨h.link, h.trace, h.levels, h.calls⟩
  elapse ms _ h := elapse_sound ms h

/-! ## The commands that are no loose change -/

theorem fallbackSet_sound {s : State} (code : Option Nat) (h : s.Sound) : (fallbackSet code s).1.Sound := by
  unfold fallbackSet
  split
  · exact h
  · exact ⟨h.link, h.trace, h.levels, h.calls⟩

theorem pickgroupSet_sound {s : State} (o : PickgroupSetOp) (h : s.Sound) : (pickgroupSet o s).1.Sound := by
  have hset : ∀ v, ({ s with pickups := v } : State).Sound := fun _ => ⟨h.link, h.trace, h.levels, h.calls⟩
  unfold pickgroupSet
  repeat' split
  all_goals first | exact h | exact hset _

theorem zonesetSet_sound {s : State} (o : ZoneSetSetOp) (h : s.Sound) : (zonesetSet o s).1.Sound := by
  unfold zonesetSet
  split
  · exact h
  · dsimp only
    refine releasingHolds_steady sound_steady ?_
    exact ⟨h.link, h.trace, h.levels, h.calls⟩

theorem pagingSet_sound {s : State} (o : PagingSetOp) (h : s.Sound) : (pagingSet o s).1.Sound :=
  ⟨h.link, h.trace, h.levels, h.calls⟩

theorem verified_sound {s : State} (w : MapWriting) (h : s.Sound) : (verified w s).Sound := by
  have hset : ∀ (t : State) (m : MapUnit), t.Sound → ({ t with map := m } : State).Sound :=
    fun _ _ h => ⟨h.link, h.trace, h.levels, h.calls⟩
  refine startExchange_steady sound_steady (releasingHolds_steady sound_steady ?_)
  have hdone := notify_steady sound_steady (.mapDone true) (hset s { s.map with
    store := .copy w.contents (crc16 w.contents.bytes), copy := w.contents, status := .valid, writing := none } h)
  have hzones := ite_steady (c := s.map.copy.installed = w.contents.installed) hdone
    (installedSetChange_steady sound_steady s.map.copy.installed hdone)
  exact ite_steady (applyExclusion_steady sound_steady (hset _ _ hzones)) hzones

/-! ## Every step -/

theorem exec_sound (c : Instr) {s t : State} (h : s.Sound) (he : exec c s = .next t) : t.Sound := by
  have hL := sound_loose
  by_cases hc : Instr.keepsLoose c
  · exact exec_loose hL c hc he h
  have done : ∀ {u : State}, u.Sound → (Host.Outcome.next u : Host.Outcome State Fault Refusal) = .next t →
    t.Sound := by
    intro u hu hut; injection hut with hut; exact hut ▸ hu
  cases c with
  | powerOn sample =>
    exact done (ite_steady (hL.setSupply _ _ (stopActivity_loose hL h)) (startUp_sound _ _ _)) he
  | pinReset sample => exact done (ite_steady (startUp_sound _ _ _) (hL.setSupply _ _ h)) he
  | linkReset sample =>
    exact done (whenRunning_loose (fun _ h => ite_steady (startUp_sound _ _ _) h) h) he
  | fallbackSet tag p => exact done (takeKind_loose hL _ _ _ _ (fun _ _ h => fallbackSet_sound _ h) h) he
  | pickgroupSet tag p => exact done (takeKind_loose hL _ _ _ _ (fun _ _ h => pickgroupSet_sound _ h) h) he
  | zonesetSet tag p => exact done (takeKind_loose hL _ _ _ _ (fun _ _ h => zonesetSet_sound _ h) h) he
  | pagingSet tag p => exact done (takeKind_loose hL _ _ _ _ (fun _ _ h => pagingSet_sound _ h) h) he
  | mapWriteComplete verifies =>
    refine done (whenRunning_loose (fun s h => ?_) h) he
    split
    · exact h
    · exact atExpiry_loose hL _ (fun _ h => ite_steady (verified_sound _ h) (unverified_loose hL h)) h
  | _ => exact absurd trivial hc

/-- Settles O5: the bounds survive each primitive change, so every command, and they hold after a start-up. -/
theorem stepKeepsSound : Obligations.StepKeepsSound := by
  intro s t h hstep
  unfold step at hstep
  split at hstep
  · injection hstep with hstep
    exact hstep ▸ whenRunning_loose (fun _ h => elapse_sound 1 h) h
  · rename_i c rest _
    have hrest : ({ s with pending := rest } : State).Sound := ⟨h.link, h.trace, h.levels, h.calls⟩
    exact exec_sound c hrest hstep

/-! ## Power-on -/

/-- A store that has lost its contents leaves the default map, unheld and unlocked (R163). -/
theorem mapStartUp_lost (m : MapUnit) : m.startUp false false = State.reset.map := by
  simp [MapUnit.startUp, MapUnit.abandoned, StoredCopy.good, State.reset]

/-- With no exchange in flight a zone whose delivery is pending is addressed before the rotation moves on (R139). -/
theorem startExchange_change {s : State} {z : Nat} (he : s.exchange = none) (h : s.nextChange = some z) :
    startExchange s = beginExchange z s := by simp [startExchange, he, h]

/-- After a start-up with the default map every zone's delivery is pending, and zone 0 is addressed first. -/
theorem nextChange_afterReset : State.reset.nextChange = some 0 := by decide +kernel

theorem commanded_afterReset : (State.reset.amp 0).commanded = .idle := by decide +kernel

theorem stateFrame_idle : stateFrame 0 .idle = [1#8, 7#8, 255#8, 0#8, 0#8, 249#8] := by decide

theorem startExchange_afterReset (q : List Instr) :
    startExchange { State.reset with pending := q, exchange := none } = { State.reset with pending := q } := by
  have hnext : ({ State.reset with pending := q, exchange := none } : State).nextChange = some 0 :=
    nextChange_afterReset
  rw [startExchange_change rfl hnext]
  change ({ State.reset with pending := q, exchange := some (
    { zone := 0, sent := (State.reset.amp 0).commanded, frame := stateFrame 0 (State.reset.amp 0).commanded
      superseded := false, deadline := State.reset.clock + Config.replyTimeoutMs } : Exchange) } : State) = _
  rw [commanded_afterReset, stateFrame_idle]
  rfl

theorem amps_allInstalled :
    (tabBuild 64 fun z => AmpState.atReset (zoneIn State.reset.map.copy.installed z)) = State.reset.amps := by
  decide +kernel

theorem inputs_allOpen :
    (tabBuild 4 fun i => AlarmInput.sampled ((0 : BitVec 4).getLsbD i) 0) = State.reset.inputs := by
  decide +kernel

/-- Settles O16: nothing of the state before reaches the start-up but the waiting commands. -/
theorem powerOnGivesReset : Obligations.PowerOnGivesReset := by
  intro s hline
  have hexec : exec (.powerOn { straps := 0, closed := 0, storeHolds := false }) s =
      .next (startUp .powerOn { straps := 0, closed := 0, storeHolds := false } (stopActivity s)) := by
    change Host.Outcome.next _ = _
    simp [hline]
  rw [hexec, ← startExchange_afterReset]
  unfold startUp
  simp only [reduceCtorEq, decide_false, mapStartUp_lost, amps_allInstalled, inputs_allOpen]
  rfl

end Sys2Proof.Machine
end

section
/-! PROOF. The maximum wait of a call whose reference two contexts carry: the model deepens each by one, the statement
gives both the first one's depth. -/

namespace Sys2Proof.Machine

/-- A QUEUED call of group 0 whose maximum wait is spent, so many overflows deep. -/
def waitingAtDepth (depth : Nat) : CallContext :=
  { CallContext.fresh 9 .hunt .waiting (some 0) 0 0 with depth := depth, maxWaitDue := some 0 }

/-- Two contexts of call 9, at depths 0 and 1, QUEUED in group 0, which overflows to itself and whose one member is
AVAILABLE but not IDLE. -/
def twiceWaiting : State :=
  ({ State.reset with calls := [waitingAtDepth 0, waitingAtDepth 1] } : State).modGroup 0 fun r =>
    { r with
      configured := true, waiting := [9], overflow := some (.group 0)
      members := [{ ext := 0, weight := 1, credit := 0, programmed := .available, effective := .available
                    staged := none, pending := false, idleTenths := 0 }] }

/-- The overflow depths of the calls that a command leaves. -/
def depthsAfter : Host.Outcome State Fault Refusal → List Nat
  | .next t => t.calls.map CallContext.depth
  | .fault f => nomatch f
  | .refused _ => []

theorem depths_of_twiceWaiting : depthsAfter (exec (.maximumWaitExpiry 9) twiceWaiting) = [1, 2] := by decide +kernel

/-- Refutes O35: an overflow deepens each context of its reference by one (R60), where the statement sets every one of
them to the depth of the first plus one. No hypothesis excludes a state with two contexts of one reference. -/
theorem not_callTimersExpire : ¬ Obligations.CallTimersExpire := by
  intro ⟨_, hmaxWait⟩
  obtain ⟨_, hwaits⟩ := hmaxWait 9 0 0 (waitingAtDepth 0) twiceWaiting twiceWaiting (by decide +kernel)
    (by decide +kernel) rfl (Nat.zero_le _) rfl rfl (Nat.zero_le _)
  obtain ⟨_, _, hgroup⟩ := hwaits (.inl ⟨rfl, rfl⟩)
  obtain ⟨_, _, htakes, _⟩ := hgroup 0 (by decide +kernel) (by decide)
  have hqueued := htakes (by dsimp only; decide +kernel)
  have hdepths := congrArg depthsAfter hqueued
  rw [depths_of_twiceWaiting] at hdepths
  exact absurd hdepths (by decide +kernel)

end Sys2Proof.Machine
end

section
/-! PROOF. How changes of the state's tables, frames and records commute: orbits, groups, extensions and calls change
inside the frames a command sends, and the frames stand inside the records it offers. Two effects that make the same
changes in different order read alike in this order. -/

namespace Sys2Proof.Machine

/-! ## Records -/

/-- A change that neither reads nor writes the trace, nor what decides on a record, may be made before or after it is
offered. -/
theorem apply_offerRecord {F : State → State} {s : State} {r : TraceRecord}
    (hF : ∀ t, F { s with trace := t } = { F s with trace := t }) (ht : (F s).trace = s.trace)
    (hq : qualify (F s) r [] = qualify s r []) : F (offerRecord r s) = offerRecord r (F s) := by
  unfold offerRecord offerThrough
  rw [hq]
  split
  · rfl
  · rw [hF, ht]

@[simp] theorem modExt_offerRecord (r : TraceRecord) (x : Nat) (f : ExtRecord → ExtRecord) (s : State) :
    (offerRecord r s).modExt x f = offerRecord r (s.modExt x f) :=
  apply_offerRecord (F := fun s => s.modExt x f) (fun _ => rfl) rfl rfl
@[simp] theorem modOrbit_offerRecord (r : TraceRecord) (o : Nat) (f : OrbitRecord → OrbitRecord) (s : State) :
    (offerRecord r s).modOrbit o f = offerRecord r (s.modOrbit o f) :=
  apply_offerRecord (F := fun s => s.modOrbit o f) (fun _ => rfl) rfl rfl
@[simp] theorem modCall_offerRecord (r : TraceRecord) (c : Nat) (f : CallContext → CallContext) (s : State) :
    (offerRecord r s).modCall c f = offerRecord r (s.modCall c f) :=
  apply_offerRecord (F := fun s => s.modCall c f) (fun _ => rfl) rfl rfl
@[simp] theorem freeCall_offerRecord (r : TraceRecord) (c : Nat) (s : State) :
    (offerRecord r s).freeCall c = offerRecord r (s.freeCall c) :=
  apply_offerRecord (F := fun s => s.freeCall c) (fun _ => rfl) rfl rfl
@[simp] theorem direct_offerRecord (r : TraceRecord) (d : Directive) (s : State) :
    direct d (offerRecord r s) = offerRecord r (direct d s) :=
  apply_offerRecord (F := direct d) (fun _ => rfl) rfl rfl
@[simp] theorem notify_offerRecord (r : TraceRecord) (n : Notice) (s : State) :
    notify n (offerRecord r s) = offerRecord r (notify n s) :=
  apply_offerRecord (F := notify n) (fun _ => rfl) rfl rfl

theorem offerRecord_eq (r : TraceRecord) (s : State) :
    offerRecord r s = { s with trace := (offerRecord r s).trace } := offerThrough_eq r [] s

@[simp] theorem ext_of_offerRecord (r : TraceRecord) (s : State) (x : Nat) : (offerRecord r s).ext x = s.ext x := by
  rw [offerRecord_eq]; rfl
@[simp] theorem group_of_offerRecord (r : TraceRecord) (s : State) (g : Nat) :
    (offerRecord r s).group g = s.group g := by
  rw [offerRecord_eq]; rfl
@[simp] theorem orbit_of_offerRecord (r : TraceRecord) (s : State) (o : Nat) :
    (offerRecord r s).orbit o = s.orbit o := by
  rw [offerRecord_eq]; rfl
@[simp] theorem call_of_offerRecord (r : TraceRecord) (s : State) (c : Nat) :
    (offerRecord r s).call? c = s.call? c := by
  rw [offerRecord_eq]; rfl
@[simp] theorem held_of_offerRecord (r : TraceRecord) (s : State) (g : Nat) : (offerRecord r s).held g = s.held g := by
  rw [offerRecord_eq]; rfl
@[simp] theorem now_of_offerRecord (r : TraceRecord) (s : State) : (offerRecord r s).now = s.now := by
  rw [offerRecord_eq]; rfl
@[simp] theorem after_of_offerRecord (r : TraceRecord) (s : State) (n : Nat) :
    (offerRecord r s).after n = s.after n := by
  rw [offerRecord_eq]; rfl

/-! ## Frames -/

@[simp] theorem modExt_direct (d : Directive) (x : Nat) (f : ExtRecord → ExtRecord) (s : State) :
    (direct d s).modExt x f = direct d (s.modExt x f) := rfl
@[simp] theorem modGroup_direct (d : Directive) (g : Nat) (f : GroupRecord → GroupRecord) (s : State) :
    (direct d s).modGroup g f = direct d (s.modGroup g f) := rfl
@[simp] theorem modOrbit_direct (d : Directive) (o : Nat) (f : OrbitRecord → OrbitRecord) (s : State) :
    (direct d s).modOrbit o f = direct d (s.modOrbit o f) := rfl
@[simp] theorem modCall_direct (d : Directive) (c : Nat) (f : CallContext → CallContext) (s : State) :
    (direct d s).modCall c f = direct d (s.modCall c f) := rfl
@[simp] theorem freeCall_direct (d : Directive) (c : Nat) (s : State) :
    (direct d s).freeCall c = direct d (s.freeCall c) := rfl

@[simp] theorem modExt_notify (n : Notice) (x : Nat) (f : ExtRecord → ExtRecord) (s : State) :
    (notify n s).modExt x f = notify n (s.modExt x f) := rfl
@[simp] theorem modGroup_notify (n : Notice) (g : Nat) (f : GroupRecord → GroupRecord) (s : State) :
    (notify n s).modGroup g f = notify n (s.modGroup g f) := rfl
@[simp] theorem modOrbit_notify (n : Notice) (o : Nat) (f : OrbitRecord → OrbitRecord) (s : State) :
    (notify n s).modOrbit o f = notify n (s.modOrbit o f) := rfl
@[simp] theorem modCall_notify (n : Notice) (c : Nat) (f : CallContext → CallContext) (s : State) :
    (notify n s).modCall c f = notify n (s.modCall c f) := rfl
@[simp] theorem freeCall_notify (n : Notice) (c : Nat) (s : State) :
    (notify n s).freeCall c = notify n (s.freeCall c) := rfl

/-! ## Tables -/

@[simp] theorem modExt_modCall (c x : Nat) (f : CallContext → CallContext) (h : ExtRecord → ExtRecord) (s : State) :
    (s.modCall c f).modExt x h = (s.modExt x h).modCall c f := rfl
@[simp] theorem modGroup_modCall (c g : Nat) (f : CallContext → CallContext) (h : GroupRecord → GroupRecord)
    (s : State) : (s.modCall c f).modGroup g h = (s.modGroup g h).modCall c f := rfl
@[simp] theorem modOrbit_modCall (c o : Nat) (f : CallContext → CallContext) (h : OrbitRecord → OrbitRecord)
    (s : State) : (s.modCall c f).modOrbit o h = (s.modOrbit o h).modCall c f := rfl
@[simp] theorem modExt_freeCall (c x : Nat) (h : ExtRecord → ExtRecord) (s : State) :
    (s.freeCall c).modExt x h = (s.modExt x h).freeCall c := rfl
@[simp] theorem modGroup_freeCall (c g : Nat) (h : GroupRecord → GroupRecord) (s : State) :
    (s.freeCall c).modGroup g h = (s.modGroup g h).freeCall c := rfl
@[simp] theorem modOrbit_freeCall (c o : Nat) (h : OrbitRecord → OrbitRecord) (s : State) :
    (s.freeCall c).modOrbit o h = (s.modOrbit o h).freeCall c := rfl
@[simp] theorem modGroup_modExt (x g : Nat) (f : ExtRecord → ExtRecord) (h : GroupRecord → GroupRecord) (s : State) :
    (s.modExt x f).modGroup g h = (s.modGroup g h).modExt x f := rfl
@[simp] theorem modOrbit_modExt (x o : Nat) (f : ExtRecord → ExtRecord) (h : OrbitRecord → OrbitRecord) (s : State) :
    (s.modExt x f).modOrbit o h = (s.modOrbit o h).modExt x f := rfl
@[simp] theorem modOrbit_modGroup (g o : Nat) (f : GroupRecord → GroupRecord) (h : OrbitRecord → OrbitRecord)
    (s : State) : (s.modGroup g f).modOrbit o h = (s.modOrbit o h).modGroup g f := rfl

theorem modCall_id {f : CallContext → CallContext} (hf : ∀ k, f k = k) (c : Nat) (s : State) : s.modCall c f = s := by
  simp [State.modCall, hf]

/-- A freed context takes its changes with it. -/
@[simp] theorem freeCall_modCall {f : CallContext → CallContext} (c : Nat) (hf : ∀ k, (f k).ref = k.ref) (s : State) :
    (s.modCall c f).freeCall c = s.freeCall c := by
  simp only [State.modCall, State.freeCall, List.filter_map]
  congr 1
  induction s.calls with
  | nil => rfl
  | cons k l ih =>
    by_cases hk : k.ref = c
    · simpa [hk, hf] using ih
    · simpa [hk] using ih

/-- Changes of two entries of a table commute. -/
theorem tabModify_comm {α : Type} {n i j : Nat} (h : i ≠ j) (v : Vector α n) (f f' : α → α) :
    tabModify (tabModify v i f) j f' = tabModify (tabModify v j f') i f := by
  unfold tabModify
  by_cases hi : i < n <;> by_cases hj : j < n
  · simp [hi, hj, Vector.set_comm _ _ h, Vector.getElem_set_ne, h, h.symm]
  · simp [hi, hj]
  · simp [hi, hj]
  · simp [hi, hj]

theorem modExt_comm {x y : Nat} (h : x ≠ y) (f f' : ExtRecord → ExtRecord) (s : State) :
    (s.modExt x f).modExt y f' = (s.modExt y f').modExt x f := by
  simp only [State.modExt, tabModify_comm h]

/-! ## Views -/

@[simp] theorem ext_of_freeCall (s : State) (c x : Nat) : (s.freeCall c).ext x = s.ext x := rfl
@[simp] theorem group_of_freeCall (s : State) (c g : Nat) : (s.freeCall c).group g = s.group g := rfl
@[simp] theorem orbit_of_freeCall (s : State) (c o : Nat) : (s.freeCall c).orbit o = s.orbit o := rfl

@[simp] theorem held_of_modExt (s : State) (x : Nat) (f : ExtRecord → ExtRecord) (g : Nat) :
    (s.modExt x f).held g = s.held g := rfl
@[simp] theorem held_of_modOrbit (s : State) (o : Nat) (f : OrbitRecord → OrbitRecord) (g : Nat) :
    (s.modOrbit o f).held g = s.held g := rfl
@[simp] theorem held_of_modCall (s : State) (c : Nat) (f : CallContext → CallContext) (g : Nat) :
    (s.modCall c f).held g = s.held g := rfl
@[simp] theorem held_of_freeCall (s : State) (c g : Nat) : (s.freeCall c).held g = s.held g := rfl
@[simp] theorem held_of_direct (s : State) (d : Directive) (g : Nat) : (direct d s).held g = s.held g := rfl
@[simp] theorem held_of_notify (s : State) (n : Notice) (g : Nat) : (notify n s).held g = s.held g := rfl

/-- A change that keeps a group's hold flag and home set keeps every hold (R68). -/
theorem held_of_modGroup {s : State} {i : Nat} {f : GroupRecord → GroupRecord}
    (hf : ∀ r, (f r).emergencyHold = r.emergencyHold ∧ (f r).homeSet = r.homeSet) (g : Nat) :
    (s.modGroup i f).held g = s.held g := by
  have hg : ((s.modGroup i f).group g).emergencyHold = (s.group g).emergencyHold ∧
      ((s.modGroup i f).group g).homeSet = (s.group g).homeSet := by
    rw [group_modGroup]
    split
    · exact hf _
    · exact ⟨rfl, rfl⟩
  simp only [State.held, hg.1, hg.2]
  rfl

/-- A field of an extension that a change keeps. -/
theorem ext_modExt_keeps {α : Type} {p : ExtRecord → α} {f : ExtRecord → ExtRecord} (hf : ∀ r, p (f r) = p r)
    (s : State) (x y : Nat) : p ((s.modExt x f).ext y) = p (s.ext y) := by
  rw [ext_modExt]
  split
  · exact hf _
  · rfl

/-- A field of a group that a change keeps. -/
theorem group_modGroup_keeps {α : Type} {p : GroupRecord → α} {f : GroupRecord → GroupRecord}
    (hf : ∀ r, p (f r) = p r) (s : State) (g i : Nat) : p ((s.modGroup g f).group i) = p (s.group i) := by
  rw [group_modGroup]
  split
  · exact hf _
  · rfl

theorem ext_modExt_same {s : State} {x : Nat} (f : ExtRecord → ExtRecord) (h : x < 1024) :
    (s.modExt x f).ext x = f (s.ext x) := by simp [ext_modExt, h]

theorem ext_modExt_other {s : State} {x y : Nat} (f : ExtRecord → ExtRecord) (h : x ≠ y) :
    (s.modExt x f).ext y = s.ext y := by simp [ext_modExt, h]

theorem group_modGroup_same {s : State} {g : Nat} (f : GroupRecord → GroupRecord) (h : g < 64) :
    (s.modGroup g f).group g = f (s.group g) := by simp [group_modGroup, h]

theorem call?_modCall_same {s : State} {c : Nat} {k : CallContext} {f : CallContext → CallContext}
    (h : s.call? c = some k) (hf : ∀ k, (f k).ref = k.ref) : (s.modCall c f).call? c = some (f k) := by
  simp [call?_modCall c c hf, h]

/-- An extension whose record is not the one past the table's end is in the table. -/
theorem ext_lt {s : State} {x : Nat} (h : s.ext x ≠ ExtRecord.atReset) : x < 1024 := by
  by_contra hx
  exact h (tabGet_ge _ _ (Nat.not_lt.mp hx))

theorem ext_lt_of_idle {s : State} {x : Nat} (h : (s.ext x).line = .idle) : x < 1024 :=
  ext_lt (s := s) fun h' => by simp [h', ExtRecord.atReset] at h

theorem group_lt {s : State} {g : Nat} (h : s.group g ≠ GroupRecord.atReset) : g < 64 := by
  by_contra hg
  exact h (tabGet_ge _ _ (Nat.not_lt.mp hg))

theorem group_lt_of_waiting {s : State} {g : Nat} (h : (s.group g).waiting ≠ []) : g < 64 :=
  group_lt fun h' => h (by rw [h']; rfl)

theorem orbit_lt_of_call {s : State} {o c : Nat} (h : (s.orbit o).call = some c) : o < 32 := by
  by_contra ho
  rw [show s.orbit o = OrbitRecord.atReset from tabGet_ge _ _ (Nat.not_lt.mp ho)] at h
  simp [OrbitRecord.atReset] at h

end Sys2Proof.Machine
end

section
/-! PROOF. What the operations of the calls' blocks do in the cases the statements speak of: rings that end, the
arbitration over a freed extension, the ends of offers, the release of an orbit, and the connect rule
(R6, R16, R32, R55, R93). -/

namespace Sys2Proof.Machine

variable {s : State} {c x g o : Nat} {k : CallContext}

/-! ## Frames of single fields -/

theorem memberOf_modExt {f : ExtRecord → ExtRecord} (hf : ∀ r, (f r).memberOf = r.memberOf) (s : State) (x y : Nat) :
    ((s.modExt x f).ext y).memberOf = (s.ext y).memberOf := ext_modExt_keeps (p := ExtRecord.memberOf) hf s x y

theorem line_modExt {f : ExtRecord → ExtRecord} (hf : ∀ r, (f r).line = r.line) (s : State) (x y : Nat) :
    ((s.modExt x f).ext y).line = (s.ext y).line := ext_modExt_keeps (p := ExtRecord.line) hf s x y

/-- A change that empties the waiting list leaves it empty, in the table or past its end. -/
theorem waiting_modGroup_nil {f : GroupRecord → GroupRecord} (hf : ∀ r, (f r).waiting = []) (s : State) (g : Nat) :
    ((s.modGroup g f).group g).waiting = [] := by
  by_cases hg : g < 64
  · rw [group_modGroup_same f hg]
    exact hf _
  · rw [State.group, tabGet_ge _ _ (Nat.not_lt.mp hg)]
    rfl

/-- A change after which the line is not IDLE leaves the extension not IDLE, in the table or past its end. -/
theorem line_modExt_ne_idle {f : ExtRecord → ExtRecord} (hf : ∀ r, (f r).line ≠ .idle) (s : State) (x : Nat) :
    ((s.modExt x f).ext x).line ≠ .idle := by
  by_cases hx : x < 1024
  · rw [ext_modExt_same f hx]
    exact hf _
  · intro h
    exact hx (ext_lt_of_idle h)

/-! ## Rings that end (R6) -/

theorem clearMark_silent (x c : Nat) (s : State) :
    clearMark x c none s = (s.modExt x fun r => { r with ringing := none }).modCall c fun k =>
      { k with ringing := k.ringing.filter (· != x) } := rfl

theorem clearMark_stop (x c : Nat) (reason : StopReason) (s : State) :
    clearMark x c (some reason) s = direct (.stopRing x c reason)
      ((s.modExt x fun r => { r with ringing := none }).modCall c fun k =>
        { k with ringing := k.ringing.filter (· != x) }) := rfl

@[simp] theorem group_clearMark (x c : Nat) (reason : Option StopReason) (s : State) (g : Nat) :
    (clearMark x c reason s).group g = s.group g := by cases reason <;> rfl

@[simp] theorem orbit_clearMark (x c : Nat) (reason : Option StopReason) (s : State) (o : Nat) :
    (clearMark x c reason s).orbit o = s.orbit o := by cases reason <;> rfl

theorem call?_clearMark {reason : Option StopReason} (hc : s.call? c = some k) :
    (clearMark x c reason s).call? c = some { k with ringing := k.ringing.filter (· != x) } := by
  have h := call?_modCall_same (s := s.modExt x fun r => { r with ringing := none })
    (f := fun k => { k with ringing := k.ringing.filter (· != x) }) hc fun _ => rfl
  cases reason <;> exact h

/-- A stop of several rings, in order, of a call that one of their extensions answers (R16, step 1). -/
def stopOthers (c : Nat) (ys : List Nat) (s : State) : State :=
  ys.foldl (fun t y => direct (.stopRing y c .answeredElsewhere) (t.modExt y fun r => { r with ringing := none })) s

/-- A change that commutes with each stop commutes with them all. -/
theorem apply_stopOthers {F : State → State} (ys : List Nat)
    (hF : ∀ y ∈ ys, ∀ t, F (direct (.stopRing y c .answeredElsewhere)
      (t.modExt y fun r => { r with ringing := none })) =
      direct (.stopRing y c .answeredElsewhere) ((F t).modExt y fun r => { r with ringing := none })) (s : State) :
    F (stopOthers c ys s) = stopOthers c ys (F s) := by
  induction ys generalizing s with
  | nil => rfl
  | cons y ys ih =>
    simp only [stopOthers, List.foldl_cons] at ih ⊢
    rw [ih (fun z hz => hF z (by simp [hz])), hF y (by simp)]

/-- A view that each stop leaves as it is, they all leave as it is. -/
theorem view_stopOthers {α : Type} {view : State → α} (c : Nat)
    (hv : ∀ y t, view (direct (.stopRing y c .answeredElsewhere) (t.modExt y fun r => { r with ringing := none })) =
      view t) (ys : List Nat) (s : State) : view (stopOthers c ys s) = view s := by
  induction ys generalizing s with
  | nil => rfl
  | cons y ys ih => rw [stopOthers, List.foldl_cons, ← stopOthers, ih, hv]

theorem modCall_stopOthers (c d : Nat) (ys : List Nat) (f : CallContext → CallContext) (s : State) :
    (stopOthers c ys s).modCall d f = stopOthers c ys (s.modCall d f) :=
  apply_stopOthers (F := fun s => s.modCall d f) ys (fun _ _ _ => rfl) s

theorem modGroup_stopOthers (c g : Nat) (ys : List Nat) (f : GroupRecord → GroupRecord) (s : State) :
    (stopOthers c ys s).modGroup g f = stopOthers c ys (s.modGroup g f) :=
  apply_stopOthers (F := fun s => s.modGroup g f) ys (fun _ _ _ => rfl) s

theorem modExt_stopOthers {ys : List Nat} (h : x ∉ ys) (c : Nat) (f : ExtRecord → ExtRecord) (s : State) :
    (stopOthers c ys s).modExt x f = stopOthers c ys (s.modExt x f) := by
  refine apply_stopOthers (F := fun s => s.modExt x f) ys (fun y hy t => ?_) s
  have hne : y ≠ x := fun h' => h (h' ▸ hy)
  simp only [modExt_direct, modExt_comm hne]

@[simp] theorem group_of_stopOthers (c g : Nat) (ys : List Nat) (s : State) :
    (stopOthers c ys s).group g = s.group g := view_stopOthers (view := fun s => s.group g) c (fun _ _ => rfl) ys s
@[simp] theorem held_of_stopOthers (c g : Nat) (ys : List Nat) (s : State) :
    (stopOthers c ys s).held g = s.held g := view_stopOthers (view := fun s => s.held g) c (fun _ _ => rfl) ys s
@[simp] theorem call_of_stopOthers (c d : Nat) (ys : List Nat) (s : State) :
    (stopOthers c ys s).call? d = s.call? d := view_stopOthers (view := fun s => s.call? d) c (fun _ _ => rfl) ys s
@[simp] theorem clock_of_stopOthers (c : Nat) (ys : List Nat) (s : State) : (stopOthers c ys s).clock = s.clock :=
  view_stopOthers (view := State.clock) c (fun _ _ => rfl) ys s
@[simp] theorem line_of_stopOthers (c y : Nat) (ys : List Nat) (s : State) :
    ((stopOthers c ys s).ext y).line = (s.ext y).line :=
  view_stopOthers (view := fun s => (s.ext y).line) c (fun _ _ => line_modExt (by simp) _ _ _) ys s
@[simp] theorem memberOf_of_stopOthers (c y : Nat) (ys : List Nat) (s : State) :
    ((stopOthers c ys s).ext y).memberOf = (s.ext y).memberOf :=
  view_stopOthers (view := fun s => (s.ext y).memberOf) c (fun _ _ => memberOf_modExt (by simp) _ _ _) ys s

theorem filter_ne_filter_notMem (y : Nat) (ys l : List Nat) :
    (l.filter (· != y)).filter (· ∉ ys) = l.filter (· ∉ y :: ys) := by
  rw [List.filter_filter]
  congr 1
  funext z
  simp [Bool.and_comm, bne, ← Bool.beq_eq_decide_eq]

/-- The marks of an answered call are cleared: the answerer's in silence, each other with STOP-RING (R16, step 1). -/
theorem clearForConnect_answer (c x : Nat) (xs : List Nat) (s : State) :
    clearForConnect c x .answer xs s =
      (stopOthers c (xs.filter (· != x))
        (if x ∈ xs then s.modExt x fun r => { r with ringing := none } else s)).modCall c fun k =>
          { k with ringing := k.ringing.filter (· ∉ xs) } := by
  induction xs generalizing s with
  | nil =>
    rw [modCall_id (by simp)]
    rfl
  | cons y ys ih =>
    rw [clearForConnect, List.foldl_cons, ← clearForConnect, ih]
    by_cases hy : y = x
    · subst hy
      have hsilent : (if y ∈ ys then (clearMark y c none s).modExt y fun r => { r with ringing := none }
          else clearMark y c none s) = clearMark y c none s := by
        split
        · simp [clearMark_silent, modExt_modExt]
        · rfl
      simp only [decide_true, Bool.and_self, if_true, hsilent, List.mem_cons_self, bne_self_eq_false,
        Bool.false_eq_true, List.filter_cons, if_false]
      rw [clearMark_silent, ← modCall_stopOthers]
      simp only [modCall_modCall, implies_true, filter_ne_filter_notMem]
    · have hother :
          (if x ∈ ys then (clearMark y c (some .answeredElsewhere) s).modExt x fun r => { r with ringing := none }
            else clearMark y c (some .answeredElsewhere) s) =
          clearMark y c (some .answeredElsewhere)
            (if x ∈ ys then s.modExt x fun r => { r with ringing := none } else s) := by
        split
        · simp only [clearMark_stop, modExt_direct, modExt_modCall, modExt_comm hy]
        · rfl
      have hmem : x ∈ y :: ys ↔ x ∈ ys := by simp [Ne.symm hy]
      have hfirst : (y :: ys).filter (· != x) = y :: ys.filter (· != x) := by simp [hy]
      simp only [hy, decide_false, Bool.and_false, Bool.false_eq_true, if_false, ConnectCause.stopReason, hother, hmem,
        hfirst]
      rw [clearMark_stop, ← modCall_direct, ← modCall_stopOthers]
      simp only [modCall_modCall, implies_true, filter_ne_filter_notMem]
      rfl

theorem clearMarks_one (x c : Nat) (reason : StopReason) (s : State) :
    clearMarks [x] c reason s = clearMark x c (some reason) s := rfl

/-! ## The arbitration over a freed extension (R55) -/

theorem arbitrate_notIdle (h : (s.ext x).line ≠ .idle) : arbitrate x s = s := by simp [arbitrate, h]

/-- An extension that no configured group has a call for keeps its place. -/
theorem arbitrate_unwanted (h : ∀ g ∈ (s.ext x).memberOf, s.firstFor g x = none) : arbitrate x s = s := by
  have hnone : s.candidatesFor x = [] := by
    simp only [State.candidatesFor, List.filterMap_eq_nil_iff, List.mem_filter, Option.map_eq_none_iff]
    exact fun g hg => h g hg.1
  simp [arbitrate, hnone, firstBest]

/-- A group has no call for an extension that each of its QUEUED calls has tried. -/
theorem firstFor_none (h : ∀ c ∈ (s.group g).waiting, ∀ k, s.call? c = some k → k.ringing = [] → x ∈ k.tried) :
    s.firstFor g x = none := by
  rw [State.firstFor, List.find?_eq_none]
  intro k hk
  obtain ⟨c, hc, hck⟩ := List.mem_filterMap.1 hk
  by_cases hr : k.ringing = []
  · have htried := h c hc k hck hr
    have hsub : ∀ m ∈ s.eligible g k, m.1.ext ≠ x := by
      intro m hm hmx
      have hreach : s.reachable g k m.1 = true := by
        simp only [State.eligible] at hm
        split at hm <;> exact (List.mem_filter.1 (List.mem_filter.1 hm).1).2
      simp [State.reachable, hmx, htried] at hreach
    simpa [hr] using fun m n hm => hsub (m, n) hm
  · simp [hr]

theorem firstFor_noWaiting (h : (s.group g).waiting = []) : s.firstFor g x = none := firstFor_none (by simp [h])

/-- An extension whose groups have no waiting call is offered none. -/
theorem arbitrate_noWaiting (hm : ∀ h ∈ (s.ext x).memberOf, h = g) (hw : (s.group g).waiting = []) :
    arbitrate x s = s := arbitrate_unwanted fun h hh => hm h hh ▸ firstFor_noWaiting hw

theorem arbitrate_noGroup (hm : (s.ext x).memberOf = []) : arbitrate x s = s := arbitrate_unwanted (by simp [hm])

theorem arbitrateAll_one (x : Nat) (s : State) : arbitrateAll [x] s = arbitrate x s := rfl

/-- A list of extensions none of which the arbitration would ring. -/
theorem arbitrateAll_same {xs : List Nat} (h : ∀ x ∈ xs, arbitrate x s = s) : arbitrateAll xs s = s := by
  induction xs with
  | nil => rfl
  | cons x xs ih =>
    rw [arbitrateAll, List.foldl_cons, h x (by simp)]
    exact ih fun y hy => h y (by simp [hy])

/-- The group's one QUEUED call is its call for a free AVAILABLE member that it has not tried. -/
theorem firstFor_sole (hw : (s.group g).waiting = [c]) (hc : s.call? c = some k) (hr : k.ringing = [])
    (ht : x ∉ k.tried) (hl : (s.ext x).line = .idle) (hf : (s.ext x).ringing = none)
    (hcfg : (s.group g).configured = true) (hh : s.held g = false)
    (hm : ∃ m ∈ (s.group g).members, m.ext = x ∧ m.effective = .available) : s.firstFor g x = some k := by
  obtain ⟨m, hm, hmx, hma⟩ := hm
  obtain ⟨i, hi⟩ := List.mem_iff_getElem?.1 hm
  rw [← List.mk_mem_zipIdx_iff_getElem?] at hi
  have hreach : s.reachable g k m = true := by simp [State.reachable, hcfg, hh, hmx, hl, hf, ht]
  have havail : (m, i) ∈ (((s.group g).members.zipIdx).filter fun m => s.reachable g k m.1).filter
      fun m => m.1.effective = .available := by simp [hi, hreach, hma]
  have heligible : (s.eligible g k).any (fun m => m.1.ext == x) = true := by
    rw [State.eligible, if_neg (by simpa using List.ne_nil_of_mem havail)]
    exact List.any_eq_true.2 ⟨_, havail, by simp [hmx]⟩
  simp [State.firstFor, hw, hc, hr, heligible]

theorem moveCursorTo_same (h : (s.group g).discipline ≠ .circular) : moveCursorTo g x s = s :=
  modGroup_self (by simp [h])

/-- A free extension is rung for an offer (R49). -/
theorem ringForOffer_free (hc : s.call? c = some k) (hf : (s.ext x).ringing = none) :
    ringForOffer g c x s =
      offerRecord { TraceRecord.offered .offer k.priority with call := some c, group := some g, ext := some x }
        (direct (.ring x c .hunt)
          ((s.modExt x fun r => { r with ringing := some c, ringStart := s.now }).modCall c fun k =>
            { k with ringing := k.ringing ++ [x], tried := insertAscending x k.tried })) := by
  have hmark : placeMark x c .hunt s = direct (.ring x c .hunt)
      ((s.modExt x fun r => { r with ringing := some c, ringStart := s.now }).modCall c fun k =>
        { k with ringing := k.ringing ++ [x] }) := by simp [placeMark, hf]
  simp only [ringForOffer, hmark, modCall_direct, modCall_modCall, call_of_direct, call?_modCall, call_of_modExt, hc,
    implies_true, Option.map_some, if_true]

/-- An offer to one free extension (R49). -/
theorem makeOffer_one (hc : s.call? c = some k) (hf : (s.ext x).ringing = none) :
    makeOffer g c [x] s =
      offerRecord { TraceRecord.offered .offer k.priority with call := some c, group := some g, ext := some x }
        (direct (.ring x c .hunt)
          ((s.modExt x fun r => { r with ringing := some c, ringStart := s.now }).modCall c fun k =>
            { k with ringing := k.ringing ++ [x], tried := insertAscending x k.tried
                     noAnswerDue := some (s.after (s.group g).noAnswerTime) })) := by
  simp only [makeOffer, List.foldl_cons, List.foldl_nil, ringForOffer_free hc hf]
  simp [modCall_modCall]

/-- A freed extension is offered the one QUEUED call of its only group (R55, R56). -/
theorem arbitrate_offers (hg : (s.ext x).memberOf = [g]) (hd : (s.group g).discipline ≠ .circular)
    (hw : (s.group g).waiting = [c]) (hc : s.call? c = some k) (hr : k.ringing = []) (ht : x ∉ k.tried)
    (hl : (s.ext x).line = .idle) (hf : (s.ext x).ringing = none) (hcfg : (s.group g).configured = true)
    (hh : s.held g = false) (hm : ∃ m ∈ (s.group g).members, m.ext = x ∧ m.effective = .available) :
    arbitrate x s =
      offerRecord { TraceRecord.offered .offer k.priority with call := some c, group := some g, ext := some x }
        (direct (.ring x c .hunt)
          ((s.modExt x fun r => { r with ringing := some c, ringStart := s.now }).modCall c fun k =>
            { k with ringing := k.ringing ++ [x], tried := insertAscending x k.tried
                     noAnswerDue := some (s.after (s.group g).noAnswerTime) })) := by
  have hcandidate : s.candidatesFor x = [(g, k)] := by
    simp [State.candidatesFor, hg, hcfg, hh, firstFor_sole hw hc hr ht hl hf hcfg hh hm]
  simp only [arbitrate, hl, hf, hcandidate, firstBest, moveCursorTo_same hd, List.foldl_nil, Option.isNone_none,
    decide_true, Bool.and_self, if_true]
  rw [call?_ref hc, makeOffer_one hc hf]

/-! ## The ends of offers (R32) -/

/-- A condition on a group's record that a change keeps. -/
theorem group_modGroup_induct {P : GroupRecord → Prop} {f : GroupRecord → GroupRecord} {i : Nat}
    (hf : ∀ r, P r → P (f r)) (h : P (s.group i)) : P ((s.modGroup g f).group i) := by
  rw [group_modGroup]
  split
  · exact hf _ h
  · exact h

/-- No offer of the group that ends has a staged value waiting for it. -/
abbrev State.Settled (s : State) (g : Nat) : Prop := ∀ m ∈ (s.group g).members, m.pending = false

theorem offerEnded_settled (h : s.Settled g) : offerEnded g x s = s := by
  have hp : ((s.member? g x).map Membership.pending).getD false = false := by
    cases hm : s.member? g x with
    | none => rfl
    | some m => exact h m (List.mem_of_find?_eq_some hm)
  simp [offerEnded, hp]

theorem offersEnded_settled (xs : List Nat) (h : s.Settled g) :
    offersEnded g xs s = s := by
  induction xs with
  | nil => rfl
  | cons x xs ih => rw [offersEnded, List.foldl_cons, offerEnded_settled h]; exact ih

theorem offersEnded_one (g x : Nat) (s : State) : offersEnded g [x] s = offerEnded g x s := rfl

/-! ## The waiting list -/

theorem leaveList_listed (hc : s.call? c = some k) (hg : k.group = some g) :
    leaveList c s = s.modGroup g fun r => { r with waiting := r.waiting.filter (· != c) } := by
  simp [leaveList, hc, hg]

theorem leaveList_sole (hc : s.call? c = some k) (hg : k.group = some g) (hw : (s.group g).waiting = [c]) :
    leaveList c s = s.modGroup g fun r => { r with waiting := [] } := by
  rw [leaveList_listed hc hg]
  exact modGroup_congr (by simp [hw])

/-! ## The release of an orbit (R93) -/

/-- An orbit record without its call, its parker, its timers and its announcement. -/
abbrev OrbitRecord.emptied (r : OrbitRecord) : OrbitRecord :=
  { r with state := .free, call := none, parker := none, parkDue := none, recallDue := none, announcePage := none }

theorem releaseOrbit_unannounced (hc : (s.orbit o).call = some c) (ha : (s.orbit o).announcePage = none) :
    releaseOrbit o s = (s.modOrbit o OrbitRecord.emptied).modCall c fun k => { k with orbit := none } := by
  simp only [releaseOrbit, hc, ha, removeAnnouncement, modOrbit_modOrbit]

/-- A release without an announcement releases no emergency hold. -/
theorem releasingHolds_releaseOrbit (hc : (s.orbit o).call = some c) (ha : (s.orbit o).announcePage = none) :
    releasingHolds (releaseOrbit o) s =
      (s.modOrbit o OrbitRecord.emptied).modCall c fun k => { k with orbit := none } := by
  rw [releasingHolds_keeps fun g hg => by simpa [releaseOrbit_unannounced hc ha] using hg,
    releaseOrbit_unannounced hc ha]

/-! ## The connect rule (R16) -/

/-- CONNECT is sent but to an extension that answers itself (R16, step 7). -/
def sendConnect (cause : ConnectCause) (x c : Nat) (s : State) : State :=
  if cause = .answer then s else direct (.connect x c) s

/-- A record is offered when the asking block has one. -/
def offerOptional (r : Option TraceRecord) (s : State) : State :=
  match r with
  | none => s
  | some r => offerRecord r s

/-- A context that is connected to an extension, its timers stopped (R16, steps 2 and 4). -/
abbrev CallContext.connectTo (x : Nat) (k : CallContext) : CallContext :=
  { k with noAnswerDue := none, maxWaitDue := none, state := .connected, connected := some x }

/-- A call that stands in no waiting list and no orbit is connected. -/
theorem connectCall_unlisted {cause : ConnectCause} {record : Option TraceRecord} (hc : s.call? c = some k)
    (hs : k.state ≠ .waiting) (ho : k.orbit = none) :
    connectCall c x cause record s = arbitrateAll k.ringing (offerOptional record (sendConnect cause x c
      (chargeIdleClock k.group x (((clearForConnect c x cause k.ringing s).modCall c (CallContext.connectTo x)).modExt x
        fun r => { r with line := .inCall })))) := by
  simp only [connectCall, hc, becomeConnected, hs, ho, if_false]
  rfl

/-- A call in an orbit is connected, and the orbit released. -/
theorem connectCall_orbit {cause : ConnectCause} {record : Option TraceRecord} (hc : s.call? c = some k)
    (hs : k.state ≠ .waiting) (ho : k.orbit = some o) :
    connectCall c x cause record s = arbitrateAll k.ringing (offerOptional record (releasingHolds (releaseOrbit o)
      (sendConnect cause x c (chargeIdleClock k.group x (((clearForConnect c x cause k.ringing s).modCall c
        (CallContext.connectTo x)).modExt x fun r => { r with line := .inCall }))))) := by
  simp only [connectCall, hc, becomeConnected, hs, ho, if_false]
  rfl

/-- A WAITING call is connected: it leaves its list, and the ends of its offers are reported. -/
theorem connectCall_waiting {cause : ConnectCause} {record : Option TraceRecord} (hc : s.call? c = some k)
    (hs : k.state = .waiting) (hg : k.group = some g) (ho : k.orbit = none) :
    connectCall c x cause record s = arbitrateAll k.ringing (offerOptional record (offersEnded g k.ringing
      (sendConnect cause x c (chargeIdleClock (some g) x
        (((leaveList c (clearForConnect c x cause k.ringing s)).modCall c
        fun r => { r.connectTo x with tried := [], passCount := 0 }).modExt x fun r =>
          { r with line := .inCall }))))) := by
  simp only [connectCall, hc, becomeConnected, hs, hg, ho, if_true]
  rfl

theorem clearForConnect_answerer (c x : Nat) (s : State) :
    clearForConnect c x .answer [x] s = (s.modExt x fun r => { r with ringing := none }).modCall c fun k =>
      { k with ringing := k.ringing.filter (· != x) } := by
  simp [clearForConnect, clearMark_silent]

theorem clearForConnect_stopped {cause : ConnectCause} {y : Nat} (h : cause ≠ .answer ∨ y ≠ x) :
    clearForConnect c x cause [y] s = clearMark y c (some cause.stopReason) s := by
  have : ¬(cause = .answer ∧ y = x) := by tauto
  simp only [clearForConnect, List.foldl_cons, List.foldl_nil, Bool.and_eq_true, decide_eq_true_eq, this, if_false]

end Sys2Proof.Machine
end

section
/-! PROOF. DIRECT-RING, CALL-GONE and CALL-QUERY (R13, R14, R18, R19). -/

namespace Sys2Proof.Machine

variable {s t : State} {c x g o n : Nat} {k : CallContext} {tag : Byte} {p : List Byte} {a : Answer}

/-! ## A request and its owner -/

/-- A taken request is answered as its owner says. -/
theorem takeKind_answers {α : Type} {kind : Byte} {read : List Byte → Option α} {op : α}
    {owner : α → State → State × Answer} (ht : s.Takes ⟨kind, tag, p⟩) (hr : read p = some op)
    (ha : owner op s = (t, a)) :
    takeKind kind tag p read owner s = answered ⟨kind, tag, p⟩ a.verdict a.body t := by
  rw [takeKind_takes ht hr, ha]

theorem exec_directRing_answers {op : DirectRingOp} (hr : DirectRingOp.read p = some op) (ht : s.Takes ⟨0x03, tag, p⟩)
    (ha : directRing op s = (t, a)) :
    exec (.directRing tag p) s = .next (answered ⟨0x03, tag, p⟩ a.verdict a.body t) :=
  congrArg Host.Outcome.next (takeKind_answers ht hr ha)

theorem exec_callGone_answers (hr : readNumber2 p = some c) (ht : s.Takes ⟨0x05, tag, p⟩) (ha : callGone c s = (t, a)) :
    exec (.callGone tag p) s = .next (answered ⟨0x05, tag, p⟩ a.verdict a.body t) :=
  congrArg Host.Outcome.next (takeKind_answers ht hr ha)

theorem exec_callQuery_answers (hr : readNumber2 p = some c) (ht : s.Takes ⟨0x21, tag, p⟩)
    (ha : callQuery c s = (t, a)) :
    exec (.callQuery tag p) s = .next (answered ⟨0x21, tag, p⟩ a.verdict a.body t) :=
  congrArg Host.Outcome.next (takeKind_answers ht hr ha)

theorem badRef_iff : badRef c = true ↔ c = 0 ∨ 65534 < c := by simp [badRef]

theorem badRef_inRange (h1 : 1 ≤ c) (h2 : c ≤ 65534) : badRef c = false := by
  rw [Bool.eq_false_iff, Ne, badRef_iff]; omega

/-! ## DIRECT-RING -/

/-- A mark placed on a free extension (R5). -/
theorem placeMark_free {cadence : Cadence} (h : (s.ext x).ringing = none) :
    placeMark x c cadence s = direct (.ring x c cadence)
      ((s.modExt x fun r => { r with ringing := some c, ringStart := s.now }).modCall c fun k =>
        { k with ringing := k.ringing ++ [x] }) := by simp [placeMark, h]

/-- A call taken under a new reference is the only one that a change of it changes. -/
theorem modCall_addCall_new {f : CallContext → CallContext} (h : s.call? k.ref = none) :
    (s.addCall k).modCall k.ref f = s.addCall (f k) := by
  have hs : s.calls.map (fun r => if r.ref == k.ref then f r else r) = s.calls :=
    congrArg State.calls (modCall_none h f)
  simp only [State.modCall, State.addCall, List.map_append, hs, List.map_cons, List.map_nil, beq_self_eq_true, if_true]

/-- What a taken DIRECT-RING does (R14). -/
theorem placeMark_addCall (h : (s.ext x).ringing = none) (hk : s.call? k.ref = none) (cadence : Cadence) :
    placeMark x k.ref cadence (s.addCall k) = direct (.ring x k.ref cadence)
      ((s.modExt x fun r => { r with ringing := some k.ref, ringStart := s.now }).addCall
        { k with ringing := k.ringing ++ [x] }) := by
  rw [placeMark_free (s := s.addCall k) h]
  exact congrArg _ (modCall_addCall_new (s := s.modExt x fun r => { r with ringing := some k.ref, ringStart := s.now })
    (f := fun k => { k with ringing := k.ringing ++ [x] }) hk)

theorem directRing_range (o : DirectRingOp) : (badRef o.call || 1023 < o.ext || 3 < o.priority.getD 0) = true ↔
    o.call = 0 ∨ 65534 < o.call ∨ 1023 < o.ext ∨ ∃ n, o.priority = some n ∧ 3 < n := by
  cases o.priority <;> simp [badRef_iff, or_assoc]

/-- Settles O20: the checks one after another, then the mark placed on the new context. -/
theorem directRingRingsExtension : Obligations.DirectRingRingsExtension := by
  intro tag p o s hr ht
  split
  · rename_i hrange
    rw [← directRing_range] at hrange
    exact exec_directRing_answers (a := .refused .outOfRange) hr ht (by rw [directRing, if_pos hrange])
  rename_i hrange
  rw [← directRing_range] at hrange
  split
  · rename_i hdup
    exact exec_directRing_answers (a := .refused .duplicate) hr ht (by
      rw [directRing, if_neg hrange, if_pos (Option.isSome_iff_ne_none.2 hdup)])
  rename_i hnew
  rw [not_not] at hnew
  split
  · rename_i hbusy
    refine exec_directRing_answers (a := .refused .wrongState) hr ht ?_
    rw [directRing, if_neg hrange, if_neg (by simp [hnew]), if_pos (by simpa [Option.isSome_iff_ne_none] using hbusy)]
  rename_i hfree
  obtain ⟨hidle, hmark⟩ : (s.ext o.ext).line = .idle ∧ (s.ext o.ext).ringing = none := by tauto
  split
  · rename_i hfull
    refine exec_directRing_answers (a := .refused .tableFull) hr ht ?_
    rw [directRing, if_neg hrange, if_neg (by simp [hnew]), if_neg (by simp [hidle, hmark]), if_pos
      (c := Config.callContexts ≤ s.calls.length) hfull]
  · rename_i hroom
    refine exec_directRing_answers (a := .ok) hr ht ?_
    rw [directRing, if_neg hrange, if_neg (by simp [hnew]), if_neg (by simp [hidle, hmark]), if_neg
      (c := Config.callContexts ≤ s.calls.length) hroom]
    exact congrArg (·, Answer.ok) (placeMark_addCall
      (k := CallContext.fresh o.call .direct .ringingDirect none (o.priority.getD 0) s.now) hmark hnew .direct)

/-! ## CALL-GONE -/

theorem callGone_ends (hc : s.call? c = some k) (h1 : 1 ≤ c) (h2 : c ≤ 65534) : callGone c s = (endCall k s, .ok) := by
  simp [callGone, badRef_inRange h1 h2, hc]

theorem exec_callGone_ends (hr : readNumber2 p = some c) (ht : s.Takes ⟨0x05, tag, p⟩) (hc : s.call? c = some k)
    (h1 : 1 ≤ c) (h2 : c ≤ 65534) (he : endCall k s = t) :
    exec (.callGone tag p) s = .next (answered ⟨0x05, tag, p⟩ .ok .nothing t) :=
  exec_callGone_answers (a := .ok) hr ht (by rw [callGone_ends hc h1 h2, he])

/-- The ABANDON record of a call (R65, R100). -/
def abandonRecord (k : CallContext) : TraceRecord :=
  { TraceRecord.offered .abandon k.priority with
    call := some k.ref, group := k.group, orbit := k.orbit, detail := k.depth }

theorem offerAbandon_eq (k : CallContext) (s : State) : offerAbandon k s = offerRecord (abandonRecord k) s := rfl

theorem endCall_direct (hs : k.state = .ringingDirect) (hx : k.ringing = [x]) (hm : (s.ext x).memberOf = []) :
    endCall k s = direct (.stopRing x k.ref .callerGone)
      ((s.modExt x fun r => { r with ringing := none }).freeCall k.ref) := by
  simp only [endCall, hs, hx, clearMarks_one, clearMark_stop, arbitrateAll_one, freeCall_direct, freeCall_modCall,
    implies_true]
  exact arbitrate_noGroup (by simp [memberOf_modExt, hm])

theorem endCall_queued (hc : s.call? k.ref = some k) (hs : k.state = .waiting) (hx : k.ringing = [])
    (hg : k.group = some g) :
    endCall k s = offerRecord (abandonRecord k)
      ((s.modGroup g fun r => { r with waiting := r.waiting.filter (· != k.ref) }).freeCall k.ref) := by
  simp only [endCall, hs, hx]
  rw [show clearOffer k .callerGone s = s by simp [clearOffer, hx, clearMarks, offersEnded], leaveList_listed hc hg]
  simp [offerAbandon_eq, arbitrateAll]

theorem endCall_parked (hs : k.state = .parked) (ho : k.orbit = some o) (hc : (s.orbit o).call = some k.ref)
    (ha : (s.orbit o).announcePage = none) :
    endCall k s = offerRecord (abandonRecord k) ((s.modOrbit o OrbitRecord.emptied).freeCall k.ref) := by
  simp only [endCall, hs, ho, Option.getD_some]
  rw [releasingHolds_releaseOrbit hc ha, offerAbandon_eq, freeCall_offerRecord]
  simp only [freeCall_modCall, implies_true]

theorem endCall_offered (hc : s.call? k.ref = some k) (hs : k.state = .waiting) (hx : k.ringing = [x])
    (hg : k.group = some g) (hp : ∀ m ∈ (s.group g).members, m.pending = false) (hw : (s.group g).waiting = [k.ref])
    (hm : ∀ h ∈ (s.ext x).memberOf, h = g) :
    endCall k s = offerRecord (abandonRecord k) (direct (.stopRing x k.ref .callerGone)
      (((s.modExt x fun r => { r with ringing := none }).modGroup g fun r => { r with waiting := [] }).freeCall
        k.ref)) := by
  have hclear : clearOffer k .callerGone s = clearMark x k.ref (some .callerGone) s := by
    rw [clearOffer, hx, clearMarks_one, offersEnded_settled]
    simpa [hg, State.Settled] using hp
  simp only [endCall, hs, hx, hclear]
  rw [leaveList_sole (call?_clearMark hc) hg (by simpa using hw), arbitrateAll_one, offerAbandon_eq, clearMark_stop,
    arbitrate_noWaiting (g := g)]
  · simp [freeCall_modCall]
  · simpa [memberOf_modExt] using hm
  · simp [waiting_modGroup_nil]

theorem endCall_recalled (hs : k.state = .recallRinging) (hx : k.ringing = [x]) (ho : k.orbit = some o)
    (hc : (s.orbit o).call = some k.ref) (ha : (s.orbit o).announcePage = none) (hm : (s.ext x).memberOf = []) :
    endCall k s = offerRecord (abandonRecord k) (direct (.stopRing x k.ref .callerGone)
      (((s.modExt x fun r => { r with ringing := none }).modOrbit o OrbitRecord.emptied).freeCall k.ref)) := by
  simp only [endCall, hs, hx, ho, Option.getD_some, clearMarks_one]
  rw [releasingHolds_releaseOrbit (c := k.ref) (by simpa using hc) (by simpa using ha), arbitrateAll_one,
    offerAbandon_eq, clearMark_stop, arbitrate_noGroup]
  · simp
  · simpa [memberOf_modExt] using hm

/-- Settles O22: the checks, then the end of the call in each of its states. -/
theorem callGoneFreesCall : Obligations.CallGoneFreesCall := by
  intro tag p c s hr ht
  refine ⟨fun hrange => ?_, fun h1 h2 hc => ?_, fun k h1 h2 hc hs => ?_, fun k h1 h2 hc => ?_⟩
  · exact exec_callGone_answers (a := .refused .outOfRange) hr ht (by rw [callGone, if_pos (badRef_iff.2 hrange)])
  · exact exec_callGone_answers (a := .refused .noSuchCall) hr ht (by simp [callGone, badRef_inRange h1 h2, hc])
  · obtain rfl := call?_ref hc
    exact exec_callGone_ends hr ht hc h1 h2 (by simp only [endCall, hs]; rfl)
  · obtain rfl := call?_ref hc
    have hends := fun {t} => exec_callGone_ends (t := t) hr ht hc h1 h2
    refine ⟨fun x hs hx hm => hends (endCall_direct hs hx hm), fun g hs hx hg ho => hends ?_,
      fun n hs ho hn ha => hends ?_, fun g x hs hx hg ho hp hw hm => hends ?_,
      fun n x hs hx ho hn ha hm => hends ?_⟩
    · rw [endCall_queued hc hs hx hg, abandonRecord, hg, ho]
      rfl
    · rw [endCall_parked hs ho hn ha, abandonRecord, ho]
      rfl
    · rw [endCall_offered hc hs hx hg hp hw hm, abandonRecord, hg, ho]
      rfl
    · rw [endCall_recalled hs hx ho hn ha hm, abandonRecord, ho]
      rfl

/-! ## CALL-QUERY -/

/-- A running timer's remaining time is the exact one in 100 ms units, rounded down or up (R19; log entry 1). -/
theorem unitsLeft_bounds (s : State) (t : Nat) :
    ∃ n, s.unitsLeft (some t) = some n ∧ (t - s.clock) / 100 ≤ n ∧ n ≤ (t - s.clock + 99) / 100 := by
  refine ⟨_, rfl, ?_⟩
  dsimp only
  split
  · omega
  · split <;> omega

theorem queriedState_eq (k : CallContext) :
    k.queriedState = match k.state with
      | .waiting => if k.ringing = [] then .waitingQueued else .waitingRinging
      | .ringingDirect => .ringingDirect
      | .recallRinging => .recallRinging
      | .connected => .connected
      | .parked => .parked := by
  unfold CallContext.queriedState
  cases k.state <;> simp

/-- Settles O23: the report of the context, with the exact remaining times within a unit. -/
theorem callQueryReports : Obligations.CallQueryReports := by
  intro tag p c k s hr ht h1 h2 hc
  refine ⟨s.unitsLeft k.noAnswerDue, s.unitsLeft k.maxWaitDue, ?_, fun h => by rw [h]; rfl, fun h => by rw [h]; rfl,
    fun t h => h ▸ unitsLeft_bounds s t, fun t h => h ▸ unitsLeft_bounds s t⟩
  have hreport := exec_callQuery_answers (a := .okWith (.call (s.callReport k))) (t := s) hr ht
    (by simp [callQuery, badRef_inRange h1 h2, hc])
  rw [State.callReport, queriedState_eq] at hreport
  exact hreport

end Sys2Proof.Machine
end

section
/-! PROOF. CALL-ANSWER and the connect rule (R15 to R17). -/

namespace Sys2Proof.Machine

variable {s t : State} {c x g o n : Nat} {k : CallContext} {tag : Byte} {p : List Byte} {a : Answer}

theorem exec_callAnswer_answers {op : CallAnswerOp} (hr : CallAnswerOp.read p = some op) (ht : s.Takes ⟨0x04, tag, p⟩)
    (ha : callAnswer op s = (t, a)) :
    exec (.callAnswer tag p) s = .next (answered ⟨0x04, tag, p⟩ a.verdict a.body t) :=
  congrArg Host.Outcome.next (takeKind_answers ht hr ha)

theorem callAnswer_connects {op : CallAnswerOp} (h1 : 1 ≤ op.call) (h2 : op.call ≤ 65534) (hx : op.ext ≤ 1023)
    (hc : s.call? op.call = some k) (hm : (s.ext op.ext).ringing = some op.call) :
    callAnswer op s = (connectCall op.call op.ext .answer (answerRecord k op.ext) s, .ok) := by
  simp [callAnswer, badRef_inRange h1 h2, hc, hm, Nat.not_lt.mpr hx]

theorem sendConnect_answer (x c : Nat) (s : State) : sendConnect .answer x c s = s := rfl

/-- The answer of a direct call (R16). -/
theorem connectCall_answerDirect (hc : s.call? c = some k) (hs : k.state = .ringingDirect) (hx : k.ringing = [x])
    (hg : k.group = none) (ho : k.orbit = none) :
    connectCall c x .answer (answerRecord k x) s =
      (s.modExt x fun r => { r with ringing := none, line := .inCall }).modCall c fun k =>
        { k with ringing := k.ringing.filter (· != x), noAnswerDue := none, maxWaitDue := none
                 state := .connected, connected := some x } := by
  rw [connectCall_unlisted hc (by simp [hs]) ho, hx, arbitrateAll_one, arbitrate_notIdle]
  · simp [clearForConnect_answerer, sendConnect_answer, hg, chargeIdleClock, answerRecord, hs, offerOptional,
      modExt_modExt, modCall_modCall]
  · simp [clearForConnect_answerer, sendConnect_answer, hg, chargeIdleClock, answerRecord, hs, offerOptional,
      line_modExt_ne_idle]

/-- A hunt offer that is answered, its other rings stopped (R16). -/
def answeredOffer (g c x : Nat) (xs : List Nat) (s : State) : State :=
  ((stopOthers c (xs.filter (· != x)) (s.modExt x fun r => { r with ringing := none, line := .inCall })).modGroup g
    fun r =>
      { r with
        waiting := r.waiting.filter (· != c)
        members := r.members.map fun m => if m.ext = x then { m with idleTenths := 0 } else m }).modCall c fun r =>
    { r with
      ringing := r.ringing.filter (· ∉ xs), noAnswerDue := none, maxWaitDue := none
      state := .connected, connected := some x, tried := [], passCount := 0 }

theorem answerRecord_waiting (hc : s.call? c = some k) (hs : k.state = .waiting) (hg : k.group = some g) (x : Nat) :
    answerRecord k x =
      some { TraceRecord.offered .answer k.priority with call := some c, group := some g, ext := some x } := by
  simp [answerRecord, hs, hg, call?_ref hc]

/-- Starting an idle clock afresh leaves no membership pending that was not. -/
theorem pending_restartIdle {l : List Membership} (h : ∀ m ∈ l, m.pending = false) (x : Nat) :
    ∀ m ∈ l.map fun m => if m.ext = x then { m with idleTenths := 0 } else m, m.pending = false := by
  simp only [List.mem_map, forall_exists_index, and_imp, forall_apply_eq_imp_iff₂]
  intro m hm
  split
  · exact h m hm
  · exact h m hm

theorem settled_answeredOffer (hp : s.Settled g) (c x : Nat) (xs : List Nat) :
    (answeredOffer g c x xs s).Settled g := by
  rw [State.Settled, answeredOffer, group_of_modCall]
  exact group_modGroup_induct (P := fun r => ∀ m ∈ r.members, m.pending = false)
    (fun _ hr => pending_restartIdle hr x) (by simpa using hp)

/-- The answer of a hunt offer (R16): the ends of its rings and its arbitration are all that is left to say. -/
theorem connectCall_answerRings (hc : s.call? c = some k) (hs : k.state = .waiting) (hg : k.group = some g)
    (ho : k.orbit = none) (hx : x ∈ k.ringing) :
    connectCall c x .answer (answerRecord k x) s = arbitrateAll k.ringing
      (offerRecord { TraceRecord.offered .answer k.priority with call := some c, group := some g, ext := some x }
        (offersEnded g k.ringing (answeredOffer g c x k.ringing s))) := by
  have hcleared := call?_modCall_same (c := c) (k := k)
    (f := fun r => { r with ringing := r.ringing.filter (· ∉ k.ringing) })
    (s := stopOthers c (k.ringing.filter (· != x)) (s.modExt x fun r => { r with ringing := none }))
    (by simpa using hc) fun _ => rfl
  have hconnected : chargeIdleClock (some g) x (((leaveList c (clearForConnect c x .answer k.ringing s)).modCall c
      fun r => { r.connectTo x with tried := [], passCount := 0 }).modExt x fun r => { r with line := .inCall }) =
      answeredOffer g c x k.ringing s := by
    rw [clearForConnect_answer, if_pos hx, leaveList_listed (k := { k with ringing := _ }) hcleared hg]
    simp [chargeIdleClock, State.modMember, answeredOffer, modCall_modCall, modGroup_modGroup, modGroup_stopOthers,
      modExt_stopOthers, modExt_modExt]
  rw [connectCall_waiting hc hs hg ho, hconnected, sendConnect_answer, answerRecord_waiting hc hs hg, offerOptional]

theorem connectCall_answerOffer (hc : s.call? c = some k) (hs : k.state = .waiting) (hg : k.group = some g)
    (ho : k.orbit = none) (hx : x ∈ k.ringing) (hp : s.Settled g) :
    connectCall c x .answer (answerRecord k x) s = arbitrateAll k.ringing
      (offerRecord { TraceRecord.offered .answer k.priority with call := some c, group := some g, ext := some x }
        (answeredOffer g c x k.ringing s)) := by
  rw [connectCall_answerRings hc hs hg ho hx, offersEnded_settled _ (settled_answeredOffer hp c x k.ringing)]

theorem line_answeredOffer_ne_idle (g c x : Nat) (xs : List Nat) (s : State) :
    ((answeredOffer g c x xs s).ext x).line ≠ .idle := by
  simp [answeredOffer, line_modExt_ne_idle]

theorem ext_answeredOffer_other {y : Nat} (hy : y ≠ x) (g c : Nat) (xs : List Nat) (s : State) :
    ((answeredOffer g c x xs s).ext y).line = (s.ext y).line ∧
      ((answeredOffer g c x xs s).ext y).memberOf = (s.ext y).memberOf := by
  simp [answeredOffer, ext_modExt_other _ hy.symm]

theorem group_answeredOffer (h : g < 64) (c x : Nat) (xs : List Nat) (s : State) :
    (answeredOffer g c x xs s).group g =
      { s.group g with
        waiting := (s.group g).waiting.filter (· != c)
        members := (s.group g).members.map fun m => if m.ext = x then { m with idleTenths := 0 } else m } := by
  simp [answeredOffer, group_modGroup_same _ h]

/-- The arbitration leaves the answerer of an offer alone, whatever else it was offered. -/
theorem arbitrate_answerer (h : (s.ext x).line ≠ .idle) (r : TraceRecord) :
    arbitrate x (offerRecord r s) = offerRecord r s :=
  arbitrate_notIdle (by simpa using h)

/-- The answer of the group's only call: no other call waits for the extensions it rang. -/
theorem connectCall_answerSole (hc : s.call? c = some k) (hs : k.state = .waiting) (hg : k.group = some g)
    (ho : k.orbit = none) (hx : x ∈ k.ringing) (hp : s.Settled g) (hw : (s.group g).waiting = [c])
    (hm : ∀ y ∈ k.ringing.filter (· != x), ∀ h ∈ (s.ext y).memberOf, h = g) :
    connectCall c x .answer (answerRecord k x) s =
      offerRecord { TraceRecord.offered .answer k.priority with call := some c, group := some g, ext := some x }
        (answeredOffer g c x k.ringing s) := by
  rw [connectCall_answerOffer hc hs hg ho hx hp]
  refine arbitrateAll_same fun y hy => ?_
  by_cases hyx : y = x
  · exact hyx ▸ arbitrate_answerer (line_answeredOffer_ne_idle g c x k.ringing s) _
  · refine arbitrate_noWaiting (g := g) ?_ ?_
    · simpa [(ext_answeredOffer_other hyx g c k.ringing s).2] using hm y (by simp [hy, hyx])
    · simp [group_answeredOffer (group_lt_of_waiting (hw ▸ List.cons_ne_nil c [])), hw]

/-- The answer of an offer at a single extension. -/
theorem connectCall_answerOne (hc : s.call? c = some k) (hs : k.state = .waiting) (hg : k.group = some g)
    (ho : k.orbit = none) (hx : k.ringing = [x]) (hp : s.Settled g) :
    connectCall c x .answer (answerRecord k x) s =
      offerRecord { TraceRecord.offered .answer k.priority with call := some c, group := some g, ext := some x }
        (answeredOffer g c x [x] s) := by
  rw [connectCall_answerOffer hc hs hg ho (by simp [hx]) hp, hx, arbitrateAll_one]
  exact arbitrate_answerer (line_answeredOffer_ne_idle g c x [x] s) _

/-- The answer of an offer at two extensions, of which the other is offered the group's next call (R17, R55, R56). -/
theorem connectCall_answerNext {y b : Nat} {q : CallContext} (hc : s.call? c = some k) (hs : k.state = .waiting)
    (hg : k.group = some g) (ho : k.orbit = none) (hx : k.ringing = [x, y] ∨ k.ringing = [y, x]) (hy : y ≠ x)
    (hp : s.Settled g) (hw : (s.group g).waiting = [c, b]) (hb : b ≠ c) (hq : s.call? b = some q) (hr : q.ringing = [])
    (ht : y ∉ q.tried) (hl : (s.ext y).line = .idle) (hm : (s.ext y).memberOf = [g])
    (hav : ∃ m ∈ (s.group g).members, m.ext = y ∧ m.effective = .available) (hcfg : (s.group g).configured = true)
    (hh : s.held g = false) (hd : (s.group g).discipline ≠ .circular) :
    connectCall c x .answer (answerRecord k x) s =
      offerRecord { TraceRecord.offered .offer q.priority with call := some b, group := some g, ext := some y }
        (direct (.ring y b .hunt)
          (((offerRecord { TraceRecord.offered .answer k.priority with call := some c, group := some g, ext := some x }
            (answeredOffer g c x k.ringing s)).modExt y fun r =>
              { r with ringing := some b, ringStart := s.now }).modCall b
              fun r =>
              { r with
                ringing := r.ringing ++ [y], tried := insertAscending y r.tried
                noAnswerDue := some (s.after (s.group g).noAnswerTime) })) := by
  have hothers : k.ringing.filter (· != x) = [y] := by rcases hx with hx | hx <;> simp [hx, hy]
  have hgroup := group_answeredOffer (group_lt_of_waiting (hw ▸ List.cons_ne_nil c [b])) c x k.ringing s
  have hext := ext_answeredOffer_other hy g c k.ringing s
  have hfree : ((answeredOffer g c x k.ringing s).ext y).ringing = none := by
    simp [answeredOffer, hothers, stopOthers, ext_modExt_same _ (ext_lt_of_idle hl)]
  have hheld : (answeredOffer g c x k.ringing s).held g = false := by
    simp [answeredOffer, held_of_modGroup, hh]
  have hoffer := arbitrate_offers (x := y) (g := g) (c := b) (k := q) (s := offerRecord
      { TraceRecord.offered .answer k.priority with call := some c, group := some g, ext := some x }
        (answeredOffer g c x k.ringing s)) (by simp [hext, hm]) (by simp [hgroup, hd]) (by simp [hgroup, hw, hb])
      (by simp [answeredOffer, call?_modCall, hb, hq]) hr ht (by simp [hext, hl]) (by simp [hfree])
        (by simp [hgroup, hcfg])
      (by simp [hheld]) (by
        obtain ⟨m, hmem, hmy, hma⟩ := hav
        exact ⟨m, by simpa [hgroup] using ⟨m, hmem, by simp [hmy, hy]⟩, hmy, hma⟩)
  have hx' : ((answeredOffer g c x k.ringing s).ext x).line ≠ .idle := line_answeredOffer_ne_idle g c x k.ringing s
  have hclock : (answeredOffer g c x k.ringing s).clock = s.clock := by simp [answeredOffer]
  have hafter : ∀ n, (answeredOffer g c x k.ringing s).after n = s.after n := fun n => by simp [State.after, hclock]
  have hnow : (answeredOffer g c x k.ringing s).now = s.now := by simp [State.now, hclock]
  simp only [now_of_offerRecord, after_of_offerRecord, hnow, hafter, group_of_offerRecord, hgroup] at hoffer
  rw [connectCall_answerOffer hc hs hg ho (by rcases hx with hx | hx <;> simp [hx]) hp, ← hoffer]
  generalize hA : answeredOffer g c x k.ringing s = A at *
  rcases hx with hx | hx
  · rw [hx, arbitrateAll, List.foldl_cons, List.foldl_cons, List.foldl_nil, arbitrate_answerer hx']
  · rw [hx, arbitrateAll, List.foldl_cons, List.foldl_cons, List.foldl_nil, hoffer]
    exact arbitrate_notIdle (by simpa [ext_modExt_other _ hy] using hx')

/-- The parker's answer of a recall ring frees the orbit (R16, R97). -/
theorem connectCall_answerRecall (hc : s.call? c = some k) (hs : k.state = .recallRinging) (hx : k.ringing = [x])
    (hg : k.group = none) (ho : k.orbit = some o) (hoc : (s.orbit o).call = some c)
    (ha : (s.orbit o).announcePage = none) :
    connectCall c x .answer (answerRecord k x) s =
      ((s.modExt x fun r => { r with ringing := none, line := .inCall }).modCall c fun k =>
        { k with
          ringing := k.ringing.filter (· != x), noAnswerDue := none, maxWaitDue := none
          state := .connected, connected := some x, orbit := none }).modOrbit o OrbitRecord.emptied := by
  rw [connectCall_orbit hc (by simp [hs]) ho, hx, arbitrateAll_one, clearForConnect_answerer, sendConnect_answer, hg,
    chargeIdleClock, answerRecord, hs, if_neg CallState.noConfusion, offerOptional, releasingHolds_releaseOrbit
      (by simpa using hoc) (by simpa using ha)]
  simp only [modExt_modCall, modExt_modExt, modCall_modCall, modOrbit_modCall, implies_true]
  exact arbitrate_notIdle (by simp [line_modExt_ne_idle])

/-- Settles O21: the checks, then the answer of a call in each of its shapes. -/
theorem callAnswerConnectsDirectCall : Obligations.CallAnswerConnectsDirectCall := by
  intro tag p o s hr ht
  have hconnect : ∀ {k}, 1 ≤ o.call → o.call ≤ 65534 → o.ext ≤ 1023 → s.call? o.call = some k →
      (s.ext o.ext).ringing = some o.call → exec (.callAnswer tag p) s = .next (answered ⟨0x04, tag, p⟩ .ok .nothing
        (connectCall o.call o.ext .answer (answerRecord k o.ext) s)) := fun h1 h2 hx hc hm =>
    exec_callAnswer_answers (a := .ok) hr ht (callAnswer_connects h1 h2 hx hc hm)
  refine ⟨fun hrange => ?_, fun h1 h2 hx hc => ?_, fun h1 h2 hx hc hm => ?_,
    fun k h1 h2 hx hc hm hs hring hg ho => ?_, fun k g h1 h2 hx hc hm hs hring hg ho hp => ?_,
    fun k g h1 h2 hx hc hm hs hg ho hp => ⟨fun hmem hw hothers => ?_,
      fun y b q hring hy hw hb hq hqr hqt hl hym hav hcfg hh hd => ?_⟩,
    fun k n h1 h2 hx hc hm hs hring hg ho hn ha => ?_⟩
  · exact exec_callAnswer_answers (a := .refused .outOfRange) hr ht (by
      rw [callAnswer, if_pos (by simpa [badRef_iff, or_assoc] using hrange)])
  · exact exec_callAnswer_answers (a := .refused .noSuchCall) hr ht (by
      simp [callAnswer, badRef_inRange h1 h2, hc, Nat.not_lt.mpr hx])
  · obtain ⟨k, hk⟩ := Option.ne_none_iff_exists'.1 hc
    exact exec_callAnswer_answers (a := .refused .tooLate) hr ht (by
      simp [callAnswer, badRef_inRange h1 h2, hk, hm, Nat.not_lt.mpr hx])
  · rw [hconnect h1 h2 hx hc hm, connectCall_answerDirect hc hs hring hg ho]
  · rw [hconnect h1 h2 hx hc hm, connectCall_answerOne hc hs hg ho hring hp]
    have hfilter : ∀ l : List Nat, l.filter (· ∉ [o.ext]) = l.filter (· != o.ext) := fun l => by
      simpa using (filter_ne_filter_notMem o.ext [] l).symm
    simp only [answeredOffer, hfilter]
    simp [stopOthers]
  · rw [hconnect h1 h2 hx hc hm, connectCall_answerSole hc hs hg ho hmem hp hw hothers]
    rfl
  · rw [hconnect h1 h2 hx hc hm, connectCall_answerNext hc hs hg ho hring hy hp hw hb hq hqr hqt hl hym hav hcfg hh hd]
    rfl
  · rw [hconnect h1 h2 hx hc hm, connectCall_answerRecall hc hs hring hg ho hn ha]

end Sys2Proof.Machine
end

section
/-! PROOF. The calls that are taken at another extension: RETRIEVE-ASK and PICKUP-ASK (R73 to R83, R98, R99). -/

namespace Sys2Proof.Machine

variable {s t : State} {c x y g o n : Nat} {k : CallContext} {tag : Byte} {p : List Byte} {a : Answer}

/-! ## The pickup of a mark (R80) -/

/-- A call, its context changed as in `u`, is taken from one extension and connected to another (R80). -/
def pickedUp (c x y : Nat) (record : TraceRecord) (u : State) : State :=
  offerRecord record (direct (.connect x c) (direct (.stopRing y c .pickedUp)
    ((u.modExt y fun r => { r with ringing := none }).modExt x fun r => { r with line := .inCall })))

/-- A context that is connected to the picker, its ring stopped (R16). -/
abbrev CallContext.pickedFrom (x y : Nat) (k : CallContext) : CallContext :=
  { k with
    ringing := k.ringing.filter (· != y), noAnswerDue := none, maxWaitDue := none, state := .connected
    connected := some x }

theorem sendConnect_pickup (x c : Nat) (s : State) : sendConnect .pickup x c s = direct (.connect x c) s := rfl

theorem sendConnect_retrieve (x c : Nat) (s : State) : sendConnect .retrieve x c s = direct (.connect x c) s := rfl

theorem connectCall_pickupDirect (record : TraceRecord) (hy : y ≠ x) (hc : s.call? c = some k)
    (hs : k.state = .ringingDirect) (hx : k.ringing = [y]) (hg : k.group = none) (ho : k.orbit = none)
    (hm : (s.ext y).memberOf = []) :
    connectCall c x .pickup (some record) s = pickedUp c x y record (s.modCall c (CallContext.pickedFrom x y)) := by
  rw [connectCall_unlisted hc (by simp [hs]) ho, hx, arbitrateAll_one, clearForConnect_stopped (.inr hy), hg]
  simp only [clearMark_stop, chargeIdleClock, sendConnect_pickup, offerOptional, pickedUp, modCall_direct,
    modCall_modCall, modExt_direct, modExt_modCall, implies_true, ConnectCause.stopReason]
  exact arbitrate_noGroup (by simp [memberOf_modExt, hm])

theorem connectCall_pickupRecall (record : TraceRecord) (hy : y ≠ x) (hc : s.call? c = some k)
    (hs : k.state = .recallRinging) (hx : k.ringing = [y]) (hg : k.group = none) (ho : k.orbit = some o)
    (hoc : (s.orbit o).call = some c) (ha : (s.orbit o).announcePage = none) (hm : (s.ext y).memberOf = []) :
    connectCall c x .pickup (some record) s = pickedUp c x y record
      ((s.modCall c fun r => { r.pickedFrom x y with orbit := none }).modOrbit o OrbitRecord.emptied) := by
  rw [connectCall_orbit hc (by simp [hs]) ho, hx, arbitrateAll_one, clearForConnect_stopped (.inr hy), hg,
    releasingHolds_releaseOrbit (by simpa [chargeIdleClock, sendConnect_pickup] using hoc)
      (by simpa [chargeIdleClock, sendConnect_pickup] using ha)]
  simp only [clearMark_stop, chargeIdleClock, sendConnect_pickup, offerOptional, pickedUp, modCall_direct,
    modCall_modCall, modExt_direct, modExt_modCall, modOrbit_modCall, modOrbit_modExt, modOrbit_direct, implies_true,
    ConnectCause.stopReason]
  exact arbitrate_noGroup (by simp [memberOf_modExt, hm])

theorem connectCall_pickupOffer (record : TraceRecord) (hy : y ≠ x) (hc : s.call? c = some k)
    (hs : k.state = .waiting) (hx : k.ringing = [y]) (hg : k.group = some g) (ho : k.orbit = none)
    (hw : (s.group g).waiting = [c]) (hp : s.Settled g) (hm : ∀ h ∈ (s.ext y).memberOf, h = g) :
    connectCall c x .pickup (some record) s = pickedUp c x y record
      ((s.modCall c fun r => { r.pickedFrom x y with tried := [], passCount := 0 }).modGroup g fun r =>
        { r with
          waiting := []
          members := r.members.map fun m => if m.ext = x then { m with idleTenths := 0 } else m }) := by
  have hconnected : sendConnect .pickup x c (chargeIdleClock (some g) x
    (((leaveList c (clearForConnect c x .pickup [y] s)).modCall c
      fun r => { r.connectTo x with tried := [], passCount := 0 }).modExt x fun r => { r with line := .inCall })) =
      direct (.connect x c) (direct (.stopRing y c .pickedUp)
        (((((s.modCall c fun r => { r.pickedFrom x y with tried := [], passCount := 0 }).modGroup g fun r =>
        { r with
          waiting := []
          members := r.members.map fun m => if m.ext = x then { m with idleTenths := 0 } else m }).modExt y fun r =>
          { r with ringing := none }).modExt x fun r => { r with line := .inCall }))) := by
    rw [clearForConnect_stopped (.inr hy), leaveList_sole (call?_clearMark hc) hg (by simpa using hw)]
    simp [clearMark_stop, chargeIdleClock, sendConnect_pickup, modCall_modCall, modGroup_modGroup,
      ConnectCause.stopReason, State.modMember]
  rw [connectCall_waiting hc hs hg ho, hx, hconnected, offersEnded_settled, offerOptional, arbitrateAll_one, pickedUp]
  · refine arbitrate_noWaiting (g := g) ?_ ?_
    · simpa [memberOf_modExt] using hm
    · simp [waiting_modGroup_nil]
  · simp only [State.Settled, group_of_direct, group_of_modExt]
    exact group_modGroup_induct (P := fun r => ∀ m ∈ r.members, m.pending = false)
      (fun _ hr => pending_restartIdle hr x) (by simpa using hp)

/-! ## RETRIEVE-ASK -/

theorem exec_retrieveAsk_answers {op : RetrieveAskOp} (hr : RetrieveAskOp.read p = some op)
    (ht : s.Takes ⟨0x08, tag, p⟩) (ha : retrieveAsk op s = (t, a)) :
    exec (.retrieveAsk tag p) s = .next (answered ⟨0x08, tag, p⟩ a.verdict a.body t) :=
  congrArg Host.Outcome.next (takeKind_answers ht hr ha)

/-- An idle clock starts afresh in the call's group, when it has one (R16, step 6). -/
theorem chargeIdleClock_eq (group : Option Nat) (x : Nat) (s : State) :
    chargeIdleClock group x s = match group with
      | none => s
      | some g => s.modGroup g fun r =>
        { r with members := r.members.map fun m => if m.ext = x then { m with idleTenths := 0 } else m } := by
  cases group with
  | none => rfl
  | some g => simp [chargeIdleClock, State.modMember]

theorem chargeIdleClock_modCall (group : Option Nat) (x c : Nat) (f : CallContext → CallContext) (s : State) :
    chargeIdleClock group x (s.modCall c f) = (chargeIdleClock group x s).modCall c f := by cases group <;> rfl

@[simp] theorem orbit_of_chargeIdleClock (group : Option Nat) (x : Nat) (s : State) (o : Nat) :
    (chargeIdleClock group x s).orbit o = s.orbit o := by cases group <;> rfl

@[simp] theorem ext_of_chargeIdleClock (group : Option Nat) (x : Nat) (s : State) (y : Nat) :
    (chargeIdleClock group x s).ext y = s.ext y := by cases group <;> rfl

/-- A call that leaves its orbit by a retrieve, once its ring is stopped (R99). -/
theorem connectCall_retrieve (record : TraceRecord) (hc : s.call? c = some k) (hs : k.state ≠ .waiting)
    (ht : clearForConnect c x .retrieve k.ringing s = t) (ho : k.orbit = some o) (hoc : (t.orbit o).call = some c)
    (ha : (t.orbit o).announcePage = none) :
    connectCall c x .retrieve (some record) s = arbitrateAll k.ringing (offerRecord record (direct (.connect x c)
      (((chargeIdleClock k.group x (t.modExt x fun r => { r with line := .inCall })).modCall c fun k =>
        { k with noAnswerDue := none, maxWaitDue := none, state := .connected, connected := some x
                 orbit := none }).modOrbit o OrbitRecord.emptied))) := by
  rw [connectCall_orbit hc hs ho, ht, releasingHolds_releaseOrbit (c := c)]
  · simp [sendConnect_retrieve, chargeIdleClock_modCall, modCall_modCall, offerOptional]
  · simpa [sendConnect_retrieve] using hoc
  · simpa [sendConnect_retrieve] using ha

/-- A named reference that is not the call's, or none at all, decides the last check (R74, R91, R98). -/
theorem expected_mismatch {expected : Option Nat} :
    (expected.isSome && expected ≠ some c) = true ↔ ∃ e, expected = some e ∧ e ≠ c := by
  cases expected <;> simp

theorem retrieveAsk_call {op : RetrieveAskOp} (h : op.orbit ≤ 31 ∧ op.ext ≤ 1023 ∧ op.expected ≠ some 0)
    (hl : (s.ext op.ext).line = .offhook) (hoc : (s.orbit op.orbit).call = some c) (hc : s.call? c = some k) :
    retrieveAsk op s =
      if op.expected.isSome && op.expected ≠ some c then (s, .refused .tooLate) else retrieve k op.ext op.orbit s := by
  obtain ⟨h1, h2, h3⟩ := h
  simp [retrieveAsk, Nat.not_lt.mpr h1, Nat.not_lt.mpr h2, h3, hl, hoc, hc, call?_ref hc]

/-- Settles O42: the checks, then the connection of a parked or recalled call. -/
theorem retrieveAskConnects : Obligations.RetrieveAskConnects := by
  intro tag p op s hr ht range
  refine ⟨fun hrange => ?_, fun hrange hl => ?_, fun hrange hl hoc => ?_, fun c k hrange hl hoc hc => ⟨?_, ?_⟩⟩
  · refine exec_retrieveAsk_answers (a := .refused .outOfRange) hr ht ?_
    rw [retrieveAsk, if_pos]
    by_contra hin
    exact hrange (by simpa [and_assoc] using hin)
  · obtain ⟨h1, h2, h3⟩ := hrange
    exact exec_retrieveAsk_answers (a := .refused .wrongState) hr ht (by
      simp [retrieveAsk, Nat.not_lt.mpr h1, Nat.not_lt.mpr h2, h3, hl])
  · obtain ⟨h1, h2, h3⟩ := hrange
    exact exec_retrieveAsk_answers (a := .refused .empty) hr ht (by
      simp [retrieveAsk, Nat.not_lt.mpr h1, Nat.not_lt.mpr h2, h3, hl, hoc])
  · intro e he hne
    exact exec_retrieveAsk_answers (a := .refused .tooLate) hr ht (by
      rw [retrieveAsk_call hrange hl hoc hc, if_pos (expected_mismatch.2 ⟨e, he, hne⟩)])
  · intro t he ho ha hcase clocked
    have hmatch : ¬(op.expected.isSome && op.expected ≠ some c) = true := by
      rcases he with he | he <;> simp [he]
    refine exec_retrieveAsk_answers (a := .okWith (.retrieved c op.orbit k.kind k.group)) hr ht ?_
    rw [retrieveAsk_call hrange hl hoc hc, if_neg hmatch, retrieve, call?_ref hc, retrieveRecord, call?_ref hc]
    refine congrArg (·, _) ?_
    rcases hcase with ⟨hs, hx, rfl⟩ | ⟨y, hs, hx, hy, hm, rfl⟩
    · rw [connectCall_retrieve (t := t) _ hc (by simp [hs]) (by simp [hx, clearForConnect]) ho hoc ha, hx,
        chargeIdleClock_eq]
      rfl
    · rw [connectCall_retrieve _ hc (by simp [hs]) (by rw [hx, clearForConnect_stopped (.inr hy), clearMark_stop]) ho
        (by simpa using hoc) (by simpa using ha), hx, arbitrateAll_one, arbitrate_noGroup
          (by simp [memberOf_modExt, hm]),
        chargeIdleClock_eq]
      rfl

/-! ## PICKUP-ASK, DIRECTED -/

theorem exec_pickupAsk_answers {op : PickupAskOp} (hr : PickupAskOp.read p = some op)
    (ht : s.Takes ⟨0x06, tag, p⟩) (ha : pickupAsk op s = (t, a)) :
    exec (.pickupAsk tag p) s = .next (answered ⟨0x06, tag, p⟩ a.verdict a.body t) :=
  congrArg Host.Outcome.next (takeKind_answers ht hr ha)

theorem pickUp_direct (directed : Bool) (hc : s.call? c = some k) (hy : y ≠ x) (hx : k.ringing = [y])
    (hs : k.state = .ringingDirect) (hg : k.group = none) (ho : k.orbit = none) (hm : (s.ext y).memberOf = []) :
    pickUp k x y directed s = (pickedUp c x y
      { TraceRecord.offered .pickup k.priority with
        call := some c, ext := some x, detail := if directed then 1 else 0 }
      (s.modCall c (CallContext.pickedFrom x y)), .okWith (.picked c k.kind y none none)) := by
  have hgroup : k.offerGroup = none := by simp [CallContext.offerGroup, hs]
  have horbit : k.recallOrbit = none := by simp [CallContext.recallOrbit, hs]
  rw [pickUp, pickupRecord, hgroup, horbit, call?_ref hc, connectCall_pickupDirect _ hy hc hs hx hg ho hm]
  rfl

theorem pickUp_offer (directed : Bool) (hc : s.call? c = some k) (hy : y ≠ x) (hx : k.ringing = [y])
    (hs : k.state = .waiting) (hg : k.group = some g) (ho : k.orbit = none) (hw : (s.group g).waiting = [c])
    (hp : s.Settled g) (hm : ∀ h ∈ (s.ext y).memberOf, h = g) :
    pickUp k x y directed s = (pickedUp c x y
      { TraceRecord.offered .pickup k.priority with
        call := some c, group := some g, ext := some x, detail := if directed then 1 else 0 }
      ((s.modCall c fun r => { r.pickedFrom x y with tried := [], passCount := 0 }).modGroup g fun r =>
        { r with
          waiting := []
          members := r.members.map fun m => if m.ext = x then { m with idleTenths := 0 } else m }),
      .okWith (.picked c k.kind y (some g) none)) := by
  have hgroup : k.offerGroup = some g := by simp [CallContext.offerGroup, hs, hg]
  have horbit : k.recallOrbit = none := by simp [CallContext.recallOrbit, hs]
  rw [pickUp, pickupRecord, hgroup, horbit, call?_ref hc, connectCall_pickupOffer _ hy hc hs hx hg ho hw hp hm]
  rfl

theorem pickUp_recall (directed : Bool) (hc : s.call? c = some k) (hy : y ≠ x) (hx : k.ringing = [y])
    (hs : k.state = .recallRinging) (hg : k.group = none) (ho : k.orbit = some o) (hoc : (s.orbit o).call = some c)
    (ha : (s.orbit o).announcePage = none) (hm : (s.ext y).memberOf = []) :
    pickUp k x y directed s = (pickedUp c x y
      { TraceRecord.offered .pickup k.priority with
        call := some c, ext := some x, orbit := some o, detail := if directed then 1 else 0 }
      ((s.modCall c fun r => { r.pickedFrom x y with orbit := none }).modOrbit o OrbitRecord.emptied),
      .okWith (.picked c k.kind y none (some o))) := by
  have hgroup : k.offerGroup = none := by simp [CallContext.offerGroup, hs]
  have horbit : k.recallOrbit = some o := by simp [CallContext.recallOrbit, hs, ho]
  rw [pickUp, pickupRecord, hgroup, horbit, call?_ref hc, connectCall_pickupRecall _ hy hc hs hx hg ho hoc ha hm]
  rfl

theorem ownPickup_eq_some {q : Nat} :
    s.ownPickup x = some q ↔ (s.ext x).pickupGroup = some q ∧ (s.pickup q).configured = true := by
  simp [State.ownPickup, Option.filter_eq_some_iff]

/-- The permission of a directed pickup (R79). -/
theorem permitted_iff : s.permitted x y = true ↔ ∃ q, (s.ext y).pickupGroup = some q ∧ (s.pickup q).configured = true ∧
    ((s.pickup q).directedOpen = true ∨ ∃ own, (s.ext x).pickupGroup = some own ∧ (s.pickup own).configured = true ∧
      (own = q ∨ q ∈ (s.pickup own).assist)) := by
  have hown : ∀ z q, ((s.ext z).pickupGroup = some q ∧ (s.pickup q).configured = true) ↔ s.ownPickup z = some q :=
    fun _ _ => ownPickup_eq_some.symm
  simp only [← and_assoc, hown]
  unfold State.permitted
  cases s.ownPickup y with
  | none => simp
  | some q =>
    cases s.ownPickup x with
    | none => simp
    | some own => simp

/-- The first checks of a DIRECTED pickup are passed (R74). -/
theorem pickupAsk_directed {op : PickupAskOp} (hmode : op.mode = 1) (htarget : op.target = some y)
    (hx : op.picker ≤ 1023) (hy : y ≤ 1023) (he : op.expected ≠ some 0) :
    pickupAsk op s = if (s.ext op.picker).line ≠ .offhook then (s, .refused .wrongState)
      else directedPickup op.picker y op.expected s := by
  simp [pickupAsk, hmode, htarget, he, Nat.not_lt.mpr hx, Nat.not_lt.mpr hy]

theorem callAt_eq (hm : (s.ext y).ringing = some c) : s.callAt y = s.call? c := by simp [State.callAt, hm]

theorem callAt_none (hm : (s.ext y).ringing = none) : s.callAt y = none := by simp [State.callAt, hm]

theorem directedPickup_marked {expected : Option Nat} (hm : (s.ext y).ringing = some c) (hc : s.call? c = some k) :
    directedPickup x y expected s = if expected.isSome && expected ≠ some c then (s, .refused .tooLate)
      else if !s.permitted x y then (s, .refused .notPermitted) else pickUp k x y true s := by
  simp only [directedPickup, callAt_eq hm, hc, call?_ref hc]

/-- Settles O38: the checks one after another, then the pickup of a call in each of its states. -/
theorem directedPickupConnects : Obligations.DirectedPickupConnects := by
  intro tag p op s hr ht hmode
  refine ⟨fun hrange => ?_, fun y htarget hx hy he => ?_⟩
  · refine exec_pickupAsk_answers (a := .refused .outOfRange) hr ht ?_
    rw [pickupAsk, if_pos]
    cases htarget : op.target with
    | none => simp [hmode]
    | some y => simpa [hmode, htarget] using hrange
  intro permitted
  have hdirected := pickupAsk_directed (s := s) hmode htarget hx hy he
  refine ⟨fun hl => ?_, fun hl => ⟨fun hm => ?_, fun c k hm hc => ⟨fun e hexp hne => ?_, fun hexp => ⟨fun hperm => ?_,
    fun hperm hring hne => ?_⟩⟩⟩⟩
  · exact exec_pickupAsk_answers (a := .refused .wrongState) hr ht (by rw [hdirected, if_pos hl])
  · exact exec_pickupAsk_answers (a := .refused .tooLate) hr ht (by
      rw [hdirected, if_neg (not_not.2 hl), directedPickup, callAt_none hm])
  all_goals
    have hask := hdirected
    rw [if_neg (not_not.2 hl), directedPickup_marked hm hc] at hask
  · exact exec_pickupAsk_answers (a := .refused .tooLate) hr ht (by
      rw [hask, if_pos (expected_mismatch.2 ⟨e, hexp, hne⟩)])
  all_goals
    have hmatch : ¬(op.expected.isSome && op.expected ≠ some c) = true := by rcases hexp with he | he <;> simp [he]
    rw [if_neg hmatch] at hask
  · have hforbidden : s.permitted op.picker y = false := Bool.eq_false_iff.2 fun h => hperm (permitted_iff.1 h)
    exact exec_pickupAsk_answers (a := .refused .notPermitted) hr ht (by simp [hask, hforbidden])
  · intro picked connect
    simp only [permitted_iff.2 hperm, Bool.not_true, Bool.false_eq_true, if_false] at hask
    refine ⟨fun hs hg ho hmem => ?_, fun g hs hg ho hw hp hmem => ?_, fun n hs hg ho hoc ha hmem => ?_⟩
    · exact exec_pickupAsk_answers hr ht (hask.trans (pickUp_direct true hc hne hring hs hg ho hmem))
    · exact exec_pickupAsk_answers hr ht (hask.trans (pickUp_offer true hc hne hring hs hg ho hw hp hmem))
    · exact exec_pickupAsk_answers hr ht (hask.trans (pickUp_recall true hc hne hring hs hg ho hoc ha hmem))

end Sys2Proof.Machine
end

section
/-! PROOF. PICKUP-ASK in GROUP mode: the choice of a mark within a searched group and over the groups (R73 to R77). -/

namespace Sys2Proof.Machine

variable {s t : State} {c x y g o n q picker : Nat} {k l : CallContext} {tag : Byte} {p : List Byte} {a : Answer}

/-! ## The first best of a list -/

/-- What `firstBest` finds comes before every other element in a strict order that the comparison gives, with ties
decided by the order of the list. -/
theorem firstBest_least {α : Type} {better : α → α → Bool} {R Q : α → α → Prop}
    (htrans : ∀ a b c, R a b → R b c → R a c)
    (hbetter : ∀ a b, better b a = true → R b a) (htie : ∀ a b, Q a b → better b a = false → R a b) {w : α} :
    ∀ {l : List α}, l.Pairwise Q → firstBest better l = some w → ∀ a ∈ l, a = w ∨ R w a
  | [], _, h => by simp [firstBest] at h
  | [a], _, h => by simp_all [firstBest]
  | a :: b :: rest, hq, h => by
    obtain ⟨⟨hab, harest⟩, hbrest, hrest⟩ : (Q a b ∧ ∀ e ∈ rest, Q a e) ∧ (∀ e ∈ rest, Q b e) ∧ rest.Pairwise Q := by
      simpa using hq
    have hmin := firstBest_least htrans hbetter htie (w := w) (l := (if better b a then b else a) :: rest)
      (List.pairwise_cons.2 ⟨by split <;> assumption, hrest⟩) (by simpa [firstBest] using h)
    have hbehind : ∀ u v, (u = w ∨ R w u) → R u v → R w v := by
      rintro u v (rfl | hu) huv
      · exact huv
      · exact htrans _ _ _ hu huv
    by_cases hb : better b a = true
    · simp only [hb, if_true, List.mem_cons, forall_eq_or_imp] at hmin ⊢
      exact ⟨.inr (hbehind b a hmin.1 (hbetter a b hb)), hmin⟩
    · simp only [hb, Bool.false_eq_true, if_false, List.mem_cons, forall_eq_or_imp] at hmin ⊢
      exact ⟨hmin.1, .inr (hbehind a b hmin.1 (htie a b hab (by simpa using hb))), hmin.2⟩

/-! ## Candidates (R73) -/

/-- A mark that a group pickup may take (R73). -/
def State.Candidate (s : State) (q picker y : Nat) (l : CallContext) : Prop :=
  y ≠ picker ∧ (s.ext y).pickupGroup = some q ∧ (∃ c, (s.ext y).ringing = some c ∧ s.call? c = some l) ∧
    (l.state = .ringingDirect ∨ l.state = .recallRinging ∨
      (l.state = .waiting ∧ ∃ g, l.group = some g ∧ (s.group g).pickable = true))

theorem pickable_iff : s.pickable l = true ↔ l.state = .ringingDirect ∨ l.state = .recallRinging ∨
    (l.state = .waiting ∧ ∃ g, l.group = some g ∧ (s.group g).pickable = true) := by
  cases hs : l.state <;> cases hg : l.group <;> simp [State.pickable, hs, hg]

theorem candidateAt_eq_some {m : Nat × CallContext} :
    s.candidateAt q picker x = some m ↔ m.1 = x ∧ s.Candidate q picker x m.2 := by
  obtain ⟨y, l⟩ := m
  have hcall : (∃ c, (s.ext x).ringing = some c ∧ s.call? c = some l) ↔ s.callAt x = some l := by
    simp [State.callAt, Option.bind_eq_some_iff]
  rw [State.Candidate, hcall, ← pickable_iff, State.candidateAt]
  by_cases hx : (s.ext x).pickupGroup = some q ∧ x ≠ picker
  · cases s.callAt x with
    | none => simp [hx]
    | some k =>
      by_cases hk : s.pickable k = true
      · simp only [hx, ne_eq, not_false_eq_true, decide_true, Bool.and_self, if_true, hk, Option.some.injEq,
          Prod.mk.injEq, true_and]
        constructor
        · rintro ⟨rfl, rfl⟩
          exact ⟨rfl, rfl, hk⟩
        · rintro ⟨rfl, rfl, -⟩
          exact ⟨rfl, rfl⟩
      · simp only [hx, ne_eq, not_false_eq_true, decide_true, Bool.and_self, if_true, hk, Bool.false_eq_true, if_false,
          reduceCtorEq, Option.some.injEq, true_and, false_iff]
        rintro ⟨-, rfl, hl⟩
        exact hk hl
  · have hoff : (decide ((s.ext x).pickupGroup = some q) && decide (x ≠ picker)) = false := by simpa using hx
    simp only [hoff, Bool.false_eq_true, if_false, reduceCtorEq, false_iff]
    rintro ⟨-, hne, hgroup, -⟩
    exact hx ⟨hgroup, hne⟩

/-- The marks that a searched group has to choose from, by extension (R73). -/
theorem mem_candidates {m : Nat × CallContext} :
    m ∈ (List.range 1024).filterMap (s.candidateAt q picker) ↔ s.Candidate q picker m.1 m.2 := by
  simp only [List.mem_filterMap, List.mem_range, candidateAt_eq_some]
  constructor
  · rintro ⟨x, -, rfl, h⟩
    exact h
  · rintro ⟨hne, hgroup, h⟩
    exact ⟨m.1, ext_lt (s := s) fun h' => by simp [h', ExtRecord.atReset] at hgroup, rfl, hne, hgroup, h⟩

/-! ## The choice within a group (R76) -/

/-- A mark comes before another: the higher priority, then the longer ring, then the lower extension (R76). -/
def State.MarkBefore (s : State) (a b : Nat × CallContext) : Prop :=
  b.2.priority < a.2.priority ∨ (a.2.priority = b.2.priority ∧ ((s.ext a.1).ringStart < (s.ext b.1).ringStart ∨
    ((s.ext a.1).ringStart = (s.ext b.1).ringStart ∧ a.1 < b.1)))

/-- The choice among the candidates of a group (R76). -/
def State.Chosen (s : State) (q picker x : Nat) (k : CallContext) : Prop :=
  s.Candidate q picker x k ∧ ∀ y l, s.Candidate q picker y l → l.priority ≤ k.priority ∧ (l.priority = k.priority →
    (s.ext x).ringStart ≤ (s.ext y).ringStart ∧ ((s.ext x).ringStart = (s.ext y).ringStart → x ≤ y))

theorem chooseMark_eq_none : s.chooseMark q picker = none ↔ ∀ y l, ¬s.Candidate q picker y l := by
  rw [State.chooseMark, firstBest_eq_none, List.eq_nil_iff_forall_not_mem]
  simp [-List.mem_filterMap, mem_candidates]

theorem candidates_ascending :
    ((List.range 1024).filterMap (s.candidateAt q picker)).Pairwise fun a b => a.1 < b.1 := by
  refine List.Pairwise.filterMap _ (R := (· < ·)) (fun x y hxy a ha b hb => ?_) (List.pairwise_lt_range)
  obtain ⟨rfl, -⟩ := candidateAt_eq_some.1 ha
  obtain ⟨rfl, -⟩ := candidateAt_eq_some.1 hb
  exact hxy

/-- The mark that the search chooses comes before every other candidate. -/
theorem chooseMark_before {w m : Nat × CallContext} (h : s.chooseMark q picker = some w)
    (hm : s.Candidate q picker m.1 m.2) : m = w ∨ s.MarkBefore w m := by
  refine firstBest_least (R := s.MarkBefore) ?_ ?_ ?_ candidates_ascending h m (mem_candidates.2 hm)
  · simp only [State.MarkBefore]
    intros
    omega
  · intro a b hab
    simp only [State.betterMark, Bool.or_eq_true, Bool.and_eq_true, decide_eq_true_eq] at hab
    simp only [State.MarkBefore]
    omega
  · intro a b hlt hab
    simp only [State.betterMark, Bool.or_eq_false_iff, Bool.and_eq_false_iff, decide_eq_false_iff_not] at hab
    simp only [State.MarkBefore]
    omega

theorem chooseMark_candidate {w : Nat × CallContext} (h : s.chooseMark q picker = some w) :
    s.Candidate q picker w.1 w.2 := mem_candidates.1 (firstBest_mem h)

theorem chooseMark_eq_some : s.chooseMark q picker = some (x, k) ↔ s.Chosen q picker x k := by
  constructor
  · intro h
    refine ⟨chooseMark_candidate h, fun y l hl => ?_⟩
    rcases chooseMark_before (m := (y, l)) h hl with heq | hbefore
    · obtain ⟨rfl, rfl⟩ := Prod.mk.inj heq
      simp
    · simp only [State.MarkBefore] at hbefore
      omega
  · rintro ⟨hk, hbest⟩
    obtain ⟨w, hw⟩ : ∃ w, s.chooseMark q picker = some w := by
      rw [← Option.ne_none_iff_exists', Ne, chooseMark_eq_none]
      exact fun h => h x k hk
    rcases chooseMark_before (m := (x, k)) hw hk with heq | hbefore
    · rw [hw, heq]
    · have := hbest _ _ (chooseMark_candidate hw)
      simp only [State.MarkBefore] at hbefore
      omega

/-! ## The search over the groups (R75, R77) -/

theorem searchMark_eq_none (h : ∀ e ∈ s.searched q, ∀ y l, ¬s.Candidate e picker y l) :
    s.searchMark q picker = none := by
  rw [State.searchMark, List.findSome?_eq_none_iff]
  exact fun e he => chooseMark_eq_none.2 (h e he)

theorem searchMark_eq_some {own : Nat} {before after : List Nat} (h : s.searched own = before ++ q :: after)
    (hbefore : ∀ e ∈ before, ∀ y l, ¬s.Candidate e picker y l) (hk : s.Chosen q picker x k) :
    s.searchMark own picker = some (x, k) := by
  have hskip : before.findSome? (fun q => s.chooseMark q picker) = none :=
    List.findSome?_eq_none_iff.2 fun e he => chooseMark_eq_none.2 (hbefore e he)
  rw [State.searchMark, h, List.findSome?_append, hskip, Option.none_or, List.findSome?_cons, chooseMark_eq_some.2 hk]

/-- The first checks of a GROUP pickup are passed (R74). -/
theorem pickupAsk_group {op : PickupAskOp} (hmode : op.mode = 0) (hx : op.picker ≤ 1023)
    (hl : (s.ext op.picker).line = .offhook) : pickupAsk op s = groupPickup op.picker s := by
  simp [pickupAsk, hmode, hl, Nat.not_lt.mpr hx]

theorem groupPickup_nothing {own : Nat} (hg : (s.ext x).pickupGroup = some own)
    (hcfg : (s.pickup own).configured = true)
    (hm : s.searchMark own x = none) : groupPickup x s = (s, .refused .nothingToPick) := by
  simp only [groupPickup, ownPickup_eq_some.2 ⟨hg, hcfg⟩, hm]

theorem groupPickup_found {own : Nat} (hg : (s.ext x).pickupGroup = some own) (hcfg : (s.pickup own).configured = true)
    (hm : s.searchMark own x = some (y, k)) : groupPickup x s = pickUp k x y false s := by
  simp only [groupPickup, ownPickup_eq_some.2 ⟨hg, hcfg⟩, hm]

/-- Settles O39: the choice is the first of the candidates in the order of R76, and a group pickup connects it. -/
theorem groupPickupChoosesMark : Obligations.GroupPickupChoosesMark := by
  intro s candidate chosen
  refine ⟨fun q picker => ⟨chooseMark_eq_none, fun x k => chooseMark_eq_some⟩, fun tag p op hr ht =>
    ⟨fun hrange => ?_, fun hmode hx hl => ?_, fun hmode hx hl => ⟨fun hown => ?_, fun own hg hcfg => ?_⟩⟩⟩
  · refine exec_pickupAsk_answers (a := .refused .outOfRange) hr ht ?_
    rw [pickupAsk, if_pos]
    rcases hrange with h | h <;> simp [h]
  · exact exec_pickupAsk_answers (a := .refused .wrongState) hr ht (by
      simp [pickupAsk, hmode, hl, Nat.not_lt.mpr hx])
  · have hnone : s.ownPickup op.picker = none := by
      rw [Option.eq_none_iff_forall_ne_some]
      intro q hq
      obtain ⟨hg, hcfg⟩ := ownPickup_eq_some.1 hq
      simp [hown q hg] at hcfg
    exact exec_pickupAsk_answers (a := .refused .notConfigured) hr ht (by
      rw [pickupAsk_group hmode hx hl, groupPickup, hnone])
  · intro searched
    refine ⟨fun hempty => ?_, fun before q after x k hsearched hbefore hk hring => ?_⟩
    · exact exec_pickupAsk_answers (a := .refused .nothingToPick) hr ht (by
        rw [pickupAsk_group hmode hx hl, groupPickup_nothing hg hcfg (searchMark_eq_none hempty)])
    · intro picked connect
      have hask := (pickupAsk_group hmode hx hl).trans
        (groupPickup_found hg hcfg (searchMark_eq_some hsearched hbefore hk))
      obtain ⟨⟨hne, -, ⟨c, -, hc⟩, -⟩, -⟩ := hk
      obtain rfl := call?_ref hc
      refine ⟨fun hs hg ho hmem => ?_, fun g hs hg ho hw hp hmem => ?_, fun n hs hg ho hoc ha hmem => ?_⟩
      · exact exec_pickupAsk_answers hr ht (hask.trans (pickUp_direct false hc hne hring hs hg ho hmem))
      · exact exec_pickupAsk_answers hr ht (hask.trans (pickUp_offer false hc hne hring hs hg ho hw hp hmem))
      · exact exec_pickupAsk_answers hr ht (hask.trans (pickUp_recall false hc hne hring hs hg ho hoc ha hmem))

end Sys2Proof.Machine
end

section
/-! PROOF. LINE-REPORT: the ring that it withdraws and the arbitration over an extension that becomes IDLE
(R7 to R9). -/

namespace Sys2Proof.Machine

variable {s t : State} {c x y g o n : Nat} {k : CallContext} {tag : Byte} {p : List Byte} {a : Answer} {st : LineState}

/-! ## The advance of a call that nobody can be rung for (R52 to R54) -/

theorem eligible_nil (h : ∀ m ∈ (s.group g).members, (s.ext m.ext).line ≠ .idle ∨ m.ext ∈ k.tried) :
    s.eligible g k = [] := by
  have hreach : ((s.group g).members.zipIdx).filter (fun m => s.reachable g k m.1) = [] := by
    rw [List.filter_eq_nil_iff]
    intro m hm
    rcases h m.1 (List.fst_mem_of_mem_zipIdx hm) with hl | ht
    · simp [State.reachable, hl]
    · simp [State.reachable, ht]
  simp [State.eligible, hreach]

/-- A call that no member can be rung for, but that has not tried every one, is QUEUED (R52, third case). -/
theorem advance_queues (hc : s.call? c = some k)
    (h : ∀ m ∈ (s.group g).members, (s.ext m.ext).line ≠ .idle ∨ m.ext ∈ k.tried)
    (hu : ∃ m ∈ (s.group g).members, (m.effective = .available ∨ m.effective = .standby) ∧ m.ext ∉ k.tried) :
    advance g c s = offerRecord { TraceRecord.offered .wait k.priority with call := some c, group := some g }
      (direct (.waitHold c) s) := by
  obtain ⟨m, hm, hoffered, huntried⟩ := hu
  have hpass : s.passOver g k = false := by
    simp only [State.passOver, Bool.not_eq_false', List.any_eq_true]
    exact ⟨m, hm, by rcases hoffered with h | h <;> simp [h, Presence.offered, huntried]⟩
  simp [advance, advanceWith, hc, eligible_nil h, hpass, becomeQueued]

/-! ## The ring that a LINE-REPORT withdraws (R8) -/

theorem withdrawRing_direct (hc : s.call? c = some k) (hs : k.state = .ringingDirect) :
    withdrawRing x c s = clearMark x c (some .withdrawn) s := by simp only [withdrawRing, hc, hs]

/-- A hunt offer that still rings another extension goes on. -/
theorem withdrawRing_others (hc : s.call? c = some k) (hs : k.state = .waiting) (hg : k.group = some g)
    (hp : s.Settled g) (ho : ∃ y ∈ k.ringing, y ≠ x) : withdrawRing x c s = clearMark x c (some .withdrawn) s := by
  obtain ⟨y, hy, hyx⟩ := ho
  have hring : k.ringing.filter (· != x) ≠ [] := List.ne_nil_of_mem (List.mem_filter.2 ⟨hy, by simpa using hyx⟩)
  simp only [withdrawRing, hc, hs, hg, Option.getD_some]
  rw [offerEnded_settled (by simpa [State.Settled] using hp), call?_clearMark hc]
  simp [hring]

/-- A hunt offer that rings no other extension: the end of the offer is reported, and the call advances (R52). -/
theorem withdrawRing_advances (hc : s.call? c = some k) (hs : k.state = .waiting) (hg : k.group = some g)
    (he : offerEnded g x (clearMark x c (some .withdrawn) s) = t)
    (ht : t.call? c = some { k with ringing := [] }) :
    withdrawRing x c s = advance g c (t.modCall c fun k => { k with noAnswerDue := none }) := by
  simp only [withdrawRing, hc, hs, hg, Option.getD_some, he, ht]
  rfl

/-- A hunt offer that rings no other extension, with no member that can be rung but one untried: it is QUEUED. -/
theorem withdrawRing_sole (hc : s.call? c = some k) (hs : k.state = .waiting) (hg : k.group = some g)
    (hp : s.Settled g) (hx : k.ringing = [x])
    (hl : ∀ m ∈ (s.group g).members, (s.ext m.ext).line ≠ .idle ∨ m.ext ∈ k.tried)
    (hu : ∃ m ∈ (s.group g).members, (m.effective = .available ∨ m.effective = .standby) ∧ m.ext ∉ k.tried) :
    withdrawRing x c s = offerRecord { TraceRecord.offered .wait k.priority with call := some c, group := some g }
      (direct (.waitHold c) ((clearMark x c (some .withdrawn) s).modCall c fun k =>
        { k with noAnswerDue := none })) := by
  have hcleared : (clearMark x c (some .withdrawn) s).call? c = some { k with ringing := [] } := by
    simp [call?_clearMark hc, hx]
  rw [withdrawRing_advances hc hs hg (offerEnded_settled (by simpa [State.Settled] using hp)) hcleared,
    advance_queues (k := { k with ringing := [], noAnswerDue := none })]
  · simp [call?_modCall, hcleared]
  · simpa [clearMark_stop, line_modExt] using hl
  · simpa using hu

theorem recallToGroup_diverts (hc : s.call? c = some k) (hrg : (s.orbit o).recallGroup = none) :
    recallToGroup o c s = (offerRecord
      { TraceRecord.offered .divert k.priority with call := some c, orbit := some o, detail := k.depth }
        (direct (.divert c s.fallback) s)).freeCall c := by
  simp only [recallToGroup, hc, hrg]
  rfl

/-- A recall ring: the call leaves the orbit, which has no recall group, and is diverted (R95, R97). -/
theorem withdrawRing_recalled (hc : s.call? c = some k) (hs : k.state = .recallRinging) (ho : k.orbit = some o)
    (hoc : (s.orbit o).call = some c) (hrg : (s.orbit o).recallGroup = none) (ha : (s.orbit o).announcePage = none) :
    withdrawRing x c s =
      offerRecord { TraceRecord.offered .divert k.priority with call := some c, orbit := some o, detail := k.depth }
        (direct (.divert c s.fallback) (direct (.stopRing x c .withdrawn)
          (((s.modOrbit o OrbitRecord.emptied).modExt x fun r => { r with ringing := none }).freeCall c))) := by
  have hcall : ((clearMark x c (some .withdrawn) s).orbit o).call = some c := by simpa using hoc
  simp only [withdrawRing, hc, hs, ho, Option.getD_some, sendToRecallGroup, hcall]
  rw [releaseOrbit_unannounced hcall (by simpa using ha), recallToGroup_diverts
    (k := { k with ringing := k.ringing.filter (· != x), orbit := none })]
  · simp [clearMark_stop]
  · simp [call?_modCall, call?_clearMark hc]
  · simp [orbit_modOrbit, orbit_lt_of_call hoc, hrg]

/-! ## A taken LINE-REPORT -/

/-- A line takes a state (R7). -/
abbrev State.setLine (s : State) (x : Nat) (st : LineState) : State := s.modExt x fun r => { r with line := st }

/-- An extension that is the source of no page ends none. -/
theorem endPagesOf_none (h : ∀ q ∈ s.pages, q.source ≠ .ext x) : endPagesOf x s = s := by
  have hnone : s.pages.filter (fun p => p.source = .ext x && p.state ≠ .closing) = [] := by
    rw [List.filter_eq_nil_iff]
    intro q hq
    simp [h q hq]
  simp only [endPagesOf, State.pagesInOrder, hnone]
  rfl

@[simp] theorem pages_of_offerRecord (r : TraceRecord) (s : State) : (offerRecord r s).pages = s.pages := by
  rw [offerRecord_eq]

/-- A report of a line that is no longer IDLE withdraws the ring and ends no page. -/
theorem applyLine_withdraws (hst : st ≠ .idle) (hp : st = .offhook ∨ ∀ q ∈ s.pages, q.source ≠ .ext x)
    (hm : (s.ext x).ringing = some c) (hw : withdrawRing x c (s.setLine x st) = t)
    (hpages : t.pages = s.pages) (hheld : ∀ g, t.held g = s.held g) : applyLine x st s = t := by
  have hends : (if st = .offhook then t else endPagesOf x t) = t := by
    split
    · rfl
    · rename_i hoff
      exact endPagesOf_none (hpages ▸ hp.resolve_left hoff)
  simp only [applyLine, hm, hst, if_false, decide_false, Bool.false_and, Bool.false_eq_true]
  rw [releasingHolds_keeps]
  · simp only [hw, hends]
  · simp [hw, hends, hheld]

/-- A report of OFFHOOK, INCALL or OUT for an extension without a mark. -/
theorem applyLine_unmarked (hst : st ≠ .idle) (hp : st = .offhook ∨ ∀ q ∈ s.pages, q.source ≠ .ext x)
    (hm : (s.ext x).ringing = none) : applyLine x st s = s.setLine x st := by
  have hends : (if st = .offhook then s.setLine x st
      else endPagesOf x (s.setLine x st)) = s.setLine x st := by
    split
    · rfl
    · rename_i hoff
      exact endPagesOf_none (hp.resolve_left hoff)
  simp only [applyLine, hm, hst, decide_false, Bool.false_and, Bool.false_eq_true, if_false]
  rw [releasingHolds_keeps]
  · exact hends
  · simp [hends]

/-- A report of IDLE for the source of no page: the arbitration runs over an extension without a mark (R9). -/
theorem applyLine_idle (hp : ∀ q ∈ s.pages, q.source ≠ .ext x) :
    applyLine x .idle s = if (s.ext x).ringing.isNone then arbitrate x (s.setLine x .idle)
      else s.setLine x .idle := by
  have hends := endPagesOf_none (x := x) (s := s.setLine x .idle) hp
  cases hm : (s.ext x).ringing with
  | none =>
    simp only [applyLine, hm]
    rw [releasingHolds_keeps (by simp [hends])]
    simp [hends]
  | some c =>
    simp only [applyLine, hm]
    rw [releasingHolds_keeps (by simp [hends])]
    simp [hends]

theorem exec_lineReport_answers {op : LineReportOp} (hr : LineReportOp.read p = some op) (ht : s.Takes ⟨0x01, tag, p⟩)
    (ha : lineReport op s = (t, a)) :
    exec (.lineReport tag p) s = .next (answered ⟨0x01, tag, p⟩ a.verdict a.body t) :=
  congrArg Host.Outcome.next (takeKind_answers ht hr ha)

/-- A LINE-REPORT within its ranges is taken (R7). -/
theorem lineReport_applies {op : LineReportOp} (hx : op.ext ≤ 1023) (hst : readLine op.state = some st) :
    lineReport op s = (applyLine op.ext st s, .ok) := by
  simp [lineReport, hst, Nat.not_lt.mpr hx]

theorem readLine_none : ∀ {n : Nat}, 3 < n → readLine n = none
  | _ + 4, _ => rfl

/-- The states that lift a line, as they are coded (R7). -/
theorem readLine_lifted (h : (n, st) ∈ [(1, LineState.offhook), (2, .inCall), (3, .out)]) :
    readLine n = some st ∧ st ≠ .idle ∧ (n = 1 → st = .offhook) := by
  simp only [List.mem_cons, Prod.mk.injEq, List.not_mem_nil, or_false] at h
  rcases h with ⟨rfl, rfl⟩ | ⟨rfl, rfl⟩ | ⟨rfl, rfl⟩ <;> decide

end Sys2Proof.Machine
end

section
/-! PROOF. The page whose source goes away: a waiting page is removed, one LIVE in a single zone closes (R10, R128,
R129). -/

namespace Sys2Proof.Machine

variable {s t : State} {x z : Nat} {r : PageRecord} {st : LineState}

/-! ## One page -/

theorem page?_sole (h : s.pages = [r]) : s.page? r.id = some r := by simp [State.page?, h]

/-- The one page whose source is an extension ends, and a scheduling pass runs (R10). -/
theorem endPagesOf_sole (h : s.pages = [r]) (hsource : r.source = .ext x) (hs : r.state ≠ .closing) :
    endPagesOf x s = schedule (endWithoutPass r.id .sourceGone s) := by
  have hpages : s.pagesInOrder (fun p => p.source = .ext x && p.state ≠ .closing) = [r] := by
    simp [State.pagesInOrder, h, hsource, hs, sortBy, insertBefore]
  simp only [endPagesOf, hpages, List.foldl_cons, List.foldl_nil, endPage, page?_sole h, hs, if_false]

/-- A report for the source of a page, which holds no mark and no other call waits for: while no zone is covered, it
sets the line and ends the page. -/
theorem applyLine_ends (hst : st ≠ .offhook) (hm : (s.ext x).ringing = none) (hz : s.covered = 0)
    (hmem : st ≠ .idle ∨ (s.ext x).memberOf = []) (ht : endPagesOf x (s.setLine x st) = t)
    (hexts : t.exts = (s.setLine x st).exts) : applyLine x st s = t := by
  have harb : st = .idle → arbitrate x t = t := fun hidle => arbitrate_noGroup (by
    have hext : (t.ext x).memberOf = ((s.setLine x st).ext x).memberOf := by rw [State.ext, hexts]; rfl
    rw [hext]
    simpa [memberOf_modExt] using hmem.resolve_left (not_not.2 hidle))
  simp only [applyLine, hm, hst, if_false]
  rw [releasingHolds_uncovered (by exact hz), ht]
  split
  · rename_i hidle
    exact harb (by simpa using hidle)
  · rfl

@[simp] theorem page_of_offerRecord (r : TraceRecord) (s : State) (p : Nat) :
    (offerRecord r s).page? p = s.page? p := by
  rw [offerRecord_eq]; rfl

@[simp] theorem zone_of_offerRecord (r : TraceRecord) (s : State) (z : Nat) : (offerRecord r s).zone z = s.zone z := by
  rw [offerRecord_eq]; rfl

@[simp] theorem covered_of_offerRecord (r : TraceRecord) (s : State) : (offerRecord r s).covered = s.covered := by
  rw [offerRecord_eq]

@[simp] theorem dropPage_offerRecord (r : TraceRecord) (p : Nat) (s : State) :
    (offerRecord r s).dropPage p = offerRecord r (s.dropPage p) :=
  apply_offerRecord (F := fun s => s.dropPage p) (fun _ => rfl) rfl rfl

/-- The only page, one of the host that waits, is removed (R129). -/
theorem removePage_sole (h : s.pages = [r]) (ha : r.alarm = none) (hr : r.requester = .host) :
    removePage r.id .sourceGone s = offerRecord (r.traceRecord .pageEnd 3)
      (direct (.pageState r.id .freed (some .sourceGone)) { s with pages := [] }) := by
  have hdrop : (direct (.pageState r.id .freed (some .sourceGone)) s).dropPage r.id =
      direct (.pageState r.id .freed (some .sourceGone)) { s with pages := [] } := by
    simp [State.dropPage, h, direct, emit]
  simp only [removePage, page?_sole h, pageState, pageEnds, page_of_direct, reportEnd, hr, reportFreed, ha,
    dropPage_offerRecord, hdrop]
  rfl

/-- A waiting page of the host is removed, and with no other page and quiet zones nothing else happens (R129). -/
theorem endPagesOf_waiting (h : s.pages = [r]) (hsource : r.source = .ext x)
    (hs : r.state = .queued ∨ r.state = .suspended)
    (ha : r.alarm = none) (hr : r.requester = .host) (hq : s.ZonesQuiet) :
    endPagesOf x s = offerRecord (r.traceRecord .pageEnd 3)
      (direct (.pageState r.id .freed (some .sourceGone)) { s with pages := [] }) := by
  have hremoved : endWithoutPass r.id .sourceGone s = removePage r.id .sourceGone s := by
    rcases hs with hs | hs <;> simp only [endWithoutPass, page?_sole h, hs]
  rw [endPagesOf_sole h hsource (by rcases hs with hs | hs <;> simp [hs]), hremoved]
  rw [removePage_sole h ha hr]
  refine schedule_quiet (by simp) ⟨fun z => ?_, ?_⟩
  · simp only [zone_of_offerRecord, zone_of_direct]
    exact hq.idle z
  · simpa using hq.uncovered

/-! ## A page LIVE in one zone -/

/-- A zone takes a new state and commanded state, and only the amplifiers and an exchange in flight notice (R138). -/
theorem putZone_frame (hz : z < 64) (pz : PageZone) (c : Commanded) (s : State) : ∃ amps exchange,
    putZone z pz c s = { s.modZone z (fun _ => pz) with amps := amps, exchange := exchange } ∧
      (({ s with amps := amps } : State).amp z).commanded = c := by
  simp only [putZone, handOver]
  split
  · rename_i h
    exact ⟨s.amps, s.exchange, rfl, h.symm⟩
  · refine ⟨_, _, rfl, ?_⟩
    exact congrArg AmpState.commanded ((amp_modAmp (s.modZone z fun _ => pz) z z _).trans (if_pos ⟨rfl, hz⟩))

theorem zonesWith_sole {q : ZoneState → Bool} (hz : z < 64) (h : ∀ y, q (s.zone y).state = true ↔ y = z) :
    s.zonesWith q = [z] := by
  have hq : (fun y => q (s.zone y).state) = (· == z) := funext fun y => by
    rw [Bool.eq_iff_iff, h, beq_iff_eq]
  rw [State.zonesWith, hq, List.filter_beq, List.count_eq_one_of_mem List.nodup_range (List.mem_range.2 hz)]
  rfl

theorem zonesWith_none {q : ZoneState → Bool} (h : ∀ y, q (s.zone y).state = false) : s.zonesWith q = [] := by
  simp [State.zonesWith, h]

theorem dropReservations_none {p : Nat} (h : ∀ y, (s.zone y).state.reservation ≠ some p) :
    dropReservations p s = s := by
  rw [dropReservations, zonesWith_none fun y => by simp [h]]
  rfl

theorem giveUpChannel_sole {ch : Nat} (h : s.pages = [r]) (haudio : r.audioSent = true) (hch : r.channel = some ch) :
    giveUpChannel r.id s = direct (.pageAudio r.id ch r.source false)
      { s with pages := [{ r with channel := none, audioSent := false }] } := by
  simp [giveUpChannel, page?_sole h, haudio, hch, State.modPage, direct, emit, h]

theorem pageEnds_sole (h : s.pages = [r]) (hr : r.requester = .host) (reason : EndReason) :
    pageEnds r.id reason s = offerRecord (r.traceRecord .pageEnd reason.traceCode) s := by
  simp only [pageEnds, page?_sole h, reportEnd, hr]

/-- A page that owns a zone stays in its record. -/
theorem freeIfDone_owner {p : Nat} (hz : z < 64) (ho : (s.zone z).state.owner = some p) : freeIfDone p s = s := by
  have howns : s.ownsZone p = true := by
    have hmem : z ∈ s.zonesWith fun st => st.owner = some p :=
      List.mem_filter.2 ⟨List.mem_range.2 hz, by simpa using ho⟩
    simpa [State.ownsZone] using List.ne_nil_of_mem hmem
  simp only [freeIfDone, howns, Bool.not_true, Bool.and_false, Bool.false_eq_true, if_false]
  split <;> rfl

theorem skipHang_none (zs : List Nat) (h : s.paging.hangTime ≠ 0) : skipHang zs s = s := by simp [skipHang, h]

/-- The zone, the pages, the frames and the commanded state that the end of the only page leaves, LIVE in one zone and
of the host (R128). -/
theorem closePage_sole {ch : Nat} (h : s.pages = [r]) (hr : r.requester = .host) (hz : z < 64)
    (hch : r.channel = some ch)
    (haudio : r.audioSent = true) (hlive : (s.zone z).state = .live r.id)
    (hidle : ∀ y, y ≠ z → (s.zone y).state = .idle) (hhang : s.paging.hangTime ≠ 0) : ∃ amps exchange trace,
    closePage r.id .sourceGone s =
      { direct (.pageState r.id .closing (some .sourceGone)) (direct (.pageAudio r.id ch r.source false)
          (s.modZone z fun _ => { state := .closing r.id none, chimeDue := none
                                  hangDue := some (s.after s.paging.hangTime) })) with
        pages := [{ r with state := .closing, channel := none, audioSent := false, durationDue := none
                           endReason := some .sourceGone }]
        amps := amps, exchange := exchange, trace := trace } ∧
      (({ s with amps := amps } : State).amp z).commanded =
        { (s.amp z).commanded with gain := 255, ramp := s.paging.hangTime, chime := false } := by
  have hsounds : s.zonesWith (ZoneState.sounds r.id) = [z] := zonesWith_sole hz fun y => by
    by_cases hy : y = z
    · simp [hy, hlive, ZoneState.sounds]
    · simp [hy, hidle y hy, ZoneState.sounds]
  obtain ⟨amps, exchange, hput, hcommanded⟩ := putZone_frame hz
    { state := .closing r.id none, chimeDue := none, hangDue := some (s.after s.paging.hangTime) }
    { (s.amp z).commanded with gain := 255, ramp := s.paging.hangTime, chime := false } s
  generalize hpz : ({ state := .closing r.id none, chimeDue := none
                      hangDue := some (s.after s.paging.hangTime) } : PageZone) = pz at hput
  let u : State := { s.modZone z (fun _ => pz) with amps := amps, exchange := exchange }
  have hzone : u.zone z = pz := (zone_modZone s z z fun _ => pz).trans (if_pos ⟨rfl, hz⟩)
  have hreservation : ∀ y, (u.zone y).state.reservation ≠ some r.id := by
    intro y
    by_cases hy : y = z
    · simp [hy, hzone, ← hpz, ZoneState.reservation]
    · have hother : u.zone y = s.zone y := (zone_modZone s z y fun _ => pz).trans (if_neg (by tauto))
      simp [hother, hidle y hy, ZoneState.reservation]
  let r' : PageRecord := { r with channel := none, audioSent := false, durationDue := none, state := .closing
                                  endReason := some .sourceGone }
  let v : State := direct (.pageState r.id .closing (some .sourceGone)) (direct (.pageAudio r.id ch r.source false)
    { u with pages := [r'] })
  refine ⟨amps, exchange, (offerRecord (r'.traceRecord .pageEnd 3) v).trace, ?_, hcommanded⟩
  calc closePage r.id .sourceGone s
      = freeIfDone r.id (skipHang [z] (pageEnds r.id .sourceGone v)) := by
        simp only [closePage, hsounds, List.foldl_cons, List.foldl_nil, zoneToClosing, hput, hpz]
        rw [dropReservations_none hreservation, giveUpChannel_sole (s := u) h haudio hch]
        simp [State.modPage, pageState, v, r', direct, emit]
    _ = offerRecord (r'.traceRecord .pageEnd 3) v := by
        rw [pageEnds_sole (s := v) (r := r') rfl hr, skipHang_none, freeIfDone_owner hz]
        · rfl
        · rw [zone_of_offerRecord, show v.zone z = pz from hzone, ← hpz]
          rfl
        · rw [offerRecord_eq]
          exact hhang
    _ = _ := (offerRecord_eq _ v).trans (by subst hpz; rfl)

/-- A pass over a page that closes changes the coverage signals alone. -/
theorem schedule_closing (h : s.pages = [r]) (hs : r.state = .closing) : schedule s = signalCoverage s := by
  rw [schedule, passWalks_stop (by simp [h, hs]), lateJoins_none (by simp [h, hs])]

/-- What the end of the only page, LIVE in one zone and of the host, leaves of the extensions, the zone, the page, the
amplifier and the frames (R10, R115, R128). -/
theorem endPagesOf_live {ch : Nat} (h : s.pages = [r]) (hsource : r.source = .ext x) (hs : r.state = .live)
    (hr : r.requester = .host) (hz : z < 64) (hch : r.channel = some ch) (haudio : r.audioSent = true)
    (hlive : (s.zone z).state = .live r.id) (hidle : ∀ y, y ≠ z → (s.zone y).state = .idle)
    (hhang : s.paging.hangTime ≠ 0) : ∃ t, endPagesOf x s = t ∧ t.exts = s.exts ∧
      t.zone z = { state := .closing r.id none, chimeDue := none, hangDue := some (s.after s.paging.hangTime) } ∧
      t.pages = [{ r with state := .closing, channel := none, audioSent := false, durationDue := none
                          endReason := some .sourceGone }] ∧
      (t.amp z).commanded = { (s.amp z).commanded with gain := 255, ramp := s.paging.hangTime, chime := false } ∧
      t.link = (direct (.pageState r.id .closing (some .sourceGone))
        (direct (.pageAudio r.id ch r.source false) s)).link := by
  obtain ⟨amps, exchange, trace, hclose, hcommanded⟩ := closePage_sole h hr hz hch haudio hlive hidle hhang
  refine ⟨_, rfl, ?_⟩
  have hends : endWithoutPass r.id .sourceGone s = closePage r.id .sourceGone s := by
    simp only [endWithoutPass, page?_sole h, hs]
  rw [endPagesOf_sole h hsource (by simp [hs]), hends, hclose, schedule_closing rfl rfl]
  exact ⟨rfl, (zone_modZone s z z _).trans (if_pos ⟨rfl, hz⟩), rfl, hcommanded, rfl⟩

theorem mayJoin_directive {q : List OutFrame} (h : q.length < 48) (hu : unsolicitedCount q < 40) (d : Directive) :
    mayJoin q (.directive d) = true := by
  simp [mayJoin, OutFrame.unsolicited, Config.outputPlaces, Config.unsolicitedPlaces, h, hu]

/-- Two directives and a reply find their places in the output queue (R190). -/
theorem output_answered {d e : Directive} {f : Frame} {v : Verdict} {b : ReplyBody} (ht : s.Takes f)
    (hu : unsolicitedCount s.link.output < 39) (hl : t.link = (direct e (direct d s)).link) :
    (answered f v b t).link.output =
      s.link.output ++ [.directive d, .directive e, .reply (replyKind f.kind) f.tag v b] := by
  have hroom : s.link.output.length < 40 := ht.room
  have hcount : unsolicitedCount (s.link.output ++ [.directive d]) = unsolicitedCount s.link.output + 1 := by
    simp [unsolicitedCount, List.filter_append, List.filter_cons, OutFrame.unsolicited]
  have hfirst := put_joins (l := s.link) (mayJoin_directive (by omega) (by omega) d)
  have hsecond := put_joins (l := { s.link with output := s.link.output ++ [.directive d] })
    (mayJoin_directive (by simp; omega) (by simp [hcount]; omega) e)
  have hlink : t.link = { s.link with output := s.link.output ++ [.directive d] ++ [.directive e] } := by
    rw [hl, direct, emit, direct, emit]
    simp only [hfirst, hsecond]
  simp only [answered, hlink]
  rw [put_joins (mayJoin_reply (by simp [Config.outputPlaces]; omega) _ _ _ _)]
  simp

end Sys2Proof.Machine
end

section
/-! PROOF. LINE-REPORT (R7 to R10). -/

namespace Sys2Proof.Machine

variable {s t : State} {c x y g o n : Nat} {k : CallContext} {tag : Byte} {p : List Byte} {a : Answer} {st : LineState}

/-- The mark of a line is withdrawn together with the report (R8). -/
theorem clearMark_line (x c : Nat) (st : LineState) (s : State) :
    clearMark x c (some .withdrawn) (s.setLine x st) = direct (.stopRing x c .withdrawn)
      ((s.modExt x fun r => { r with line := st, ringing := none }).modCall c fun k =>
        { k with ringing := k.ringing.filter (· != x) }) := by
  simp [clearMark_stop, modExt_modExt]

/-- A report that lifts a line leaves no member IDLE when the others are not. -/
theorem line_setLine_ne_idle {l : List Membership} (hst : st ≠ .idle)
    (h : ∀ m ∈ l, m.ext ≠ x → (s.ext m.ext).line ≠ .idle) : ∀ m ∈ l, ((s.setLine x st).ext m.ext).line ≠ .idle := by
  intro m hm
  by_cases hx : m.ext = x
  · exact hx ▸ line_modExt_ne_idle (fun _ => hst) s m.ext
  · rw [ext_modExt_other _ (Ne.symm hx)]
    exact h m hm hx

/-- The states that end an extension's pages, as they are coded (R7, R10). -/
theorem readLine_ending (h : (n, st) ∈ [(0, LineState.idle), (2, .inCall), (3, .out)]) :
    readLine n = some st ∧ st ≠ .offhook ∧ (n ≠ 0 → st ≠ .idle) := by
  simp only [List.mem_cons, Prod.mk.injEq, List.not_mem_nil, or_false] at h
  rcases h with ⟨rfl, rfl⟩ | ⟨rfl, rfl⟩ | ⟨rfl, rfl⟩ <;> decide

/-- Settles O19: the report in each shape of the extension, its ring, its pages and its waiting call. -/
theorem lineReportActsOnLine : Obligations.LineReportActsOnLine := by
  intro tag p op s hr ht lifts
  have htaken : ∀ {st t}, op.ext ≤ 1023 → readLine op.state = some st → applyLine op.ext st s = t →
      exec (.lineReport tag p) s = .next (answered ⟨0x01, tag, p⟩ .ok .nothing t) := fun hx hst ha =>
    exec_lineReport_answers (a := .ok) hr ht (by rw [lineReport_applies hx hst, ha])
  refine ⟨fun hrange => ?_, fun st hx hst hm hp => ?_, fun hx h0 hm hp => ?_, fun st c k hx hlift hm hc hs => ?_,
    fun st g c k hx hlift hm hc hs hg hpend => ⟨fun hothers => ?_, fun hring hlines huntried => ?_⟩,
    fun st n c k hx hlift hm hc hs ho hoc hrg ha => ?_,
    fun st r hx hst hm hmem hpages hsource halarm hreq => ⟨fun hs hq => ?_,
      fun z ch hz _ hs hch haudio hlive hidle hcov hhang hu => ?_⟩,
    fun g c k hx h0 hm hmem hcfg hh hd hav hw hc hring htried hp => ?_⟩
  · refine exec_lineReport_answers (a := .refused .outOfRange) hr ht ?_
    rw [lineReport]
    split
    · rfl
    · rename_i st hst
      rw [if_pos (hrange.resolve_right fun h => by simp [readLine_none h] at hst)]
  · obtain ⟨hread, hidle, hoff⟩ := readLine_lifted hst
    exact htaken hx hread (applyLine_unmarked hidle (hp.imp_left hoff) hm)
  · refine htaken hx (by rw [h0]; rfl) ?_
    rw [applyLine_idle hp, if_neg (by simpa using hm)]
  · obtain ⟨hread, hidle, hoff⟩ := readLine_lifted hlift.1
    refine htaken hx hread (applyLine_withdraws hidle (hlift.2.imp_left hoff) hm ?_ ?_ ?_)
    · rw [withdrawRing_direct (s := s.setLine op.ext st) hc hs, clearMark_line]
    · simp
    · simp
  · obtain ⟨hread, hidle, hoff⟩ := readLine_lifted hlift.1
    refine htaken hx hread (applyLine_withdraws hidle (hlift.2.imp_left hoff) hm ?_ ?_ ?_)
    · rw [withdrawRing_others (s := s.setLine op.ext st) hc hs hg hpend hothers, clearMark_line]
    · simp
    · simp
  · obtain ⟨hread, hidle, hoff⟩ := readLine_lifted hlift.1
    refine htaken hx hread (applyLine_withdraws hidle (hlift.2.imp_left hoff) hm ?_ ?_ ?_)
    · rw [withdrawRing_sole (s := s.setLine op.ext st) hc hs hg hpend hring (fun m hm => ?_) huntried, clearMark_line]
      · simp [modCall_modCall]
      · exact .inl (line_setLine_ne_idle hidle hlines m hm)
    · simp
    · simp
  · obtain ⟨hread, hidle, hoff⟩ := readLine_lifted hlift.1
    refine htaken hx hread (applyLine_withdraws hidle (hlift.2.imp_left hoff) hm ?_ ?_ ?_)
    · rw [withdrawRing_recalled (s := s.setLine op.ext st) hc hs ho hoc hrg ha, modOrbit_modExt, modExt_modExt]
      rfl
    · simp
    · intro h
      simp only [held_of_offerRecord, held_of_direct]
      rfl
  · obtain ⟨hread, hoff, hcalls⟩ := readLine_ending hst
    have hends := endPagesOf_waiting (s := s.setLine op.ext st) hpages hsource hs halarm hreq ⟨hq.idle, hq.uncovered⟩
    refine htaken hx hread (applyLine_ends hoff hm hq.uncovered (hmem.imp_left hcalls) hends ?_)
    rw [offerRecord_eq]
    rfl
  · obtain ⟨hread, hoff, hcalls⟩ := readLine_ending hst
    obtain ⟨t, hends, hexts, hzone, htpages, hamp, hlink⟩ :=
      endPagesOf_live (s := s.setLine op.ext st) (z := z) hpages hsource hs hreq (Nat.lt_succ_of_le hz) hch haudio hlive
        hidle hhang
    refine ⟨_, htaken hx hread (applyLine_ends hoff hm hcov (hmem.imp_left hcalls) hends hexts), hexts, hzone, htpages,
      hamp, ?_⟩
    exact output_answered ht hu hlink
  · refine htaken hx (by rw [h0]; rfl) ?_
    have hext := ext_modExt_same (s := s) (fun r => { r with line := .idle }) (Nat.lt_succ_of_le hx)
    rw [applyLine_idle hp, if_pos (by simp [hm]), arbitrate_offers (s := s.setLine op.ext .idle) (g := g) (c := c)
      (k := k)
      (by simp [hext, hmem]) hd hw hc hring htried (by simp [hext]) (by simp [hext, hm]) hcfg hh hav, modExt_modExt]
    rfl

end Sys2Proof.Machine
end

section
/-! PROOF. ROSTER-COMMIT and the ends of offers with a pending value (R30 to R32, R36). -/

namespace Sys2Proof.Machine

variable {s t : State} {c x y g o n : Nat} {k : CallContext} {m : Membership} {v e : Presence} {tag : Byte}
    {p : List Byte}
  {a : Answer}

/-! ## A staged value that applies (R31) -/

/-- A membership whose staged value `v` applies, with the effective presence that follows (R27, R28, R31). -/
abbrev Membership.takeStaged (e v : Presence) (b : Membership) : Membership :=
  { b with programmed := v, effective := e, staged := none, pending := false
           idleTenths := if e = .standby ∨ e = .signedOff then 0 else b.idleTenths }

/-- The change of a safety group under the override that OVERRIDE-ALTERED reports (R36). -/
abbrev State.Alters (s : State) (g : Nat) (m : Membership) (v : Presence) : Prop :=
  (s.override = true ∧ (s.group g).safety = true) ∧ v ≠ m.programmed ∧ v ≠ .available

/-- The effective presence that a programmed one gives in a group (R27). -/
abbrev State.effectiveIn (s : State) (g : Nat) (v : Presence) : Presence :=
  if s.override = true ∧ (s.group g).safety = true then .available else v

theorem recompute_staged (g : Nat) (v : Presence) (b : Membership) (s : State) :
    ({ b with programmed := v, staged := none, pending := false } : Membership).recompute s.override
      (s.group g).safety =
      b.takeStaged (s.effectiveIn g v) v := by
  have heffective : effectivePresence s.override (s.group g).safety v = s.effectiveIn g v := by
    simp only [effectivePresence, Bool.and_eq_true]
  simp only [Membership.recompute, Membership.takeEffective, heffective, Bool.or_eq_true, decide_eq_true_eq]

/-- A staged value that applies to the membership of an extension (R31). -/
def takesStaged (g x : Nat) (e v : Presence) (changed : Bool) (s : State) : State :=
  s.modGroup g fun r =>
    { r with
      rosterChanged := r.rosterChanged || changed
      members := r.members.map fun b => if b.ext = x then b.takeStaged e v else b }

theorem applyStaged_staged (hm : s.member? g x = some m) (hv : m.staged = some v) :
    applyStaged g x s = if s.Alters g m v then
        notify (.overrideAltered g 1) (takesStaged g x (s.effectiveIn g v) v (v ≠ m.programmed) s)
      else takesStaged g x (s.effectiveIn g v) v (v ≠ m.programmed) s := by
  have hmember : s.modMember g x (fun m =>
      ({ m with programmed := v, staged := none, pending := false } : Membership).recompute s.override
        (s.group g).safety) =
      s.modGroup g fun r => { r with members := r.members.map fun b =>
        if b.ext = x then b.takeStaged (s.effectiveIn g v) v else b } := by
    simp only [State.modMember, recompute_staged, beq_iff_eq]
  simp only [applyStaged, hm, hv, hmember]
  by_cases hc : m.programmed = v
  · simp [hc, takesStaged]
  · have hsym : v ≠ m.programmed := Ne.symm hc
    simp [hc, hsym, takesStaged, modGroup_modGroup, and_assoc]

/-! ## The end of a commit (R32) -/

/-- The only pending value of a group applies and ends the commit: OVERRIDE-ALTERED when it alters what the override
forces, then ROSTER-DONE (R31, R32, R36). -/
def commitEnds (g x : Nat) (e v : Presence) (changed : Bool) (alters : Prop) [Decidable alters] (s : State) : State :=
  let t := s.modGroup g fun r =>
    { r with
      commitInProgress := false, rosterChanged := r.rosterChanged || changed
      members := r.members.map fun b => if b.ext = x then b.takeStaged e v else b }
  notify (.rosterDone g) (if alters then notify (.overrideAltered g 1) t else t)

theorem group_lt_of_member (h : m ∈ (s.group g).members) : g < 64 :=
  group_lt (s := s) fun h' => by simp [h', GroupRecord.atReset] at h

/-- The end of the offer at the group's only pending membership (R32). -/
theorem offerEnded_pending (hm : s.member? g x = some m) (hp : m.pending = true) (hv : m.staged = some v)
    (hothers : ∀ b ∈ (s.group g).members, b.ext ≠ x → b.pending = false) :
    offerEnded g x s = commitEnds g x (s.effectiveIn g v) v (v ≠ m.programmed) (s.Alters g m v) s := by
  have hg : g < 64 := group_lt_of_member (List.mem_of_find?_eq_some hm)
  have hgroup : ((applyStaged g x s).group g).members =
      (s.group g).members.map fun b => if b.ext = x then b.takeStaged (s.effectiveIn g v) v else b := by
    rw [applyStaged_staged hm hv]
    split <;> simp [takesStaged, group_modGroup_same _ hg]
  have hnone : ((applyStaged g x s).group g).members.any Membership.pending = false := by
    rw [hgroup, List.any_eq_false]
    simp only [List.mem_map, forall_exists_index, and_imp, forall_apply_eq_imp_iff₂]
    intro b hb
    split
    · simp
    · rename_i hbx
      simp [hothers b hb hbx]
  simp only [offerEnded, hm, hp, Option.map_some, Option.getD_some, if_true, hnone, Bool.false_eq_true, if_false]
  rw [applyStaged_staged hm hv, commitEnds]
  split <;> simp [takesStaged, modGroup_modGroup]

section
variable {changed : Bool} {alters : Prop} [Decidable alters]

/-- What stays as it is when the group's table changes and notices are sent. -/
theorem view_commitEnds {α : Type} {view : State → α} (hn : ∀ n t, view (notify n t) = view t)
    (hv : ∀ f t, view (t.modGroup g f) = view t) : view (commitEnds g x e v changed alters s) = view s := by
  rw [commitEnds]
  split <;> simp [hn, hv]

@[simp] theorem ext_of_commitEnds (y : Nat) : (commitEnds g x e v changed alters s).ext y = s.ext y :=
  view_commitEnds (view := fun s => s.ext y) (fun _ _ => rfl) fun _ _ => rfl

@[simp] theorem call_of_commitEnds (c : Nat) : (commitEnds g x e v changed alters s).call? c = s.call? c :=
  view_commitEnds (view := fun s => s.call? c) (fun _ _ => rfl) fun _ _ => rfl

@[simp] theorem pages_of_commitEnds : (commitEnds g x e v changed alters s).pages = s.pages :=
  view_commitEnds (view := State.pages) (fun _ _ => rfl) fun _ _ => rfl

@[simp] theorem calls_of_commitEnds : (commitEnds g x e v changed alters s).calls = s.calls :=
  view_commitEnds (view := State.calls) (fun _ _ => rfl) fun _ _ => rfl

@[simp] theorem held_of_commitEnds (h : Nat) : (commitEnds g x e v changed alters s).held h = s.held h := by
  rw [commitEnds]
  split <;> simp [held_of_modGroup]

theorem group_commitEnds (hg : g < 64) : (commitEnds g x e v changed alters s).group g =
    { s.group g with
      commitInProgress := false, rosterChanged := (s.group g).rosterChanged || changed
      members := (s.group g).members.map fun b => if b.ext = x then b.takeStaged e v else b } := by
  rw [commitEnds]
  split <;> simp [group_modGroup_same _ hg]

end

/-! ## The four ends of the offer at a pending membership -/

/-- The offer of a group's only call at the group's only pending membership, whose staged value is `v`. -/
structure State.RingsPending (s : State) (g c x : Nat) (k : CallContext) (m : Membership) (v : Presence) : Prop where
  call : s.call? c = some k
  state : k.state = .waiting
  group : k.group = some g
  orbit : k.orbit = none
  ringing : k.ringing = [x]
  waiting : (s.group g).waiting = [c]
  memberOf : ∀ h ∈ (s.ext x).memberOf, h = g
  member : s.member? g x = some m
  pending : m.pending = true
  staged : m.staged = some v
  others : ∀ b ∈ (s.group g).members, b.ext ≠ x → b.pending = false

/-- The commit ends with the offer at the pending membership. -/
def commitEnded (g x : Nat) (m : Membership) (v : Presence) (s t : State) : State :=
  commitEnds g x (s.effectiveIn g v) v (v ≠ m.programmed) (s.Alters g m v) t

/-- A change that keeps the override and the group's record lets the commit end with the offer as before it. -/
theorem offerEnded_changed (ho : t.override = s.override)
    (hsafety : (t.group g).safety = (s.group g).safety)
    (hmember : ∃ m', t.member? g x = some m' ∧ m'.programmed = m.programmed ∧ m'.pending = true ∧ m'.staged = some v)
    (hothers : ∀ b ∈ (t.group g).members, b.ext ≠ x → b.pending = false) :
    offerEnded g x t = commitEnded g x m v s t := by
  obtain ⟨m', hm', hprogrammed, hpending, hstaged⟩ := hmember
  rw [offerEnded_pending hm' hpending hstaged hothers, commitEnded]
  simp only [State.effectiveIn, State.Alters, ho, hsafety, hprogrammed]

/-- A stop of the ring lets the commit end with the offer. -/
theorem offerEnded_stopped (h : s.RingsPending g c x k m v) (ho : t.override = s.override)
    (hg : t.group g = s.group g) :
    offerEnded g x t = commitEnded g x m v s t :=
  offerEnded_changed ho (by rw [hg]) ⟨m, by rw [State.member?, hg]; exact h.member, rfl, h.pending, h.staged⟩
    (by rw [hg]; exact h.others)

theorem find?_map_restartIdle {l : List Membership} (h : l.find? (fun m => m.ext == x) = some m) :
    (l.map fun b => if b.ext = x then { b with idleTenths := 0 } else b).find? (fun m => m.ext == x) =
      some { m with idleTenths := 0 } := by
  have hx : m.ext = x := by simpa using List.find?_some h
  have hext : ((fun b : Membership => b.ext == x) ∘ fun b => if b.ext = x then { b with idleTenths := 0 } else b) =
      fun b => b.ext == x := funext fun b => by simp only [Function.comp]; split <;> rfl
  rw [List.find?_map, hext, h, Option.map_some, if_pos hx]

/-- CALL-ANSWER at the pending membership (R16, R17, R32). -/
theorem connectCall_pending (h : s.RingsPending g c x k m v) :
    connectCall c x .answer (answerRecord k x) s =
      offerRecord { TraceRecord.offered .answer k.priority with call := some c, group := some g, ext := some x }
        (commitEnded g x m v s (answeredOffer g c x [x] s)) := by
  have hg := group_lt_of_waiting (h.waiting ▸ List.cons_ne_nil c [])
  have hgroup := group_answeredOffer hg c x [x] s
  have hended : offerEnded g x (answeredOffer g c x [x] s) = commitEnded g x m v s (answeredOffer g c x [x] s) := by
    refine offerEnded_changed ?_ (by rw [hgroup]) ⟨{ m with idleTenths := 0 }, ?_, rfl, h.pending, h.staged⟩ ?_
    · simp [answeredOffer, stopOthers]
    · rw [State.member?, hgroup]
      exact find?_map_restartIdle h.member
    · rw [hgroup]
      simp only [List.mem_map, forall_exists_index, and_imp, forall_apply_eq_imp_iff₂]
      intro b hb
      split
      · exact fun hbx => absurd ‹b.ext = x› hbx
      · exact h.others b hb
  rw [connectCall_answerRings h.call h.state h.group h.orbit (by simp [h.ringing]), h.ringing, offersEnded_one, hended,
    arbitrateAll_one]
  exact arbitrate_answerer (by simpa [commitEnded] using line_answeredOffer_ne_idle g c x [x] s) _

theorem offerEnded_clearMark (h : s.RingsPending g c x k m v) (reason : StopReason) :
    offerEnded g x (clearMark x c (some reason) s) = commitEnded g x m v s (clearMark x c (some reason) s) :=
  offerEnded_stopped h rfl (group_clearMark x c (some reason) s g)

/-- CALL-GONE of the call that rings the pending membership (R32, R65). -/
theorem endCall_pending (h : s.RingsPending g c x k m v) :
    endCall k s = offerRecord (abandonRecord k)
      (((commitEnded g x m v s (clearMark x c (some .callerGone) s)).modGroup g fun r =>
        { r with waiting := [] }).freeCall c) := by
  have hg := group_lt_of_waiting (h.waiting ▸ List.cons_ne_nil c [])
  have hclear : clearOffer k .callerGone s = commitEnded g x m v s (clearMark x c (some .callerGone) s) := by
    rw [clearOffer, h.ringing, clearMarks_one, h.group, Option.getD_some, offersEnded_one, call?_ref h.call,
      offerEnded_clearMark h]
  simp only [endCall, h.state, hclear, call?_ref h.call, h.ringing, arbitrateAll_one]
  rw [leaveList_sole (k := { k with ringing := k.ringing.filter (· != x) })
    (by simpa [commitEnded] using call?_clearMark h.call) h.group
    (by simpa [commitEnded, group_commitEnds hg] using h.waiting), offerAbandon_eq, freeCall_offerRecord]
  refine arbitrate_noWaiting (g := g) ?_ ?_
  · simpa [commitEnded, clearMark_stop, memberOf_modExt] using h.memberOf
  · simp [waiting_modGroup_nil]

/-- The context that a CALL-GONE frees takes the stop of its ring with it. -/
theorem freeCall_commitEnded (m : Membership) (f : GroupRecord → GroupRecord) (reason : StopReason) :
    ((commitEnded g x m v s (clearMark x c (some reason) s)).modGroup g f).freeCall c =
      { (commitEnded g x m v s (clearMark x c (some reason) s)).modGroup g f with
        calls := s.calls.filter fun k => k.ref != c } := by
  have hcalls : (clearMark x c (some reason) s).calls.filter (fun k => k.ref != c) =
      s.calls.filter fun k => k.ref != c :=
    congrArg State.calls (freeCall_modCall (f := fun k => { k with ringing := k.ringing.filter (· != x) }) c
      (fun _ => rfl)
      (s.modExt x fun r => { r with ringing := none }))
  simp only [State.freeCall, modGroup_calls, commitEnded, calls_of_commitEnds, hcalls]

theorem clearMark_setLine (x c : Nat) (reason : StopReason) (st : LineState) (s : State) :
    clearMark x c (some reason) (s.setLine x st) = (clearMark x c (some reason) s).setLine x st := by
  simp [clearMark_stop, modExt_modExt]

/-- The line that a report lifts leaves the pending membership and its offer as they are. -/
theorem ringsPending_setLine {st : LineState} (h : s.RingsPending g c x k m v) :
    (s.setLine x st).RingsPending g c x k m v :=
  { h with memberOf := by simpa [memberOf_modExt] using h.memberOf }

/-- The call that a commit's end leaves without a member to ring is QUEUED (R52). -/
theorem advance_pending (hc : t.call? c = some { k with ringing := [], noAnswerDue := none })
    (hm : (t.group g).members = (s.group g).members.map fun b =>
      if b.ext = x then b.takeStaged (s.effectiveIn g v) v else b)
    (hline : ∀ b ∈ (s.group g).members, (t.ext b.ext).line ≠ .idle ∨ b.ext ∈ k.tried)
    (hu : ∃ b ∈ (s.group g).members, b.ext ≠ x ∧ (b.effective = .available ∨ b.effective = .standby) ∧
      b.ext ∉ k.tried) :
    advance g c t = offerRecord { TraceRecord.offered .wait k.priority with call := some c, group := some g }
      (direct (.waitHold c) t) := by
  obtain ⟨b, hb, hbx, hoffered, huntried⟩ := hu
  refine advance_queues (k := { k with ringing := [], noAnswerDue := none }) hc ?_ ?_
  · simp only [hm, List.mem_map, forall_exists_index, and_imp, forall_apply_eq_imp_iff₂]
    intro b hb
    have hext : (if b.ext = x then b.takeStaged (s.effectiveIn g v) v else b).ext = b.ext := by split <;> rfl
    rw [hext]
    exact hline b hb
  · exact ⟨b, hm ▸ List.mem_map.2 ⟨b, hb, if_neg hbx⟩, hoffered, huntried⟩

theorem members_commitEnded (hg : g < 64) (m : Membership) :
    ((commitEnded g x m v s t).group g).members = (t.group g).members.map fun b =>
      if b.ext = x then b.takeStaged (s.effectiveIn g v) v else b := by
  rw [commitEnded, group_commitEnds hg]

/-- A LINE-REPORT at the pending membership (R8, R32, R52). -/
theorem withdrawRing_pending (h : s.RingsPending g c x k m v)
    (hl : ∀ b ∈ (s.group g).members, (s.ext b.ext).line ≠ .idle ∨ b.ext ∈ k.tried)
    (hu : ∃ b ∈ (s.group g).members, b.ext ≠ x ∧ (b.effective = .available ∨ b.effective = .standby) ∧
      b.ext ∉ k.tried) :
    withdrawRing x c s = offerRecord { TraceRecord.offered .wait k.priority with call := some c, group := some g }
      (direct (.waitHold c) ((commitEnded g x m v s (clearMark x c (some .withdrawn) s)).modCall c fun k =>
        { k with noAnswerDue := none })) := by
  have hg := group_lt_of_waiting (h.waiting ▸ List.cons_ne_nil c [])
  have hcall : (commitEnded g x m v s (clearMark x c (some .withdrawn) s)).call? c = some { k with ringing := [] } := by
    simp [commitEnded, call?_clearMark h.call, h.ringing]
  rw [withdrawRing_advances h.call h.state h.group (offerEnded_clearMark h .withdrawn) hcall,
    advance_pending (k := k) (s := s) (x := x) (v := v) (by simp [call?_modCall, hcall])
      (by simp [members_commitEnded hg])
      (by simpa [commitEnded, clearMark_stop, line_modExt] using hl) hu]

/-- The no-answer expiry at the pending membership (R32, R50, R52). -/
theorem endUnanswered_pending (h : s.RingsPending g c x k m v) (ht : x ∈ k.tried)
    (hl : ∀ b ∈ (s.group g).members, (s.ext b.ext).line ≠ .idle ∨ b.ext ∈ k.tried)
    (hu : ∃ b ∈ (s.group g).members, b.ext ≠ x ∧ (b.effective = .available ∨ b.effective = .standby) ∧
      b.ext ∉ k.tried) :
    endUnanswered k s = offerRecord { TraceRecord.offered .wait k.priority with call := some c, group := some g }
      (direct (.waitHold c) ((offerRecord
        { TraceRecord.offered .noAnswer k.priority with call := some c, group := some g, ext := some x }
          (commitEnded g x m v s (clearMark x c (some .noAnswer) s))).modCall c fun k =>
        { k with noAnswerDue := none })) := by
  have hg := group_lt_of_waiting (h.waiting ▸ List.cons_ne_nil c [])
  have hclear : clearOffer k .noAnswer s = commitEnded g x m v s (clearMark x c (some .noAnswer) s) := by
    rw [clearOffer, h.ringing, clearMarks_one, h.group, Option.getD_some, offersEnded_one, call?_ref h.call,
      offerEnded_clearMark h]
  have hcall : (commitEnded g x m v s (clearMark x c (some .noAnswer) s)).call? c = some { k with ringing := [] } := by
    simp [commitEnded, call?_clearMark h.call, h.ringing]
  have hadvance := advance_pending (k := k) (c := c) (s := s) (x := x) (v := v) (t := (offerRecord
      { TraceRecord.offered .noAnswer k.priority with call := some c, group := some g, ext := some x }
        (commitEnded g x m v s (clearMark x c (some .noAnswer) s))).modCall c fun k => { k with noAnswerDue := none })
    (by simp [call?_modCall, hcall]) (by simp [members_commitEnded hg])
    (by simpa [commitEnded, clearMark_stop, line_modExt] using hl) hu
  simp only [endUnanswered, hclear, h.ringing, List.foldl_cons, List.foldl_nil, offerNoAnswer, call?_ref h.call,
    h.group, Option.getD_some, arbitrateAll_one, hadvance]
  refine arbitrate_unwanted fun g' hg' => ?_
  obtain rfl : g' = g := h.memberOf g' (by simpa [commitEnded, clearMark_stop, memberOf_modExt] using hg')
  refine firstFor_none fun c' hc' k' hk' _ => ?_
  obtain rfl : c' = c := by simpa [commitEnded, group_commitEnds hg, h.waiting] using hc'
  obtain rfl : _ = k' := by simpa [call?_modCall, hcall] using hk'
  exact ht

end Sys2Proof.Machine
end

section
/-! PROOF. ROSTER-COMMIT (R30, R31, R33, R36). -/

namespace Sys2Proof.Machine

variable {s t : State} {c x y g o n : Nat} {k : CallContext} {m b : Membership} {v e : Presence} {tag : Byte}
  {p : List Byte} {a : Answer} {done rest : List Membership}

/-! ## A walk in which every staged value applies (R31) -/

/-- One OVERRIDE-ALTERED (group, 1) for each membership of a list (R36). -/
def alteredNotices (g : Nat) (l : List Membership) (s : State) : State :=
  l.foldl (fun t _ => notify (.overrideAltered g 1) t) s

/-- A view that a notice leaves as it is, the notices of a list leave as it is. -/
theorem view_alteredNotices {α : Type} {view : State → α} (hn : ∀ n t, view (notify n t) = view t) (g : Nat)
    (l : List Membership) (s : State) : view (alteredNotices g l s) = view s := by
  induction l generalizing s with
  | nil => rfl
  | cons b l ih => rw [alteredNotices, List.foldl_cons, ← alteredNotices, ih, hn]

theorem modGroup_alteredNotices (g h : Nat) (f : GroupRecord → GroupRecord) (l : List Membership) (s : State) :
    (alteredNotices g l s).modGroup h f = alteredNotices g l (s.modGroup h f) := by
  induction l generalizing s with
  | nil => rfl
  | cons b l ih => rw [alteredNotices, List.foldl_cons, ← alteredNotices, ih]; rfl

theorem alteredNotices_append (g : Nat) (l : List Membership) (b : Membership) (s : State) :
    alteredNotices g (l ++ [b]) s = notify (.overrideAltered g 1) (alteredNotices g l s) := by
  simp [alteredNotices]

/-- The staged value differs from the programmed presence (R31). -/
def Membership.changes (b : Membership) : Bool := match b.staged with
  | none => false
  | some v => v ≠ b.programmed

/-- The memberships whose change OVERRIDE-ALTERED reports (R36). -/
def State.alteredOf (s : State) (g : Nat) (l : List Membership) : List Membership :=
  if s.override = true ∧ (s.group g).safety = true then
    l.filter fun b => b.changes && b.staged ≠ some .available
  else []

/-- A membership whose staged value, if any, has applied (R31). -/
def State.committed (s : State) (g : Nat) (b : Membership) : Membership := match b.staged with
  | none => b
  | some v => b.takeStaged (s.effectiveIn g v) v

/-- The commit's walk between the memberships it has met and the rest (R30). -/
def commitWalk (g : Nat) (done rest : List Membership) (s : State) : State :=
  alteredNotices g (s.alteredOf g done) (s.modGroup g fun r =>
    { r with rosterChanged := r.rosterChanged || done.any Membership.changes
             members := done.map (s.committed g) ++ rest })

theorem commitWalk_start (g : Nat) (s : State) : commitWalk g [] (s.group g).members s = s := by
  have hnone : s.alteredOf g [] = [] := by simp [State.alteredOf]
  rw [commitWalk, hnone]
  exact modGroup_self (by simp)

theorem group_commitWalk (hg : g < 64) : (commitWalk g done rest s).group g =
    { s.group g with
      rosterChanged := (s.group g).rosterChanged || done.any Membership.changes
      members := done.map (s.committed g) ++ rest } := by
  rw [commitWalk, view_alteredNotices (view := fun s => s.group g) (fun _ _ => rfl), group_modGroup_same _ hg]

theorem override_commitWalk : (commitWalk g done rest s).override = s.override :=
  (view_alteredNotices (view := State.override) (fun _ _ => rfl) g _ _).trans rfl

theorem offerAt_commitWalk (h y : Nat) : (commitWalk g done rest s).offerAt h y = s.offerAt h y :=
  (view_alteredNotices (view := fun s => s.offerAt h y) (fun _ _ => rfl) g _ _).trans rfl

@[simp] theorem ext_committed (s : State) (g : Nat) (b : Membership) : (s.committed g b).ext = b.ext := by
  unfold State.committed
  split <;> rfl

theorem effectiveIn_commitWalk (hg : g < 64) (v : Presence) :
    (commitWalk g done rest s).effectiveIn g v = s.effectiveIn g v := by
  simp only [State.effectiveIn, override_commitWalk, group_commitWalk hg]

theorem member?_commitWalk (hg : g < 64) (hb : b.ext ∉ (done ++ rest).map (·.ext)) :
    (commitWalk g done (b :: rest) s).member? g b.ext = some b := by
  have hdone : (done.map (s.committed g)).find? (fun m => m.ext == b.ext) = none := by
    rw [List.find?_eq_none]
    simp only [List.mem_map, forall_exists_index, and_imp, forall_apply_eq_imp_iff₂, ext_committed, beq_iff_eq]
    exact fun d hd hdb => hb (List.mem_map.2 ⟨d, List.mem_append_left rest hd, hdb⟩)
  rw [State.member?, group_commitWalk hg, List.find?_append, hdone, Option.none_or, List.find?_cons, beq_self_eq_true]

/-- A staged value that applies changes one membership of the walk. -/
theorem map_takeStaged_walk (hb : b.ext ∉ (done ++ rest).map (·.ext)) (hv : b.staged = some v) (s : State) (g : Nat) :
    ((done.map (s.committed g) ++ b :: rest).map fun d =>
      if d.ext = b.ext then d.takeStaged (s.effectiveIn g v) v else d) =
      (done ++ [b]).map (s.committed g) ++ rest := by
  have hkeeps : ∀ l : List Membership, (∀ d ∈ l, d.ext ≠ b.ext) →
      l.map (fun d => if d.ext = b.ext then d.takeStaged (s.effectiveIn g v) v else d) = l := fun l hl =>
    (List.map_congr_left fun d hd => if_neg (hl d hd)).trans (List.map_id' l)
  have hcommitted : s.committed g b = b.takeStaged (s.effectiveIn g v) v := by simp only [State.committed, hv]
  simp only [List.map_append, List.mem_append, List.mem_map, not_or, not_exists, not_and] at hb
  rw [List.map_append, List.map_cons, if_pos rfl, hkeeps _ (by simpa using hb.1), hkeeps _ hb.2, List.map_append,
    List.map_singleton, hcommitted, List.append_assoc, List.singleton_append]

theorem alters_commitWalk (hg : g < 64) : (commitWalk g done rest s).Alters g b v ↔ s.Alters g b v := by
  simp only [State.Alters, override_commitWalk, group_commitWalk hg]

/-- A change that OVERRIDE-ALTERED reports joins the list of them. -/
theorem alteredOf_append (hv : b.staged = some v) :
    s.alteredOf g (done ++ [b]) = if s.Alters g b v then s.alteredOf g done ++ [b] else s.alteredOf g done := by
  have hpred : (b.changes && decide (b.staged ≠ some .available)) = decide (v ≠ b.programmed ∧ v ≠ .available) := by
    simp only [Membership.changes, hv, ne_eq, Option.some.injEq, Bool.decide_and]
  by_cases hf : s.override = true ∧ (s.group g).safety = true
  · simp only [State.alteredOf, State.Alters, if_pos hf, List.filter_append, List.filter_cons, List.filter_nil, hpred,
      decide_eq_true_eq]
    by_cases hc : v ≠ b.programmed ∧ v ≠ .available
    · rw [if_pos hc, if_pos ⟨hf, hc⟩]
    · rw [if_neg hc, if_neg (fun h => hc h.2), List.append_nil]
  · rw [State.alteredOf, State.alteredOf, if_neg hf, if_neg hf, if_neg (fun h => hf h.1)]

/-- The walk meets a membership that rings no offer of the group (R30). -/
theorem commitMember_walk (hg : g < 64) (hb : b.ext ∉ (done ++ rest).map (·.ext)) (ho : s.offerAt g b.ext = none) :
    commitMember g b.ext (commitWalk g done (b :: rest) s) = commitWalk g (done ++ [b]) rest s := by
  have hmember := member?_commitWalk (s := s) hg hb
  cases hv : b.staged with
  | none =>
    have hchanges : b.changes = false := by simp only [Membership.changes, hv]
    have hcommitted : s.committed g b = b := by simp only [State.committed, hv]
    have haltered : s.alteredOf g (done ++ [b]) = s.alteredOf g done := by
      simp [State.alteredOf, List.filter_append, hchanges]
    simp only [commitMember, hmember, Option.bind_some, hv]
    simp [commitWalk, haltered, hchanges, hcommitted]
  | some v =>
    have hchanges : b.changes = decide (v ≠ b.programmed) := by simp only [Membership.changes, hv]
    have htakes : takesStaged g b.ext (s.effectiveIn g v) v (v ≠ b.programmed) (commitWalk g done (b :: rest) s) =
        alteredNotices g (s.alteredOf g done) (s.modGroup g fun r =>
          { r with rosterChanged := r.rosterChanged || (done ++ [b]).any Membership.changes
                   members := (done ++ [b]).map (s.committed g) ++ rest }) := by
      simp only [takesStaged, commitWalk, modGroup_alteredNotices, modGroup_modGroup, map_takeStaged_walk hb hv,
        hchanges, List.any_append, List.any_cons, List.any_nil, Bool.or_false, Bool.or_assoc]
    simp only [commitMember, hmember, Option.bind_some, hv, offerAt_commitWalk, ho, Option.isSome_none, Bool.false_and,
      Bool.false_eq_true, if_false]
    rw [applyStaged_staged hmember hv, effectiveIn_commitWalk hg, htakes]
    by_cases h : s.Alters g b v
    · rw [if_pos ((alters_commitWalk hg).2 h), commitWalk, alteredOf_append hv, if_pos h, alteredNotices_append]
    · rw [if_neg (mt (alters_commitWalk hg).1 h), commitWalk, alteredOf_append hv, if_neg h]

/-- The walk over the members of a group, none of which rings an offer of it. -/
theorem commitMembers_walk (hg : g < 64) (hn : ((done ++ rest).map (·.ext)).Nodup)
    (ho : ∀ b ∈ rest, s.offerAt g b.ext = none) :
    rest.foldl (fun s b => commitMember g b.ext s) (commitWalk g done rest s) = commitWalk g (done ++ rest) [] s := by
  induction rest generalizing done with
  | nil => simp
  | cons b rest ih =>
    have hb : b.ext ∉ (done ++ rest).map (·.ext) := by
      rw [List.map_append, List.map_cons, List.nodup_middle, List.nodup_cons] at hn
      simpa using hn.1
    rw [List.foldl_cons, commitMember_walk hg hb (ho b (by simp)), ih (by simpa using hn)
      fun b hb => ho b (by simp [hb])]
    simp

theorem service_noWaiting (h : (s.group g).waiting = []) : service g s = s := by
  simp only [service, h, List.foldl_nil, ite_self]

theorem pending_committed (h : b.pending = false) (s : State) (g : Nat) : (s.committed g b).pending = false := by
  unfold State.committed
  split
  · exact h
  · rfl

/-- A commit of a group none of whose extensions rings for it (R30). -/
theorem rosterCommit_applies (hg : g ≤ 63) (hcommit : (s.group g).commitInProgress = false)
    (hw : (s.group g).waiting = []) (hn : ((s.group g).members.map (·.ext)).Nodup)
    (hp : ∀ b ∈ (s.group g).members, b.pending = false ∧ s.offerAt g b.ext = none) :
    rosterCommit g s = (commitWalk g (s.group g).members [] s, .ok) := by
  have hlt : g < 64 := Nat.lt_succ_of_le hg
  have hwalk : (s.group g).members.foldl (fun s b => commitMember g b.ext s) s =
      commitWalk g (s.group g).members [] s := by
    have h := commitMembers_walk (s := s) (done := []) (rest := (s.group g).members) hlt (by simpa using hn)
      fun b hb => (hp b hb).2
    rwa [commitWalk_start, List.nil_append] at h
  have hmembers : ((commitWalk g (s.group g).members [] s).group g).members =
      (s.group g).members.map (s.committed g) := by rw [group_commitWalk hlt, List.append_nil]
  have hnone : ((commitWalk g (s.group g).members [] s).group g).members.any (·.pending) = false := by
    rw [hmembers, List.any_eq_false]
    simp only [List.mem_map, forall_exists_index, and_imp, forall_apply_eq_imp_iff₂]
    exact fun b hb => by simp [pending_committed (hp b hb).1]
  have hservice : service g (commitWalk g (s.group g).members [] s) = commitWalk g (s.group g).members [] s :=
    service_noWaiting (by rw [group_commitWalk hlt]; exact hw)
  simp only [rosterCommit, Nat.not_lt.mpr hg, hcommit, hwalk, hnone, Bool.false_eq_true, if_false, hservice, ite_self]

/-- A commit of a group whose one member rings an offer of it, staged to another value than AVAILABLE (R30). -/
theorem rosterCommit_waits (hg : g ≤ 63) (hcommit : (s.group g).commitInProgress = false)
    (hm : (s.group g).members = [m]) (hv : m.staged = some v) (hne : v ≠ .available) (ho : s.offerAt g m.ext = some c) :
    rosterCommit g s = (s.modGroup g fun r =>
      { r with commitInProgress := true, members := [{ m with pending := true }] }, .pending) := by
  have hlt : g < 64 := Nat.lt_succ_of_le hg
  have hmember : s.member? g m.ext = some m := by simp [State.member?, hm]
  have hwalk : commitMember g m.ext s = s.modGroup g fun r => { r with members := [{ m with pending := true }] } := by
    simp only [commitMember, hmember, Option.bind_some, hv, ho, Option.isSome_some, ne_eq, hne, not_false_eq_true,
      decide_true, Bool.and_self, if_true]
    exact modGroup_congr (by simp [hm, hv])
  have hnew : newlyOffered [m] [{ m with pending := true }] = false := by
    simp [newlyOffered]
  simp only [rosterCommit, Nat.not_lt.mpr hg, hcommit, hm, List.foldl_cons, List.foldl_nil, hwalk,
    group_modGroup_same _ hlt, List.any_cons, Bool.true_or, if_true, modGroup_modGroup, hnew, Bool.false_eq_true,
      if_false]

theorem exec_rosterCommit_answers (hr : readNumber1 p = some g) (ht : s.Takes ⟨0x10, tag, p⟩)
    (ha : rosterCommit g s = (t, a)) :
    exec (.rosterCommit tag p) s = .next (answered ⟨0x10, tag, p⟩ a.verdict a.body t) :=
  congrArg Host.Outcome.next (takeKind_answers ht hr ha)

theorem exec_noAnswerExpiry_due {d : Nat} (hr : s.running = true) (hc : s.call? c = some k)
    (hd : k.noAnswerDue = some d)
    (hle : d ≤ s.clock) : exec (.noAnswerExpiry c) s = .next (endUnanswered k s) := by
  refine congrArg Host.Outcome.next ?_
  simp only [whenRunning, hr, if_true, hc, hd, atExpiry_due hle]

/-- The answer of an offer at a single extension, of the group's only call. -/
theorem answeredOffer_sole (hw : (s.group g).waiting = [c]) :
    answeredOffer g c x [x] s = ((s.modExt x fun r => { r with ringing := none, line := .inCall }).modGroup g fun r =>
      { r with
        waiting := []
        members := r.members.map fun b => if b.ext = x then { b with idleTenths := 0 } else b }).modCall c fun r =>
      { r with
        ringing := r.ringing.filter (· != x), noAnswerDue := none, maxWaitDue := none
        state := .connected, connected := some x, tried := [], passCount := 0 } := by
  have hfilter : ∀ l : List Nat, l.filter (· ∉ [x]) = l.filter (· != x) := fun l => by
    simpa using (filter_ne_filter_notMem x [] l).symm
  have hothers : [x].filter (· != x) = [] := by simp
  simp only [answeredOffer, hfilter, hothers]
  exact congrArg (State.modCall · c _) (modGroup_congr (by simp [stopOthers, hw]))

/-- Settles O27: the commit that waits or applies, and the four ends of the offer it waits for. -/
theorem rosterCommitAppliesOrWaits : Obligations.RosterCommitAppliesOrWaits := by
  refine ⟨?_, ?_⟩
  · intro tag p g s hr ht hg forcing
    refine ⟨fun hbusy => ?_, fun m v c hcommit hm hv hne ho => ?_, fun hcommit hw hn hp => ?_⟩
    · exact exec_rosterCommit_answers (a := .busy) hr ht (by simp [rosterCommit, Nat.not_lt.mpr hg, hbusy])
    · exact exec_rosterCommit_answers (a := .pending) hr ht (rosterCommit_waits hg hcommit hm hv hne ho)
    · intro changes overruled
      refine exec_rosterCommit_answers (a := .ok) hr ht ((rosterCommit_applies hg hcommit hw hn hp).trans ?_)
      have hmembers : (s.group g).members.map (s.committed g) ++ [] = (s.group g).members.map fun m =>
        match m.staged with
          | none => m
          | some v =>
            let e := if forcing then .available else v
            { m with programmed := v, effective := e, staged := none
                     idleTenths := if e = .standby ∨ e = .signedOff then 0 else m.idleTenths } := by
        rw [List.append_nil]
        refine List.map_congr_left fun b hb => ?_
        rw [State.committed]
        split
        · rfl
        · rw [Membership.takeStaged, ← (hp b hb).1]
      refine congrArg (·, Answer.ok) (congrArg (alteredNotices g _) (modGroup_congr ?_))
      rw [hmembers]
      rfl
  · intro c g x m v k s hc hs hg ho hring hm hw hmem hfind hp hv hothers
    have h : s.RingsPending g c x k m v := ⟨hc, hs, hg, ho, hring, hw, hmem, hfind, hp, hv, hothers⟩
    intro forcing e applied stopped queued waits
    refine ⟨fun tag p hr ht h1 h2 hx => ?_, fun tag p hr ht h1 h2 => ?_, fun tag p hr ht hx hwaits => ?_,
      fun d hrun hd hle htried hwaits => ?_⟩
    · refine exec_callAnswer_answers (a := .ok) hr ht ((callAnswer_connects h1 h2 hx hc hm).trans ?_)
      rw [connectCall_pending h, answeredOffer_sole hw]
      rfl
    · refine exec_callGone_answers (a := .ok) hr ht ((callGone_ends hc h1 h2).trans ?_)
      rw [endCall_pending h, freeCall_commitEnded, abandonRecord, call?_ref hc, hg, ho]
      rfl
    · obtain ⟨hlines, hu⟩ := hwaits
      refine exec_lineReport_answers (a := .ok) hr ht ((lineReport_applies hx rfl).trans (congrArg (·, Answer.ok) ?_))
      have hwithdrawn := withdrawRing_pending (ringsPending_setLine (st := .offhook) h)
        (fun b hb => .inl (line_setLine_ne_idle (by decide) hlines b hb)) hu
      refine (applyLine_withdraws (by decide) (.inl rfl) hm hwithdrawn ?_ ?_).trans ?_
      · simp [commitEnded, clearMark_stop]
      · simp [commitEnded, clearMark_stop]
      · rw [clearMark_setLine]
        rfl
    · obtain ⟨hlines, hu⟩ := hwaits
      refine (exec_noAnswerExpiry_due hrun hc hd hle).trans (congrArg Host.Outcome.next ?_)
      rw [endUnanswered_pending h htried (fun b hb => ?_) hu]
      · rfl
      · by_cases hbx : b.ext = x
        · exact .inr (hbx ▸ htried)
        · exact .inl (hlines b hb hbx)

end Sys2Proof.Machine
end

section
/-! PROOF. What the roster's requests share: their answers, the presences they name, lists without repeats, and
presence under the muster override (R24, R27 to R29). -/

namespace Sys2Proof.Machine

variable {s t : State} {g n : Nat} {tag : Byte} {p : List Byte} {a : Answer}

/-! ## A request and its owner -/

theorem exec_groupSet_answers {op : GroupSetOp} (hr : GroupSetOp.read p = some op) (ht : s.Takes ⟨0x0C, tag, p⟩)
    (ha : groupSet op s = (t, a)) :
    exec (.groupSet tag p) s = .next (answered ⟨0x0C, tag, p⟩ a.verdict a.body t) :=
  congrArg Host.Outcome.next (takeKind_answers ht hr ha)

theorem exec_membersSet_answers {op : MembersSetOp} (hr : MembersSetOp.read p = some op)
    (ht : s.Takes ⟨0x0D, tag, p⟩) (ha : membersSet op s = (t, a)) :
    exec (.membersSet tag p) s = .next (answered ⟨0x0D, tag, p⟩ a.verdict a.body t) :=
  congrArg Host.Outcome.next (takeKind_answers ht hr ha)

theorem exec_presenceStage_answers {op : PresenceStageOp} (hr : PresenceStageOp.read p = some op)
    (ht : s.Takes ⟨0x0F, tag, p⟩) (ha : presenceStage op s = (t, a)) :
    exec (.presenceStage tag p) s = .next (answered ⟨0x0F, tag, p⟩ a.verdict a.body t) :=
  congrArg Host.Outcome.next (takeKind_answers ht hr ha)

theorem exec_rosterQuery_answers {op : RosterQueryOp} (hr : RosterQueryOp.read p = some op)
    (ht : s.Takes ⟨0x11, tag, p⟩) (ha : rosterQuery op s = (t, a)) :
    exec (.rosterQuery tag p) s = .next (answered ⟨0x11, tag, p⟩ a.verdict a.body t) :=
  congrArg Host.Outcome.next (takeKind_answers ht hr ha)

/-! ## Presences -/

theorem readPresence_isSome_iff : (readPresence n).isSome = true ↔ n ≤ 3 := by
  match n with
  | 0 | 1 | 2 | 3 => decide
  | n + 4 => simp [readPresence]

theorem presenceFits_iff : presenceFits n = true ↔ n ≤ 3 ∨ n = 255 := by
  simp [presenceFits, readPresence_isSome_iff, or_comm]

/-! ## Lists without repeats -/

theorem withoutRepeats_sublist (l : List Nat) : (withoutRepeats l).Sublist l := by
  induction l with
  | nil => exact .slnil
  | cons x l ih => exact (List.filter_sublist.trans ih).cons_cons x

theorem nodup_withoutRepeats (l : List Nat) : (withoutRepeats l).Nodup := by
  induction l with
  | nil => exact List.nodup_nil
  | cons x l ih => exact List.nodup_cons.2 ⟨by simp, ih.filter _⟩

theorem withoutRepeats_of_nodup {l : List Nat} (h : l.Nodup) : withoutRepeats l = l := by
  induction l with
  | nil => rfl
  | cons x l ih =>
    obtain ⟨hx, hl⟩ := List.nodup_cons.1 h
    rw [withoutRepeats, ih hl, List.filter_eq_self.2]
    exact fun y hy => bne_iff_ne.2 fun hyx => hx (hyx ▸ hy)

theorem noRepeats_iff {l : List Nat} : noRepeats l = true ↔ l.Nodup := by
  rw [noRepeats, decide_eq_true_eq]
  constructor
  · exact fun h => (withoutRepeats_sublist l).eq_of_length h ▸ nodup_withoutRepeats l
  · exact fun h => by rw [withoutRepeats_of_nodup h]

/-! ## Presence under the muster override (R27, R28) -/

/-- A membership that the override forces (R27, R35). -/
abbrev Membership.forced (m : Membership) : Membership := { m with effective := .available }

/-- A membership that has its programmed presence (R27, R28). -/
abbrev Membership.released (m : Membership) : Membership :=
  { m with
    effective := m.programmed
    idleTenths := if m.programmed = .standby ∨ m.programmed = .signedOff then 0 else m.idleTenths }

theorem recompute_forced : Membership.recompute true true = Membership.forced := rfl

theorem recompute_released {override safety : Bool} (h : (override && safety) = false) :
    Membership.recompute override safety = Membership.released := by
  funext m
  simp [Membership.recompute, Membership.takeEffective, effectivePresence, h]

theorem recomputeGroup_forces (ho : s.override = true) (hs : (s.group g).safety = true) :
    recomputeGroup g s = s.modGroup g fun r => { r with members := r.members.map Membership.forced } :=
  modGroup_congr (by rw [ho, hs, recompute_forced])

theorem recomputeGroup_releases (h : (s.override && (s.group g).safety) = false) :
    recomputeGroup g s = s.modGroup g fun r => { r with members := r.members.map Membership.released } :=
  modGroup_congr (by rw [recompute_released h])

/-- A group is forced (R35, R37). -/
theorem forceGroup_forces (ho : s.override = true) (hs : (s.group g).safety = true) :
    forceGroup g s =
      let t := s.modGroup g fun r => { r with members := r.members.map Membership.forced }
      if (s.group g).forcedCount = 0 then t else notify (.overrideAltered g (s.group g).forcedCount) t := by
  simp only [forceGroup, recomputeGroup_forces ho hs]

theorem waiting_forceGroup (g i : Nat) (s : State) : ((forceGroup g s).group i).waiting = (s.group i).waiting := by
  have hkeeps : ((recomputeGroup g s).group i).waiting = (s.group i).waiting :=
    group_modGroup_keeps (p := GroupRecord.waiting)
      (f := fun r => { r with members := r.members.map (Membership.recompute s.override r.safety) })
      (fun _ => rfl) s g i
  simp only [forceGroup]
  split <;> exact hkeeps

end Sys2Proof.Machine
end

section
/-! PROOF. PRESENCE-STAGE and ROSTER-QUERY (R29, R33, R34). -/

namespace Sys2Proof.Machine

variable {s : State} {g : Nat}

/-- A membership after the first entry that names it (R29). -/
def stagedBy (es : List StageEntry) (m : Membership) : Membership :=
  match es.find? fun e => e.ext == m.ext with
  | none => m
  | some e => { m with staged := readPresence e.presence }

theorem stagedBy_nil : stagedBy [] = id := rfl

/-- The entry that is staged first is not staged over by a later one. -/
theorem stagedBy_cons {e : StageEntry} {es : List StageEntry} (h : e.ext ∉ es.map (·.ext)) (m : Membership) :
    stagedBy es (if m.ext == e.ext then { m with staged := readPresence e.presence } else m) =
      stagedBy (e :: es) m := by
  by_cases hm : m.ext = e.ext
  · have hlater : es.find? (fun d => d.ext == e.ext) = none := by simpa using h
    simp [stagedBy, hm, hlater]
  · simp [stagedBy, hm, Ne.symm hm]

/-- Entries of different extensions stage each its own memberships. -/
theorem foldl_stageEntry {es : List StageEntry} (h : (es.map (·.ext)).Nodup) (g : Nat) (s : State) :
    es.foldl (fun s e => stageEntry g e s) s =
      s.modGroup g fun r => { r with members := r.members.map (stagedBy es) } := by
  induction es generalizing s with
  | nil => exact (modGroup_self (by rw [stagedBy_nil, List.map_id])).symm
  | cons e es ih =>
    obtain ⟨he, hes⟩ := List.nodup_cons.1 h
    rw [List.foldl_cons, ih hes, stageEntry, State.modMember, modGroup_modGroup]
    simp only [List.map_map, Function.comp_def, stagedBy_cons he]

theorem member?_eq_none {x : Nat} : s.member? g x = none ↔ ∀ m ∈ (s.group g).members, m.ext ≠ x := by
  simp [State.member?]

/-- Settles O26: with no commit in progress each entry stages the memberships of its extension. -/
theorem presenceStageStages : Obligations.PresenceStageStages := by
  intro tag p o s hr ht hg hlow hhigh hfits
  have hlength : (o.entries.isEmpty || decide (32 < o.entries.length)) = false := by
    simp [← List.length_eq_zero_iff]; omega
  have hrange : (decide (63 < o.group) || o.entries.any fun e => decide (1023 < e.ext) || !presenceFits e.presence) =
      false := by
    simpa [presenceFits_iff, hg] using hfits
  refine ⟨fun hcommit => ?_, fun hcommit hn hmembers => ?_⟩
  · exact exec_presenceStage_answers (a := .refused .commitPending) hr ht (by
      simp only [presenceStage, hlength, hrange, hcommit, Bool.false_eq_true, if_false, if_true])
  · have hnamed : (o.entries.map (·.ext)).any (fun x => (s.member? o.group x).isNone) = false := by
      simpa [member?_eq_none] using hmembers
    refine exec_presenceStage_answers (a := .ok) hr ht ?_
    simp only [presenceStage, hlength, hrange, hcommit, noRepeats_iff.2 hn, hnamed, Bool.not_true, Bool.false_eq_true,
      if_false, foldl_stageEntry hn]
    rfl

/-- Settles O28: the reply is built from the state before the flag is cleared. -/
theorem rosterQueryReportsAndClears : Obligations.RosterQueryReportsAndClears := by
  intro tag p o s hr ht
  refine ⟨fun hrange => ?_, fun hg hfirst => ?_⟩
  · exact exec_rosterQuery_answers (a := .refused .outOfRange) hr ht (by
      rw [rosterQuery, if_pos (by simpa using hrange)])
  · exact exec_rosterQuery_answers (a := .okWith (.roster (s.rosterReport o))) hr ht (by
      rw [rosterQuery, if_neg (by simp [hg, hfirst])])

end Sys2Proof.Machine
end

section
/-! PROOF. The start and the end of the muster override (R35, R38). -/

namespace Sys2Proof.Machine

variable {s : State} {g : Nat}

theorem safetyGroups_sole (hg : g ≤ 63) (h : ∀ i, i ≤ 63 → ((s.group i).safety = true ↔ i = g)) :
    s.safetyGroups = [g] := by
  have hsole : s.safetyGroups = (List.range 64).filter (· == g) :=
    List.filter_congr fun i hi => by
      rw [Bool.eq_iff_iff, h i (Nat.le_of_lt_succ (List.mem_range.1 hi)), beq_iff_eq]
  rw [hsole, List.filter_beq, List.count_eq_one_of_mem List.nodup_range (List.mem_range.2 (Nat.lt_succ_of_le hg))]
  rfl

/-- The one safety group is forced, and it has no call to be serviced for (R35). -/
theorem forceSafetyGroups_sole (h : s.safetyGroups = [g]) (ho : s.override = true) (hs : (s.group g).safety = true)
    (hw : (s.group g).waiting = []) (hn : (s.group g).forcedCount ≠ 0) :
    serviceAll (s.safetyGroups.filter fun i => (s.group i).forcedCount ≠ 0)
        (s.safetyGroups.foldl (fun s i => forceGroup i s) s) =
      notify (.overrideAltered g (s.group g).forcedCount)
        (s.modGroup g fun r => { r with members := r.members.map Membership.forced }) := by
  have hforced : [g].filter (fun i => (s.group i).forcedCount ≠ 0) = [g] :=
    List.filter_eq_self.2 (by simpa using hn)
  have hservice : service g (forceGroup g s) = forceGroup g s := service_noWaiting (by rw [waiting_forceGroup, hw])
  rw [h, hforced, List.foldl_cons, List.foldl_nil, serviceAll, List.foldl_cons, List.foldl_nil, hservice,
    forceGroup_forces ho hs, if_neg hn]

/-- Settles O29: the one safety group is forced, and it is released. -/
theorem overrideForcesSafetyGroup : Obligations.OverrideForcesSafetyGroup := by
  intro g s hg hsafety hw ⟨m, hm, hprogrammed⟩
  have hsole (b : Bool) : ({ s with override := b } : State).safetyGroups = [g] := safetyGroups_sole hg hsafety
  have hcount : (s.group g).forcedCount ≠ 0 := by
    simpa [GroupRecord.forcedCount] using ⟨m, hm, hprogrammed⟩
  refine ⟨forceSafetyGroups_sole (hsole true) rfl ((hsafety g hg).2 rfl) hw hcount, ?_⟩
  simp only [endOverride, hsole, List.foldl_cons, List.foldl_nil]
  rw [recomputeGroup_releases rfl]
  rfl

end Sys2Proof.Machine
end

section
/-! PROOF. GROUP-SET (R21, R22, R37). -/

namespace Sys2Proof.Machine

variable {s : State} {o : GroupSetOp} {f : GroupFields} {n : Nat}

/-! ## The values that the fields name (R21) -/

theorem readFlag_le {b : Bool} (h : readFlag n = some b) : n ≤ 1 := by
  match n with
  | 0 | 1 => decide
  | n + 2 => simp [readFlag] at h

theorem readDiscipline_le {d : Discipline} (h : readDiscipline n = some d) : n ≤ 4 := by
  match n with
  | 0 | 1 | 2 | 3 | 4 => decide
  | n + 5 => simp [readDiscipline] at h

/-- An overflow target is absent, a group or an external code (R186; log entries 7 and 30). -/
theorem readOverflow_form {c : Form} {v : Option OverflowTarget} (h : readOverflow c = some v) :
    c = ⟨255, 65535⟩ ∨ (c.code = 0 ∧ c.value ≤ 63) ∨ (c.code = 1 ∧ 1 ≤ c.value ∧ c.value ≤ 65534) := by
  obtain ⟨code, value⟩ := c
  simp only [readOverflow] at h
  split_ifs at h <;> simp_all
  omega

/-- The values of a GROUP-SET whose fields can be read lie within those listed. -/
theorem GroupSetOp.fields_inRange (h : o.fields = some f) :
    o.configured ≤ 1 ∧ o.discipline ≤ 4 ∧ o.traceEnable ≤ 1 ∧ o.traceAccept ≤ 1 ∧ o.traceThrough ≤ 1 ∧
      o.pickable ≤ 1 ∧ o.safety ≤ 1 ∧ o.emergencyHold ≤ 1 ∧
      (o.overflow = ⟨255, 65535⟩ ∨ (o.overflow.code = 0 ∧ o.overflow.value ≤ 63) ∨
        (o.overflow.code = 1 ∧ 1 ≤ o.overflow.value ∧ o.overflow.value ≤ 65534)) := by
  unfold GroupSetOp.fields at h
  split at h
  · rename_i hcf hd hov hte hta htt hpk hsf heh
    exact ⟨readFlag_le hcf, readDiscipline_le hd, readFlag_le hte, readFlag_le hta, readFlag_le htt, readFlag_le hpk,
      readFlag_le hsf, readFlag_le heh, readOverflow_form hov⟩
  · simp at h

theorem badSet_iff {set : Option Nat} : badSet set = true ↔ ∃ n, set = some n ∧ 31 < n := by
  cases set <;> simp [badSet]

/-- A value outside those listed is refused before anything else is asked. -/
theorem groupSet_outOfRange
    (h : o.fields = none ∨ 63 < o.group ∨ badSet o.homeSet = true ∨ badSet o.autoSet = true) :
    groupSet o s = (s, .refused .outOfRange) := by
  unfold groupSet
  split
  · rfl
  · rename_i f hf
    rw [if_pos]
    simpa [hf, or_assoc] using h

/-- The checks that follow those of the range. -/
theorem groupSet_inRange (hf : o.fields = some f) (hg : o.group ≤ 63) (hhome : badSet o.homeSet = false)
    (hauto : badSet o.autoSet = false) :
    groupSet o s =
      if (f.configured = false ∧ (s.group o.group).waiting ≠ []) ∨
          clamp 1 16 o.waitingDepth < (s.group o.group).waiting.length then
        (s, .refused .wrongState)
      else (applyGroup o f s, .ok) := by
  simp [groupSet, hf, hg, hhome, hauto]

/-! ## The record that is written (R21, R22) -/

theorem clamp_eq {low high : Nat} (h : low ≤ high) (x : Nat) : clamp low high x = max low (min x high) := by
  simp only [clamp]; omega

/-- The record that a taken GROUP-SET leaves, its memberships' presence taken up by `presence`. -/
def GroupSetOp.record (o : GroupSetOp) (f : GroupFields) (presence : Membership → Membership) (r : GroupRecord) :
    GroupRecord :=
  { r with
    configured := f.configured, discipline := f.discipline
    members := r.members.map fun m =>
      presence (if f.discipline = r.discipline then m else { m with credit := 0 })
    cursor := if f.discipline = r.discipline then r.cursor else 0
    noAnswerTime := max 50 (min o.noAnswerTime 1200), passLimit := max 1 (min o.passLimit 4)
    waitingDepth := max 1 (min o.waitingDepth 16)
    maximumWait := if o.maximumWait = 0 then 0 else max 100 (min o.maximumWait 36000)
    overflow := f.overflow, traceEnable := f.traceEnable, traceAccept := f.traceAccept
    traceThrough := f.traceThrough, pickable := f.pickable, safety := f.safety
    emergencyHold := f.emergencyHold, homeSet := o.homeSet, autoSet := o.autoSet
    autoThreshold := max 100 (min o.autoThreshold 6000) }

theorem GroupSetOp.write_eq (o : GroupSetOp) (f : GroupFields) : o.write f = o.record f id := by
  funext r
  simp only [GroupSetOp.write, GroupSetOp.record, clampWait, clamp_eq (by decide : 50 ≤ 1200),
    clamp_eq (by decide : 1 ≤ 4), clamp_eq (by decide : 1 ≤ 16), clamp_eq (by decide : 100 ≤ 36000),
    clamp_eq (by decide : 100 ≤ 6000), id]
  by_cases h : f.discipline = r.discipline <;> simp [h]

/-- A change of the members' presence after the record is written. -/
theorem modGroup_record (presence : Membership → Membership) (s : State) :
    (s.modGroup o.group (o.record f id)).modGroup o.group
        (fun r => { r with members := r.members.map presence }) = s.modGroup o.group (o.record f presence) := by
  rw [modGroup_modGroup]
  exact congrArg (s.modGroup o.group) (funext fun r => by simp [GroupSetOp.record, Function.comp_def])

theorem forcedCount_record (r : GroupRecord) : (o.record f id r).forcedCount = r.forcedCount := by
  have hprogrammed : ((fun m : Membership => decide (m.programmed ≠ .available)) ∘ fun m =>
      id (if f.discipline = r.discipline then m else { m with credit := 0 })) =
      fun m => decide (m.programmed ≠ .available) := funext fun m => by
    simp only [Function.comp, id]
    split <;> rfl
  simp only [GroupRecord.forcedCount, GroupSetOp.record, List.filter_map, List.length_map, hprogrammed]

/-! ## The safety flag under the override (R37) -/

/-- A safety flag that stays, or no override: only the record changes. -/
theorem applyGroup_steady (hh : s.held o.group = false)
    (h : s.override = false ∨ f.safety = (s.group o.group).safety) :
    applyGroup o f s = s.modGroup o.group (o.record f id) := by
  have hset : (s.override && f.safety && !(s.group o.group).safety) = false := by
    rcases h with h | h <;> simp [h]
  have hcleared : (s.override && !f.safety && (s.group o.group).safety) = false := by
    rcases h with h | h <;> simp [h]
  simp [applyGroup, GroupSetOp.write_eq, hset, hcleared, hh]

/-- A safety flag that is set forces the group (R35, R37). -/
theorem applyGroup_forces (hg : o.group ≤ 63) (ho : s.override = true) (hf : f.safety = true)
    (hs : (s.group o.group).safety = false) (hw : (s.group o.group).waiting = []) :
    applyGroup o f s =
      let t := s.modGroup o.group (o.record f Membership.forced)
      if (s.group o.group).forcedCount = 0 then t
      else notify (.overrideAltered o.group (s.group o.group).forcedCount) t := by
  have hwritten := group_modGroup_same (s := s) (o.record f id) (Nat.lt_succ_of_le hg)
  have hforce := forceGroup_forces (s := s.modGroup o.group (o.record f id)) (g := o.group) ho
    (by rw [hwritten]; exact hf)
  rw [hwritten, forcedCount_record, modGroup_record] at hforce
  have hwaiting : ((forceGroup o.group (s.modGroup o.group (o.record f id))).group o.group).waiting = [] := by
    rw [waiting_forceGroup, hwritten]
    exact hw
  simp only [applyGroup, GroupSetOp.write_eq, modGroup_override, ho, hf, hs, Bool.not_false, Bool.and_self, if_true,
    service_noWaiting hwaiting, ite_self]
  exact hforce

/-- A safety flag that is cleared gives every membership its programmed presence (R28, R37). -/
theorem applyGroup_releases (hh : s.held o.group = false) (hg : o.group ≤ 63) (ho : s.override = true)
    (hf : f.safety = false) (hs : (s.group o.group).safety = true) :
    applyGroup o f s = s.modGroup o.group (o.record f Membership.released) := by
  have hrelease : recomputeGroup o.group (s.modGroup o.group (o.record f id)) =
      s.modGroup o.group (o.record f Membership.released) := by
    rw [recomputeGroup_releases, modGroup_record]
    rw [group_modGroup_same _ (Nat.lt_succ_of_le hg)]
    simp [GroupSetOp.record, hf]
  simp [applyGroup, GroupSetOp.write_eq, ho, hf, hs, hh, hrelease]

/-- Settles O24: the checks in their order, then the record, and what the safety flag does to its members. -/
theorem groupSetWritesRecord : Obligations.GroupSetWritesRecord := by
  intro tag p o s hr ht
  refine ⟨fun hrange => ?_, fun f hf hg hhome hauto => ?_⟩
  · refine exec_groupSet_answers (a := .refused .outOfRange) hr ht (groupSet_outOfRange ?_)
    by_contra! hin
    obtain ⟨hfields, hg, hhome, hauto⟩ := hin
    obtain ⟨f, hf⟩ := Option.ne_none_iff_exists'.1 hfields
    obtain ⟨hcf, hd, hte, hta, htt, hpk, hsf, heh, hov⟩ := GroupSetOp.fields_inRange hf
    rw [Ne, badSet_iff] at hhome hauto
    have hform : ¬(o.overflow.code ≠ 0 ∧ o.overflow.code ≠ 1 ∧ o.overflow ≠ ⟨255, 65535⟩) := by tauto
    have hvalues : (o.overflow.code = 0 → o.overflow.value ≤ 63) ∧
        (o.overflow.code = 1 → 1 ≤ o.overflow.value ∧ o.overflow.value ≤ 65534) := by
      rcases hov with h | h | h
      · simp [h]
      · omega
      · omega
    have hgroupValue : ¬(o.overflow.code = 0 ∧ 63 < o.overflow.value) := by omega
    have hexternalValue : ¬(o.overflow.code = 1 ∧ (o.overflow.value = 0 ∨ 65534 < o.overflow.value)) := by omega
    simp only [Nat.not_lt.mpr, *, or_self] at hrange
  have hnoSet {set : Option Nat} (h : ∀ n, set = some n → n ≤ 31) : badSet set = false :=
    Bool.eq_false_iff.2 fun hb => by
      obtain ⟨n, hn, hlt⟩ := badSet_iff.1 hb
      exact absurd (h n hn) (Nat.not_le.2 hlt)
  have hchecked := groupSet_inRange (s := s) hf hg (hnoSet hhome) (hnoSet hauto)
  rw [clamp_eq (by decide)] at hchecked
  refine ⟨fun hwrong => ?_, fun hconfigured hdepth hheld => ?_⟩
  · exact exec_groupSet_answers (a := .refused .wrongState) hr ht (by rw [hchecked, if_pos hwrong])
  · intro written done forced
    have hright : ¬((f.configured = false ∧ (s.group o.group).waiting ≠ []) ∨
        max 1 (min o.waitingDepth 16) < (s.group o.group).waiting.length) := by
      rintro (⟨hoff, hne⟩ | hlt)
      · exact hconfigured.elim (fun h => by simp [h] at hoff) hne
      · omega
    rw [if_neg hright] at hchecked
    have hdone {t : State} (h : applyGroup o f s = t) : done t :=
      exec_groupSet_answers (a := .ok) hr ht (by rw [hchecked, h])
    exact ⟨fun h => hdone (applyGroup_steady hheld h), fun ho hsf hs hw => hdone (applyGroup_forces hg ho hsf hs hw),
      fun ho hsf hs => hdone (applyGroup_releases hheld hg ho hsf hs)⟩

end Sys2Proof.Machine
end

section
/-! PROOF. The changes of a MEMBERS-SET: its checks, the lists it leaves, and the offer that a removal withdraws
(R24 to R26, R36). -/

namespace Sys2Proof.Machine

variable {s : State} {o : MembersSetOp} {e : MemberEntry} {c x g : Nat} {k : CallContext}

/-! ## Folds over a list -/

theorem foldl_fixed {α : Type} {f : State → α → State} {l : List α} (h : ∀ a ∈ l, f s a = s) : l.foldl f s = s := by
  induction l with
  | nil => rfl
  | cons a l ih =>
    rw [List.foldl_cons, h a (by simp)]
    exact ih fun b hb => h b (by simp [hb])

/-- A view that each change leaves as it is, a fold of them leaves as it is. -/
theorem view_foldl {α β : Type} {view : State → β} {f : State → α → State} (hv : ∀ t a, view (f t a) = view t)
    (l : List α) (s : State) : view (l.foldl f s) = view s := by
  induction l generalizing s with
  | nil => rfl
  | cons a l ih => rw [List.foldl_cons, ih, hv]

/-! ## The checks (R24) -/

/-- The values of a MEMBERS-SET lie within those listed. -/
abbrev MembersSetOp.InRange (o : MembersSetOp) : Prop :=
  o.group ≤ 63 ∧ ∀ e ∈ o.entries, e.ext ≤ 1023 ∧ (e.presence ≤ 3 ∨ e.presence = 255)

/-- The list fits the group, the pool and the extensions that join. -/
abbrev MembersSetOp.Fits (o : MembersSetOp) (s : State) : Prop :=
  o.entries.length ≤ 32 ∧
    ((List.range 64).map fun g => (s.group g).members.length).sum - (s.group o.group).members.length
      + o.entries.length ≤ 1024 ∧
    ∀ e ∈ o.entries, s.member? o.group e.ext = none → (s.ext e.ext).memberOf.length < 4

theorem membersSet_range : (decide (63 < o.group) || o.entries.any fun e => decide (1023 < e.ext) ||
    !presenceFits e.presence) = true ↔ ¬o.InRange := by
  rw [← not_iff_not, not_not]
  simp [MembersSetOp.InRange, presenceFits_iff]

theorem membersSet_fits : (decide (Config.membersPerGroup < (o.entries.map (·.ext)).length) ||
    decide (Config.poolSize < s.poolCount - (s.group o.group).members.length + (o.entries.map (·.ext)).length) ||
    (o.entries.map (·.ext)).any fun x => (s.member? o.group x).isNone &&
      decide (Config.membershipsPerExtension ≤ (s.ext x).memberOf.length)) = true ↔ ¬o.Fits s := by
  rw [← not_iff_not, not_not]
  simp only [MembersSetOp.Fits, State.poolCount, Bool.or_eq_true, decide_eq_true_eq, List.any_eq_true, List.mem_map,
    Bool.and_eq_true, Option.isNone_iff_eq_none, List.length_map, not_or, not_exists, not_and, Nat.not_lt, Nat.not_le,
    and_assoc, forall_exists_index, and_imp, forall_apply_eq_imp_iff₂]
  rfl

/-- The checks of a MEMBERS-SET in their order. -/
theorem membersSet_checks (o : MembersSetOp) (s : State) :
    membersSet o s =
      if ¬o.InRange then (s, .refused .outOfRange)
      else if (s.group o.group).commitInProgress = true then (s, .refused .commitPending)
      else if ¬(o.entries.map (·.ext)).Nodup then (s, .refused .duplicate)
      else if ¬o.Fits s then (s, .refused .limit)
      else (applyMembers o s, .ok) := by
  have hrepeats : (!noRepeats (o.entries.map (·.ext))) = true ↔ ¬(o.entries.map (·.ext)).Nodup := by
    rw [Bool.not_eq_true', Bool.eq_false_iff, Ne, noRepeats_iff]
  simp only [membersSet, membersSet_range, hrepeats, membersSet_fits]

/-! ## The membership of an entry (R25, R36) -/

/-- The presence that an entry programs. -/
def MemberEntry.programmed (e : MemberEntry) : Presence := (readPresence e.presence).getD .signedOff

/-- The membership of an extension that joins. -/
def State.joiner (s : State) (g : Nat) (e : MemberEntry) : Membership :=
  { ext := e.ext, weight := max 1 (min e.weight 15), credit := 0, programmed := e.programmed
    effective := s.effectiveIn g e.programmed, staged := none, pending := false, idleTenths := 0 }

/-- The membership that an entry leaves: the one the extension had, or a new one. -/
def State.seated (s : State) (g : Nat) (e : MemberEntry) : Membership :=
  (((s.group g).members.find? fun m => m.ext = e.ext).map fun m =>
    { m with weight := max 1 (min e.weight 15), credit := 0 }).getD (s.joiner g e)

theorem join_eq (s : State) (g : Nat) (e : MemberEntry) :
    e.join s.override (s.group g).safety = s.joiner g e := by
  simp [MemberEntry.join, Membership.recompute, Membership.takeEffective, effectivePresence, State.joiner,
    State.effectiveIn, MemberEntry.programmed, clamp_eq]

theorem settle_eq (s : State) (g : Nat) (e : MemberEntry) :
    e.settle s.override (s.group g).safety (s.group g).members = s.seated g e := by
  have hfind : (s.group g).members.find? (fun m => decide (m.ext = e.ext)) =
      (s.group g).members.find? fun m => m.ext == e.ext := rfl
  rw [MemberEntry.settle, State.seated, hfind, join_eq]
  cases (s.group g).members.find? fun m => m.ext == e.ext with
  | none => rfl
  | some m => simp [clamp_eq]

@[simp] theorem ext_seated (s : State) (g : Nat) (e : MemberEntry) : (s.seated g e).ext = e.ext := by
  rw [State.seated]
  cases hm : (s.group g).members.find? fun m => decide (m.ext = e.ext) with
  | none => rfl
  | some m => simpa using List.find?_some hm

theorem seated_new (h : e.ext ∉ (s.group g).members.map (·.ext)) : s.seated g e = s.joiner g e := by
  have hnone : (s.group g).members.find? (fun m => decide (m.ext = e.ext)) = none := by simpa using h
  rw [State.seated, hnone, Option.map_none, Option.getD_none]

/-! ## The lists that follow the members (R25) -/

/-- The extensions that a MEMBERS-SET removes, in the order of the old list. -/
def MembersSetOp.gone (o : MembersSetOp) (s : State) : List Nat :=
  ((s.group o.group).members.map (·.ext)).filter fun x => x ∉ o.entries.map (·.ext)

/-- The extensions that join, in the order of the new list. -/
def MembersSetOp.added (o : MembersSetOp) (s : State) : List Nat :=
  (o.entries.map (·.ext)).filter fun x => x ∉ (s.group o.group).members.map (·.ext)

/-- Extensions leave a group's list. -/
def leaveGroup (g : Nat) (xs : List Nat) (s : State) : State :=
  xs.foldl (fun s x => s.modExt x fun r => { r with memberOf := r.memberOf.filter (· != g) }) s

/-- Extensions join a group's list. -/
def joinGroup (g : Nat) (xs : List Nat) (s : State) : State :=
  xs.foldl (fun s x => s.modExt x fun r => { r with memberOf := r.memberOf ++ [g] }) s

/-- The new members with the lists of the extensions that follow them. -/
def MembersSetOp.listed (o : MembersSetOp) (s : State) : State :=
  joinGroup o.group (o.added s) (leaveGroup o.group (o.gone s)
    (s.modGroup o.group fun r => { r with cursor := 0, members := o.entries.map (s.seated o.group) }))

/-- A view that no extension's list of groups decides on reads the new members alone. -/
theorem view_listed {α : Type} {view : State → α} (o : MembersSetOp) (s : State)
    (hv : ∀ t x (f : List Nat → List Nat), view (t.modExt x fun r => { r with memberOf := f r.memberOf }) = view t) :
    view (o.listed s) =
      view (s.modGroup o.group fun r => { r with cursor := 0, members := o.entries.map (s.seated o.group) }) := by
  rw [MembersSetOp.listed, joinGroup, view_foldl fun t x => hv t x (· ++ [o.group]), leaveGroup,
    view_foldl fun t x => hv t x (List.filter (· != o.group))]

@[simp] theorem call_listed (o : MembersSetOp) (s : State) (c : Nat) : (o.listed s).call? c = s.call? c :=
  view_listed (view := fun s => s.call? c) o s fun _ _ _ => rfl

@[simp] theorem override_listed (o : MembersSetOp) (s : State) : (o.listed s).override = s.override :=
  view_listed (view := State.override) o s fun _ _ _ => rfl

@[simp] theorem ringing_listed (o : MembersSetOp) (s : State) (x : Nat) :
    ((o.listed s).ext x).ringing = (s.ext x).ringing :=
  view_listed (view := fun s => (s.ext x).ringing) o s fun t y _ =>
    ext_modExt_keeps (p := ExtRecord.ringing) (by simp) t y x

@[simp] theorem line_listed (o : MembersSetOp) (s : State) (x : Nat) :
    ((o.listed s).ext x).line = (s.ext x).line :=
  view_listed (view := fun s => (s.ext x).line) o s fun t y _ => line_modExt (by simp) t y x

theorem offerAt_listed (o : MembersSetOp) (s : State) (g x : Nat) : (o.listed s).offerAt g x = s.offerAt g x := by
  simp only [State.offerAt, ringing_listed, call_listed]

theorem group_listed (hg : o.group ≤ 63) : (o.listed s).group o.group =
    { s.group o.group with cursor := 0, members := o.entries.map (s.seated o.group) } :=
  (view_listed (view := fun t => t.group o.group) o s fun _ _ _ => rfl).trans
    (group_modGroup_same _ (Nat.lt_succ_of_le hg))

theorem memberOf_leaveGroup (g : Nat) (xs : List Nat) (s : State) (x : Nat) :
    ((leaveGroup g xs s).ext x).memberOf =
      if x ∈ xs then (s.ext x).memberOf.filter (· != g) else (s.ext x).memberOf := by
  induction xs generalizing s with
  | nil => rfl
  | cons y xs ih =>
    have hfirst : ((s.modExt y fun r => { r with memberOf := r.memberOf.filter (· != g) }).ext x).memberOf =
        if y = x then (s.ext x).memberOf.filter (· != g) else (s.ext x).memberOf := by
      by_cases hyx : y = x
      · by_cases hx : x < 1024
        · simp [hyx, ext_modExt_same _ hx]
        · have hnone (t : State) : t.ext x = ExtRecord.atReset := tabGet_ge _ _ (Nat.not_lt.mp hx)
          simp [hyx, hnone, ExtRecord.atReset]
      · rw [ext_modExt_other _ hyx, if_neg hyx]
    rw [leaveGroup, List.foldl_cons, ← leaveGroup, ih, hfirst]
    by_cases hyx : y = x
    · by_cases hx : x ∈ xs <;> simp [hyx, hx]
    · simp [hyx, Ne.symm hyx]

theorem memberOf_joinGroup {xs : List Nat} (h : x ∉ xs) (g : Nat) (s : State) :
    ((joinGroup g xs s).ext x).memberOf = (s.ext x).memberOf := by
  induction xs generalizing s with
  | nil => rfl
  | cons y xs ih =>
    obtain ⟨hxy, hxs⟩ := not_or.1 (mt List.mem_cons.2 h)
    rw [joinGroup, List.foldl_cons, ← joinGroup, ih hxs, ext_modExt_other _ (Ne.symm hxy)]

/-- A removed extension lists the group no longer. -/
theorem memberOf_listed (h : x ∈ o.gone s) :
    ((o.listed s).ext x).memberOf = (s.ext x).memberOf.filter (· != o.group) := by
  have hnew : x ∉ o.added s := fun hx =>
    of_decide_eq_true (List.mem_filter.1 hx).2 (List.mem_filter.1 h).1
  rw [MembersSetOp.listed, memberOf_joinGroup hnew, memberOf_leaveGroup, if_pos h]
  rfl

/-- The list is replaced, and the group's calls forget the removed extensions (R25). -/
theorem replaceMembers_eq (hg : o.group ≤ 63) : replaceMembers o (o.gone s) (o.added s) s =
    (s.group o.group).waiting.foldl (fun t c => t.modCall c fun k =>
      { k with tried := k.tried.filter fun y => y ∉ o.gone s }) (o.listed s) := by
  have hwaiting : ((o.listed s).group o.group).waiting = (s.group o.group).waiting := by rw [group_listed hg]
  have hforget : (fun y => !(o.gone s).contains y) = fun y => decide (y ∉ o.gone s) := by funext y; simp
  rw [← hwaiting]
  simp only [replaceMembers, settle_eq, hforget]
  rfl

/-! ## The members that join (R36) -/

theorem joined_listed (hg : o.group ≤ 63) :
    ((o.listed s).group o.group).members.filter (fun m => (o.added s).contains m.ext) =
      (o.entries.filter fun e => e.ext ∈ o.added s).map (s.joiner o.group) := by
  have hext : ((fun m : Membership => (o.added s).contains m.ext) ∘ s.seated o.group) =
      fun e => decide (e.ext ∈ o.added s) := funext fun e => by simp
  rw [group_listed hg, List.filter_map, hext]
  refine List.map_congr_left fun e he => seated_new ?_
  simpa using (List.mem_filter.1 (of_decide_eq_true (List.mem_filter.1 he).2)).2

theorem length_forced_joiners (l : List MemberEntry) (s : State) (g : Nat) :
    ((l.map (s.joiner g)).filter fun m => m.programmed ≠ .available).length =
      (l.filter fun e => e.programmed ≠ .available).length := by
  rw [List.filter_map, List.length_map]
  rfl

/-! ## The ring that a removal withdraws (R26, R51) -/

theorem offerAt_unmarked (h : (s.ext x).ringing = none) : s.offerAt g x = none := by simp only [State.offerAt, h]

theorem offerAt_marked (hx : (s.ext x).ringing = some c) (hc : s.call? c = some k) (hs : k.state = .waiting)
    (hg : k.group = some g) : s.offerAt g x = some c := by
  simp [State.offerAt, hx, hc, hs, hg]

theorem ringing_clearMark (x c : Nat) (reason : StopReason) (s : State) :
    ((clearMark x c (some reason) s).ext x).ringing = none := by
  rw [clearMark_stop, ext_of_direct, ext_of_modCall, ext_modExt]
  split
  · rfl
  · rename_i hx
    rw [State.ext, tabGet_ge _ _ (by omega)]
    rfl

/-- An extension that is removed in several places loses its ring once. -/
theorem loseOffers_sole {xs : List Nat} (hne : xs ≠ []) (hxs : ∀ y ∈ xs, y = x) (ho : s.offerAt g x = some c) :
    xs.foldl (fun s x => loseOffer g x s) s = clearMark x c (some .withdrawn) s := by
  obtain ⟨y, ys, rfl⟩ := List.exists_cons_of_ne_nil hne
  obtain ⟨rfl, hys⟩ := List.forall_mem_cons.1 hxs
  have hfirst : loseOffer g y s = clearMark y c (some .withdrawn) s := by simp only [loseOffer, ho]
  rw [List.foldl_cons, hfirst]
  refine foldl_fixed fun z hz => ?_
  rw [hys z hz, loseOffer, offerAt_unmarked (ringing_clearMark y c .withdrawn s)]

theorem advanceUnrung_rings (hc : s.call? c = some k) (h : k.ringing ≠ []) : advanceUnrung g c s = s := by
  simp [advanceUnrung, hc, h]

theorem advanceUnrung_silent (hc : s.call? c = some k) (h : k.ringing = []) :
    advanceUnrung g c s = advance g c (s.modCall c fun k => { k with noAnswerDue := none }) := by
  simp [advanceUnrung, hc, h]

/-- A group none of whose members is IDLE has nobody to ring (R43, R57). -/
theorem service_unreachable (h : ∀ m ∈ (s.group g).members, (s.ext m.ext).line ≠ .idle) : service g s = s := by
  have hoffer (c : Nat) : offerCall g c s = s := by
    rw [offerCall]
    split
    · rfl
    · rw [eligible_nil fun m hm => .inl (h m hm)]
      rfl
  rw [service]
  split
  · exact foldl_fixed fun c _ => by rw [hoffer, ite_self]
  · rfl

end Sys2Proof.Machine
end

section
/-! PROOF. MEMBERS-SET (R24 to R26, R36). -/

namespace Sys2Proof.Machine

variable {s t : State} {o : MembersSetOp} {c x : Nat} {k : CallContext}

/-- One OVERRIDE-ALTERED carries the number of those that join a group under the override with another programmed
presence than AVAILABLE (R36). -/
def alterJoined (g : Nat) (joined : List MemberEntry) (s t : State) : State :=
  let n := (joined.filter fun e => e.programmed ≠ .available).length
  if (s.override = true ∧ (s.group g).safety = true) ∧ n ≠ 0 then notify (.overrideAltered g n) t else t

@[simp] theorem group_alterJoined (g i : Nat) (joined : List MemberEntry) (s t : State) :
    (alterJoined g joined s t).group i = t.group i := by
  simp only [alterJoined]
  split <;> rfl

theorem gone_eq (o : MembersSetOp) (s : State) : ((s.group o.group).members.map (·.ext)).filter
    (fun x => !(o.entries.map (·.ext)).contains x) = o.gone s :=
  List.filter_congr fun x _ => by simp only [List.contains_eq_mem, decide_not]

theorem added_eq (o : MembersSetOp) (s : State) : (o.entries.map (·.ext)).filter
    (fun x => !((s.group o.group).members.map (·.ext)).contains x) = o.added s :=
  List.filter_congr fun x _ => by simp only [List.contains_eq_mem, decide_not]

/-- A removal from a group without waiting calls withdraws no ring (R25, R36). -/
theorem applyMembers_silent (hg : o.group ≤ 63) (hw : (s.group o.group).waiting = [])
    (hr : ∀ x ∈ o.gone s, (s.ext x).ringing = none) :
    applyMembers o s = alterJoined o.group (o.entries.filter fun e => e.ext ∈ o.added s) s (o.listed s) := by
  have hreplaced : replaceMembers o (o.gone s) (o.added s) s = o.listed s := by
    rw [replaceMembers_eq hg, hw, List.foldl_nil]
  have hlosing : (o.gone s).filter (fun x => ((o.listed s).offerAt o.group x).isSome) = [] :=
    List.filter_eq_nil_iff.2 fun x hx => by simp [offerAt_listed, offerAt_unmarked (hr x hx)]
  have hwaiting : ((o.listed s).group o.group).waiting = [] := by rw [group_listed hg, hw]
  have hsafety : ((o.listed s).group o.group).safety = (s.group o.group).safety := by rw [group_listed hg]
  have hservice (l : List MemberEntry) : service o.group (alterJoined o.group l s (o.listed s)) =
      alterJoined o.group l s (o.listed s) := service_noWaiting (by rw [group_alterJoined, hwaiting])
  have haltered (n : Nat) : (s.override && (s.group o.group).safety && decide (n ≠ 0)) = true ↔
      (s.override = true ∧ (s.group o.group).safety = true) ∧ n ≠ 0 := by simp
  simp only [applyMembers, gone_eq, added_eq, hreplaced, hlosing, List.filterMap_nil, List.foldl_nil, hwaiting,
    List.filter_nil, joined_listed hg, length_forced_joiners, override_listed, hsafety, haltered]
  simp only [alterJoined] at hservice
  simp only [hservice, ite_self]
  rfl

/-! ## A removal that withdraws the ring of the group's only call (R26) -/

/-- The removed extension that the group's only call rings. -/
structure MembersSetOp.Withdraws (o : MembersSetOp) (s : State) (c x : Nat) (k : CallContext) : Prop where
  inTable : o.group ≤ 63
  override : s.override = false
  waiting : (s.group o.group).waiting = [c]
  call : s.call? c = some k
  state : k.state = .waiting
  group : k.group = some o.group
  gone : x ∈ o.gone s
  ringing : (s.ext x).ringing = some c
  memberOf : (s.ext x).memberOf = [o.group]
  others : ∀ y ∈ o.gone s, y ≠ x → (s.ext y).ringing = none
  lines : ∀ m ∈ o.entries.map (s.seated o.group), (s.ext m.ext).line ≠ .idle

/-- The new members and the call that has lost its ring. -/
def MembersSetOp.freed (o : MembersSetOp) (s : State) (c x : Nat) : State :=
  direct (.stopRing x c .withdrawn)
    (((o.listed s).modExt x fun r => { r with ringing := none }).modCall c fun k =>
      { k with ringing := k.ringing.filter (· != x), tried := k.tried.filter fun y => y ∉ o.gone s })

theorem group_freed (o : MembersSetOp) (s : State) (c x g : Nat) :
    (o.freed s c x).group g = (o.listed s).group g := rfl

theorem line_freed (o : MembersSetOp) (s : State) (c x y : Nat) :
    ((o.freed s c x).ext y).line = (s.ext y).line := by
  simp [MembersSetOp.freed, line_modExt]

theorem memberOf_freed (h : o.Withdraws s c x k) : ((o.freed s c x).ext x).memberOf = [] := by
  simp [MembersSetOp.freed, memberOf_modExt, memberOf_listed h.gone, h.memberOf]

theorem call_freed (h : o.Withdraws s c x k) : (o.freed s c x).call? c = some { k with
    ringing := k.ringing.filter (· != x), tried := k.tried.filter fun y => y ∉ o.gone s } := by
  simp [MembersSetOp.freed, call?_modCall, h.call]

/-- The call of a withdrawn ring advances before anything else hears of the removal (R26). -/
theorem applyMembers_withdraws (h : o.Withdraws s c x k) (hadvance : advanceUnrung o.group c (o.freed s c x) = t)
    (hoverride : t.override = s.override) (hgroup : t.group o.group = (o.listed s).group o.group)
    (hline : ∀ y, (t.ext y).line = (s.ext y).line) (hmember : (t.ext x).memberOf = []) : applyMembers o s = t := by
  let u : State := (o.listed s).modCall c fun k => { k with tried := k.tried.filter fun y => y ∉ o.gone s }
  have hreplaced : replaceMembers o (o.gone s) (o.added s) s = u := by
    rw [replaceMembers_eq h.inTable, h.waiting, List.foldl_cons, List.foldl_nil]
  have hoffer : u.offerAt o.group x = some c :=
    offerAt_marked (by simpa [u] using h.ringing) (call?_modCall_same ((call_listed o s c).trans h.call) fun _ => rfl)
      h.state h.group
  have hothers : ∀ y ∈ o.gone s, y ≠ x → u.offerAt o.group y = none := fun y hy hyx =>
    offerAt_unmarked (by simpa [u] using h.others y hy hyx)
  obtain ⟨losing, hlosing⟩ : ∃ l, l = (o.gone s).filter fun x => (u.offerAt o.group x).isSome := ⟨_, rfl⟩
  have hx : x ∈ losing := hlosing ▸ List.mem_filter.2 ⟨h.gone, by rw [hoffer]; rfl⟩
  have hsole : ∀ y ∈ losing, y = x := fun y hy => by
    by_contra hyx
    obtain ⟨hgone, hsome⟩ := List.mem_filter.1 (hlosing ▸ hy)
    simp [hothers y hgone hyx] at hsome
  have hfreed : losing.foldl (fun s x => loseOffer o.group x s) u = o.freed s c x := by
    rw [loseOffers_sole (List.ne_nil_of_mem hx) hsole hoffer, clearMark_stop, MembersSetOp.freed]
    simp only [u, modExt_modCall, modCall_modCall, implies_true]
  have hcalls : (losing.filterMap (u.offerAt o.group)).contains c = true :=
    List.contains_iff_mem.2 (List.mem_filterMap.2 ⟨x, hx, hoffer⟩)
  have hwaiting : ((o.freed s c x).group o.group).waiting = [c] := by
    rw [group_freed, group_listed h.inTable, h.waiting]
  have hservice : service o.group t = t := service_unreachable (by
    rw [hgroup, group_listed h.inTable]
    exact fun m hm => hline m.ext ▸ h.lines m hm)
  simp only [applyMembers, gone_eq, added_eq, hreplaced, ← hlosing, hfreed, hwaiting, List.filter_cons, hcalls,
    List.filter_nil, if_true, List.foldl_cons, List.foldl_nil, hadvance, hoverride, h.override, Bool.false_and,
    Bool.false_eq_true, if_false, hservice, ite_self]
  exact arbitrateAll_same fun y hy => arbitrate_noGroup (hsole y hy ▸ hmember)

/-- A call that rings another extension keeps its offer. -/
theorem applyMembers_keepsOffer (h : o.Withdraws s c x k) (hr : ∃ y ∈ k.ringing, y ≠ x) :
    applyMembers o s = o.freed s c x := by
  obtain ⟨y, hy, hyx⟩ := hr
  refine applyMembers_withdraws h (advanceUnrung_rings (call_freed h) ?_) (override_listed o s) rfl (line_freed o s c x)
    (memberOf_freed h)
  exact List.ne_nil_of_mem (List.mem_filter.2 ⟨hy, by simpa using hyx⟩)

/-- A call that rings no other extension is QUEUED (R52, R54). -/
theorem applyMembers_queues (h : o.Withdraws s c x k) (hr : k.ringing = [x])
    (hu : ∃ m ∈ o.entries.map (s.seated o.group), (m.effective = .available ∨ m.effective = .standby) ∧
      m.ext ∉ k.tried) :
    applyMembers o s = offerRecord { TraceRecord.offered .wait k.priority with call := some c, group := some o.group }
      (direct (.waitHold c) ((o.freed s c x).modCall c fun k => { k with noAnswerDue := none })) := by
  have hmembers : ((o.freed s c x).group o.group).members = o.entries.map (s.seated o.group) := by
    rw [group_freed, group_listed h.inTable]
  have hreach : ∀ m ∈ (((o.freed s c x).modCall c fun k => { k with noAnswerDue := none }).group o.group).members,
      (((o.freed s c x).modCall c fun k => { k with noAnswerDue := none }).ext m.ext).line ≠ .idle ∨
        m.ext ∈ k.tried.filter fun y => y ∉ o.gone s := by
    rw [group_of_modCall, hmembers]
    exact fun m hm => .inl (by simpa [line_freed] using h.lines m hm)
  have hqueued := advance_queues (g := o.group)
    (call?_modCall_same (f := fun k => { k with noAnswerDue := none }) (call_freed h) fun _ => rfl) hreach (by
      obtain ⟨m, hm, hoffered, huntried⟩ := hu
      rw [group_of_modCall, hmembers]
      exact ⟨m, hm, hoffered, fun hmem => huntried (List.mem_filter.1 hmem).1⟩)
  refine applyMembers_withdraws h ((advanceUnrung_silent (call_freed h) (by simp [hr])).trans hqueued) ?_ ?_ ?_ ?_
  · rw [offerRecord_eq]
    exact override_listed o s
  · simp [group_freed]
  · simp [line_freed]
  · simpa using memberOf_freed h

/-- Settles O25: the checks in their order, then the lists, and the ring that the removal withdraws. -/
theorem membersSetFillsGroup : Obligations.MembersSetFillsGroup := by
  intro tag p o s hr ht range fits forcing programmed join altered
  have hchecks := membersSet_checks o s
  refine ⟨fun hrange => ?_, fun hrange hcommit => ?_, fun hrange hcommit hn => ?_, fun hrange hcommit hn hfits => ?_,
    fun hrange hcommit hn hfits hm hw => ?_, fun hrange hcommit hn hfits => ?_⟩
  · exact exec_membersSet_answers (a := .refused .outOfRange) hr ht (by rw [hchecks, if_pos hrange])
  all_goals rw [if_neg (not_not.2 hrange)] at hchecks
  · exact exec_membersSet_answers (a := .refused .commitPending) hr ht (by rw [hchecks, if_pos hcommit])
  all_goals rw [if_neg (by simp [hcommit])] at hchecks
  · exact exec_membersSet_answers (a := .refused .duplicate) hr ht (by rw [hchecks, if_pos hn])
  all_goals rw [if_neg (not_not.2 hn)] at hchecks
  · exact exec_membersSet_answers (a := .refused .limit) hr ht (by rw [hchecks, if_pos hfits])
  all_goals
    rw [if_neg (not_not.2 hfits)] at hchecks
    have htaken {t : State} (ha : applyMembers o s = t) :
        exec (.membersSet tag p) s = .next (answered ⟨0x0D, tag, p⟩ .ok .nothing t) :=
      exec_membersSet_answers (a := .ok) hr ht (by rw [hchecks, ha])
  · have hgone : o.gone s = [] := by rw [MembersSetOp.gone, hm]; rfl
    have hadded : o.added s = o.entries.map (·.ext) := by simp [MembersSetOp.added, hm]
    have hjoined : (o.entries.filter fun e => e.ext ∈ o.added s) = o.entries :=
      List.filter_eq_self.2 fun e he => decide_eq_true (hadded ▸ List.mem_map.2 ⟨e, he, rfl⟩)
    have hseated : o.entries.map (s.seated o.group) = o.entries.map (s.joiner o.group) :=
      List.map_congr_left fun e _ => seated_new (by simp [hm])
    refine htaken ((applyMembers_silent hrange.1 hw (by simp [hgone])).trans ?_)
    rw [hjoined, MembersSetOp.listed, hgone, hadded, hseated, joinGroup, List.foldl_map]
    rfl
  · intro old gone added settled listed
    refine ⟨fun hw hsilent => htaken (applyMembers_silent hrange.1 hw hsilent),
      fun c x k ho hw hc hs hg hx hring hmem hothers hlines => ?_⟩
    have h : o.Withdraws s c x k := ⟨hrange.1, ho, hw, hc, hs, hg, hx, hring, hmem, hothers, hlines⟩
    exact ⟨fun hr => htaken (applyMembers_keepsOffer h hr), fun hr hu => htaken (applyMembers_queues h hr hu)⟩

end Sys2Proof.Machine
end

section
/-! PROOF. The paging parameters, the zone sets, the pickup groups and the fallback code: no shared operation touches
them, and each of the four requests that write one of them leaves the other three (R63, R71, R108, R109). -/

namespace Sys2Proof.Machine

/-- The paging parameters, the zone sets, the pickup groups and the fallback code (R63, R71, R108, R109). -/
abbrev SettingValues := PagingParams × Vector ZoneSet 32 × Vector PickupGroup 128 × Option Nat

/-- The values that the four setting requests write. -/
abbrev State.settings (s : State) : SettingValues := (s.paging, s.zoneSets, s.pickups, s.fallback)

section
variable {α : Type} (view : SettingValues → α) (v : α)

/-- Whatever is read of the settings, no primitive change of the blocks changes it. -/
theorem settings_steady : Steady fun t => view t.settings = v where
  modExt _ _ _ h := h
  modGroup _ _ _ h := h
  modOrbit _ _ _ h := h
  modCall _ _ _ h := h
  freeCall _ _ h := h
  setPages _ _ h := h
  setIds _ _ _ h := h
  modZone _ _ _ h := h
  modAmp _ _ _ h := h
  limit _ _ h := h
  modInput _ _ _ h := h
  emit _ _ h := h
  keep _ _ h := h
  freezeTrace _ h := h
  setOverride _ _ h := h
  setCovered _ _ h := h
  setExchange _ _ _ h := h

theorem settings_elapse (ms : Nat) (s : State) : (elapse ms s).settings = s.settings := by
  unfold elapse
  dsimp only
  split <;> rfl

theorem settings_loose : Loose fun t => view t.settings = v where
  toSteady := settings_steady view v
  setLink _ _ _ h := h
  setMap _ _ _ h := h
  setTrace _ _ _ h := h
  setLevel _ _ _ _ h := h
  addCall _ _ _ h := h
  setSupply _ _ h := h
  elapse ms s h := (congrArg view (settings_elapse ms s)).trans h

end

/-! ## The four requests and the completion of a write -/

theorem fallbackSet_keeps (code : Option Nat) (s : State) :
    (fallbackSet code s).1.paging = s.paging ∧ (fallbackSet code s).1.zoneSets = s.zoneSets ∧
      (fallbackSet code s).1.pickups = s.pickups := by
  unfold fallbackSet
  split <;> exact ⟨rfl, rfl, rfl⟩

theorem pickgroupSet_keeps (o : PickgroupSetOp) (s : State) :
    (pickgroupSet o s).1.paging = s.paging ∧ (pickgroupSet o s).1.zoneSets = s.zoneSets ∧
      (pickgroupSet o s).1.fallback = s.fallback := by
  unfold pickgroupSet
  repeat' split
  all_goals exact ⟨rfl, rfl, rfl⟩

/-- The groups that a ZONESET-SET releases are serviced, which leaves the other settings alone (R69). -/
theorem zonesetSet_keeps (o : ZoneSetSetOp) (s : State) :
    (zonesetSet o s).1.paging = s.paging ∧ (zonesetSet o s).1.pickups = s.pickups ∧
      (zonesetSet o s).1.fallback = s.fallback := by
  unfold zonesetSet
  split
  · exact ⟨rfl, rfl, rfl⟩
  · have hkeeps := releasingHolds_steady (s := s)
      (settings_steady (fun v => (v.1, v.2.2)) (s.paging, s.pickups, s.fallback))
      (f := fun s => { s with zoneSets := tabModify s.zoneSets o.number fun _ => o.zones }) rfl
    simpa only [Prod.mk.injEq] using hkeeps

theorem pagingSet_keeps (o : PagingSetOp) (s : State) :
    (pagingSet o s).1.zoneSets = s.zoneSets ∧ (pagingSet o s).1.pickups = s.pickups ∧
      (pagingSet o s).1.fallback = s.fallback := ⟨rfl, rfl, rfl⟩

/-- A property that survives every change of the map survives a write that verified (R169). -/
theorem verified_steady {P : State → Prop} (hP : Steady P)
    (hmap : ∀ (t : State) (m : MapUnit), P t → P { t with map := m }) (w : MapWriting) {s : State} (h : P s) : P (verified w s) := by
  have hdone := notify_steady hP (.mapDone true) (hmap s { s.map with
    store := .copy w.contents (crc16 w.contents.bytes), copy := w.contents, status := .valid, writing := none } h)
  have hzones := ite_steady (c := s.map.copy.installed = w.contents.installed) hdone
    (installedSetChange_steady hP s.map.copy.installed hdone)
  exact startExchange_steady hP (releasingHolds_steady hP
    (ite_steady (applyExclusion_steady hP (hmap _ _ hzones)) hzones))

/-- What every setting request among the commands leaves as it is, each command but a start-up leaves as it is. -/
theorem exec_keeps_settings {α : Type} (view : SettingValues → α)
    {c : Instr} {s t : State} (he : exec c s = .next t) (hstart : c.startsUp = false)
    (hfallback : ∀ tag p, c = .fallbackSet tag p → ∀ o s, view (fallbackSet o s).1.settings = view s.settings)
    (hpickgroup : ∀ tag p, c = .pickgroupSet tag p → ∀ o s, view (pickgroupSet o s).1.settings = view s.settings)
    (hzoneset : ∀ tag p, c = .zonesetSet tag p → ∀ o s, view (zonesetSet o s).1.settings = view s.settings)
    (hpaging : ∀ tag p, c = .pagingSet tag p → ∀ o s, view (pagingSet o s).1.settings = view s.settings) :
    view t.settings = view s.settings := by
  have hL := settings_loose view (view s.settings)
  by_cases hc : Instr.keepsLoose c
  · exact exec_loose hL c hc he rfl
  have done : ∀ {u : State}, view u.settings = view s.settings →
      (Host.Outcome.next u : Host.Outcome State Fault Refusal) = .next t → view t.settings = view s.settings := by
    intro u hu hut; injection hut with hut; exact hut ▸ hu
  cases c with
  | powerOn _ => cases hstart
  | pinReset _ => cases hstart
  | linkReset _ => cases hstart
  | fallbackSet tag p =>
    exact done (takeKind_loose hL _ _ _ _ (fun o s h => (hfallback tag p rfl o s).trans h) rfl) he
  | pickgroupSet tag p =>
    exact done (takeKind_loose hL _ _ _ _ (fun o s h => (hpickgroup tag p rfl o s).trans h) rfl) he
  | zonesetSet tag p =>
    exact done (takeKind_loose hL _ _ _ _ (fun o s h => (hzoneset tag p rfl o s).trans h) rfl) he
  | pagingSet tag p =>
    exact done (takeKind_loose hL _ _ _ _ (fun o s h => (hpaging tag p rfl o s).trans h) rfl) he
  | mapWriteComplete verifies =>
    refine done (whenRunning_loose (P := fun t => view t.settings = view s.settings) (fun u h => ?_) rfl) he
    split
    · exact h
    · exact atExpiry_loose hL _ (fun u h => ite_steady (P := fun t => view t.settings = view s.settings)
        (verified_steady hL.toSteady (fun _ _ h => h) _ h) (unverified_loose hL h)) h
  | _ => exact absurd trivial hc

/-- Settles O6: each setting survives every command but a start-up and the one request that writes it. -/
theorem settingsChangeBySettersOnly : Obligations.SettingsChangeBySettersOnly := by
  intro c s t he hstart
  refine ⟨fun hne => ?_, fun hne => ?_, fun hne => ?_, fun hne => ?_⟩
  · exact exec_keeps_settings (fun v => v.1) he hstart (fun _ _ _ o s => (fallbackSet_keeps o s).1)
      (fun _ _ _ o s => (pickgroupSet_keeps o s).1) (fun _ _ _ o s => (zonesetSet_keeps o s).1)
      fun tag p hc => absurd hc (hne tag p)
  · exact exec_keeps_settings (fun v => v.2.1) he hstart (fun _ _ _ o s => (fallbackSet_keeps o s).2.1)
      (fun _ _ _ o s => (pickgroupSet_keeps o s).2.1) (fun tag p hc => absurd hc (hne tag p))
      fun _ _ _ o s => (pagingSet_keeps o s).1
  · exact exec_keeps_settings (fun v => v.2.2.1) he hstart (fun _ _ _ o s => (fallbackSet_keeps o s).2.2)
      (fun tag p hc => absurd hc (hne tag p)) (fun _ _ _ o s => (zonesetSet_keeps o s).2.1)
      fun _ _ _ o s => (pagingSet_keeps o s).2.1
  · exact exec_keeps_settings (fun v => v.2.2.2) he hstart (fun tag p hc => absurd hc (hne tag p))
      (fun _ _ _ o s => (pickgroupSet_keeps o s).2.2) (fun _ _ _ o s => (zonesetSet_keeps o s).2.2)
      fun _ _ _ o s => (pagingSet_keeps o s).2.2

end Sys2Proof.Machine
end

section
/-! PROOF. AUTO_PAGE_DUE: the point it waits for, its refusal, and a page that no zone lets start (R66, R67, R111,
R120). -/

namespace Sys2Proof.Machine

variable {s : State} {g n since : Nat}

/-! ## The point of an auto-page (R66) -/

/-- The point of the threshold and the re-arm time of a group that waits for an auto-page (R66). -/
abbrev State.duePoint (s : State) (g since : Nat) : Nat := max (s.group g).rearm (since + (s.group g).autoThreshold)

theorem autoPagePoint_waiting (hcfg : (s.group g).configured = true) (hlive : (s.group g).liveAutoPage = none)
    (hset : (s.group g).autoSet = some n) (hold : s.oldestQueued g = some since)
    (hpoint : s.duePoint g since ≤ Config.timeBaseEnd) : s.autoPagePoint g = some (s.duePoint g since, n) := by
  simp only [State.autoPagePoint, hset, hold, hcfg, hlive, Option.isNone_none, decide_eq_true hpoint, Bool.and_self,
    if_true]

/-- An auto-page whose point has come is placed at once. -/
theorem exec_autoPageDue_places (hrun : s.running = true) (hpoint : s.autoPagePoint g = some (since, n))
    (hdue : 100 * since ≤ s.clock) : exec (.autoPageDue g) s = .next (placeAutoPage g n s) := by
  refine congrArg Host.Outcome.next ((whenRunning_running hrun _).trans ?_)
  simp only [hpoint, elapseTo_past hdue]

/-! ## The admission (R106, R111) -/

theorem nextPageId_noPages (h : s.pages = []) : s.nextPageId = s.lastPageId % 255 + 1 := by
  simp [State.nextPageId, State.page?, h, List.range_succ_eq_map (n := 254)]

/-- The page that a request without other pages becomes. -/
def State.firstPage (s : State) (q : PageRequest) : PageRecord :=
  { id := s.lastPageId % 255 + 1, alarm := q.alarm, cls := q.cls, source := q.source, requester := q.requester
    target := s.targetOf q.cls q.zones, mode := q.mode, suspendAllowed := q.suspendAllowed
    maxDuration := q.maxDuration, arrival := s.nextArrival, state := .queued, channel := none, audioSent := false
    durationStarted := false, durationDue := none, suspensionDue := none, endReason := none }

theorem mem_zonesOf {zs : ZoneSet} {z : Nat} (h : z ∈ zonesOf zs) : zoneIn zs z = true := (List.mem_filter.1 h).2

/-- A page of NORMAL class whose zones are all faulted cannot start (R120). -/
theorem canStart_faulted {p : PageRecord} (hcls : p.cls = .normal) (hmode : p.mode = .partially)
    (h : ∀ z, zoneIn p.target z = true → (s.amp z).fault ≠ none) : s.canStart p = false := by
  have hunusable : (zonesOf p.target).any (s.usable p) = false := by
    rw [List.any_eq_false]
    intro z hz
    have hfault : (s.amp z).fault.isNone = false := by simpa [Option.isSome_iff_ne_none] using h z (mem_zonesOf hz)
    simp [State.usable, State.usableBase, hfault, hcls]
  simp [State.canStart, hmode, hunusable]

/-- A pass with one waiting page that cannot start, over quiet zones, changes nothing. -/
theorem schedule_waits {p : PageRecord} (h : s.pages = [p]) (hstate : p.state = .queued) (hq : s.ZonesQuiet)
    (hstart : s.canStart p = false) : schedule s = s := by
  rw [schedule, passWalks_stop (by simp [h, hstart]), lateJoins_none (by simp [h, hstate]), signalCoverage,
    covers_none hq.idle, ← hq.uncovered]

/-- A NORMAL request of a hunt group whose zones are all faulted is admitted and stays QUEUED (R111, R120). -/
theorem admitPage_faulted {q : PageRequest} (hcls : q.cls = .normal) (hmode : q.mode = .partially)
    (hreq : q.requester = .hunt g) (hp : s.pages = []) (hq : s.ZonesQuiet)
    {zs : ZoneSet} (htarget : s.targetOf q.cls q.zones = zs) (h : ∀ z, zoneIn zs z = true → (s.amp z).fault ≠ none) :
    admitPage q s = direct (.pageState (s.lastPageId % 255 + 1) .queued none)
      { s.modGroup g fun r => { r with liveAutoPage := some (s.lastPageId % 255 + 1) } with
        lastPageId := s.lastPageId % 255 + 1, nextArrival := s.nextArrival + 1, pages := [s.firstPage q] } := by
  generalize hu : direct _ _ = u
  have hadmit : admitPage q s = schedule u := by
    simp only [admitPage, nextPageId_noPages hp, linkRequester, hreq, hp, List.nil_append, pageState, ← hu,
      State.firstPage]
    rfl
  have hpages : u.pages = [s.firstPage q] := by rw [← hu]; rfl
  have hamp : ∀ z, u.amp z = s.amp z := fun z => by rw [← hu]; rfl
  have hquiet : u.ZonesQuiet := by rw [← hu]; exact ⟨hq.idle, hq.uncovered⟩
  rw [hadmit]
  exact schedule_waits hpages rfl hquiet (canStart_faulted hcls hmode fun z hz => by
    rw [hamp]
    exact h z (htarget ▸ hz))

/-! ## The auto-page -/

theorem placeAutoPage_refused (h : s.targetOf .normal (s.zoneSet n) = 0) :
    placeAutoPage g n s = s.modGroup g fun r => { r with rearm := s.now + r.autoThreshold } := by
  simp [placeAutoPage, State.admissionRefusal, autoPageRequest, h]

theorem placeAutoPage_admitted (h : s.targetOf .normal (s.zoneSet n) ≠ 0) (hp : s.pages = []) (hc : s.covered = 0) :
    placeAutoPage g n s = admitPage (autoPageRequest g (s.zoneSet n)) s := by
  have hadmissible : s.admissionRefusal (autoPageRequest g (s.zoneSet n)) = none := by
    rw [State.admissionRefusal, autoPageRequest, if_neg h]
    simp [State.generalPages, hp, Config.generalRecords]
  simp only [placeAutoPage, hadmissible, releasingHolds_uncovered hc]

/-- Settles O36: the point has come, and the request is refused or becomes a page that no zone lets start. -/
theorem autoPageIsPlaced : Obligations.AutoPageIsPlaced := by
  intro g n since s hrun _ hcfg hlive hset hold hdue hclock
  dsimp only
  have hplaced := exec_autoPageDue_places hrun
    (autoPagePoint_waiting hcfg hlive hset hold (by simp only [State.duePoint, Config.timeBaseEnd]; omega)) hdue
  refine ⟨fun hz => ?_, fun hz hp hq hfault => ?_⟩
  · have hnow : s.now = s.clock / 100 := Nat.min_eq_left hclock
    rw [hplaced, placeAutoPage_refused hz, hnow]
  · have hadmitted := admitPage_faulted (q := autoPageRequest g (s.zoneSet n)) rfl rfl rfl hp hq rfl hfault
    rw [hplaced, placeAutoPage_admitted hz hp hq.uncovered, hadmitted]
    rfl

end Sys2Proof.Machine
end

section
/-! PROOF. Six setting requests: what they refuse and what they write (R63, R71, R72, R88, R108, R109). -/

namespace Sys2Proof.Machine

variable {s : State} {tag : Byte} {p : List Byte} {n : Nat}

/-! ## The values that the fields name -/

theorem readFlag_eq (n : Nat) : readFlag n = if 1 < n then none else some (decide (n = 1)) :=
  match n with
  | 0 => rfl
  | 1 => rfl
  | n + 2 => by simp [readFlag]

theorem readRecallMode_eq (n : Nat) :
    readRecallMode n = if 1 < n then none else some (if n = 0 then .parkerThenGroup else .groupOnly) :=
  match n with
  | 0 => rfl
  | 1 => rfl
  | n + 2 => by simp [readRecallMode]

/-- An optional number lies beyond a limit. -/
theorem beyond_iff {limit : Nat} {o : Option Nat} :
    (o.map fun n => decide (limit < n)).getD false = true ↔ ∃ n, o = some n ∧ limit < n := by
  cases o <;> simp

theorem clampInt_eq {low high : Int} (h : low ≤ high) (x : Int) : clampInt low high x = max low (min x high) := by
  simp only [clampInt]; omega

/-! ## The requests -/

theorem pickgroupSet_answers (o : PickgroupSetOp) (s : State) :
    pickgroupSet o s =
      if 4 < o.assist.length then (s, .refused .badLength)
      else if 1 < o.configured ∨ 1 < o.directedOpen ∨ 127 < o.group ∨ (∃ q ∈ o.assist, 127 < q) then
        (s, .refused .outOfRange)
      else if ¬o.assist.Nodup ∨ o.group ∈ o.assist then (s, .refused .duplicate)
      else ({ s with pickups := tabModify s.pickups o.group fun _ =>
        { configured := o.configured = 1, assist := o.assist, directedOpen := o.directedOpen = 1 } }, .ok) := by
  have hany : (o.assist.any fun q => decide (127 < q)) = true ↔ ∃ q ∈ o.assist, 127 < q := by simp
  have hrepeats : (!noRepeats o.assist || o.assist.contains o.group) = true ↔ ¬o.assist.Nodup ∨ o.group ∈ o.assist := by
    simp [← noRepeats_iff]
  simp only [pickgroupSet, readFlag_eq]
  by_cases hlength : 4 < o.assist.length
  · simp only [hlength, if_true]
  by_cases hc : 1 < o.configured
  · simp only [hlength, hc, if_true, if_false, true_or]
  by_cases hd : 1 < o.directedOpen
  · simp only [hlength, hc, hd, if_true, if_false, true_or, or_true]
  simp only [hlength, hc, hd, if_false, false_or, Bool.or_eq_true (decide _), decide_eq_true_eq, hany, hrepeats]

theorem extSet_answers (o : ExtSetOp) (s : State) :
    extSet o s = if 1023 < o.ext ∨ (∃ n, o.pickupGroup = some n ∧ 127 < n) then (s, .refused .outOfRange)
      else (s.modExt o.ext fun r => { r with pickupGroup := o.pickupGroup }, .ok) := by
  simp only [extSet, Bool.or_eq_true, decide_eq_true_eq, beyond_iff]

theorem orbitSet_answers (o : OrbitSetOp) (s : State) :
    orbitSet o s =
      if 31 < o.orbit ∨ 1 < o.recallMode ∨ (∃ n, o.recallGroup = some n ∧ 63 < n) ∨
          (∃ n, o.announceSet = some n ∧ 31 < n) then (s, .refused .outOfRange)
      else (s.modOrbit o.orbit fun r =>
        { r with
          parkTime := max 100 (min o.parkTime 6000), recallRingTime := max 100 (min o.recallRingTime 1200)
          recallMode := if o.recallMode = 0 then .parkerThenGroup else .groupOnly
          recallGroup := o.recallGroup, announceSet := o.announceSet }, .ok) := by
  have hpark : clamp 100 6000 o.parkTime = max 100 (min o.parkTime 6000) := clamp_eq (by decide) _
  have hring : clamp 100 1200 o.recallRingTime = max 100 (min o.recallRingTime 1200) := clamp_eq (by decide) _
  simp only [orbitSet, readRecallMode_eq, hpark, hring]
  by_cases hmode : 1 < o.recallMode
  · simp only [hmode, if_true, true_or, or_true]
  · simp only [hmode, if_false, false_or, Bool.or_eq_true, decide_eq_true_eq, beyond_iff, badSet_iff, or_assoc]

/-- While no group is held a change of a zone set releases none. -/
theorem zonesetSet_unheld (o : ZoneSetSetOp) (h : ∀ g, s.held g = false) :
    zonesetSet o s = if 31 < o.number then (s, .refused .outOfRange)
      else ({ s with zoneSets := tabModify s.zoneSets o.number fun _ => o.zones }, .ok) := by
  rw [zonesetSet, releasingHolds_keeps fun g hg => by simp [h g] at hg]

theorem pagingSet_answers (o : PagingSetOp) (s : State) :
    pagingSet o s = ({ s with paging :=
      { chime :=
          { emergency := min o.chime.emergency 30, urgent := min o.chime.urgent 30
            normal := min o.chime.normal 30, background := min o.chime.background 30 }
        hangTime := min o.hangTime 20, suspensionLimit := min o.suspensionLimit 600
        margin :=
          { emergency := max (-40) (min o.margin.emergency 60), urgent := max (-40) (min o.margin.urgent 60)
            normal := max (-40) (min o.margin.normal 60)
            background := max (-40) (min o.margin.background 60) } } }, .ok) := by
  have hmargin : ∀ x : Int, clampInt (-40) 60 x = max (-40) (min x 60) := clampInt_eq (by decide)
  simp [pagingSet, PerClass.each, clamp, hmargin]

/-- A request that is refused, or else changes the state, is answered so. -/
theorem answered_ite {f : Frame} {c : Prop} [Decidable c] {r : Reason} {t : State × Answer} :
    answered f (if c then (s, Answer.refused r) else t).2.verdict (if c then (s, Answer.refused r) else t).2.body
      (if c then (s, Answer.refused r) else t).1 =
    if c then refusedWith f r s else answered f t.2.verdict t.2.body t.1 := by
  split <;> rfl

/-- Settles O37: each request's checks in their order, then what it writes. -/
theorem settingRequestsWrite : Obligations.SettingRequestsWrite := by
  intro tag p s
  refine ⟨fun code hr ht => ?_, fun o hr ht => ?_, fun o hr ht => ?_, fun o hr ht => ?_, fun o hr ht hheld => ?_,
    fun o hr ht => ?_⟩ <;> refine congrArg Host.Outcome.next ((takeKind_takes ht hr _).trans ?_)
  · rw [fallbackSet, answered_ite]
    rfl
  · rw [pickgroupSet_answers, answered_ite, answered_ite, answered_ite]
    rfl
  · rw [extSet_answers, answered_ite]
    rfl
  · rw [orbitSet_answers, answered_ite]
    rfl
  · rw [zonesetSet_unheld o hheld, answered_ite]
    rfl
  · rw [pagingSet_answers]
    rfl

end Sys2Proof.Machine
end

section
/-! PROOF. What the disciplines choose, and the cursor and the credits that the choice leaves (R45 to R48). -/

namespace Sys2Proof.Machine

variable {e : List (Membership × Nat)} {r : GroupRecord} {cursor : Nat}

/-! ## The member with the most, the lowest position among equals -/

/-- The member that `firstBest` finds by the greatest measure, in a list by ascending position. -/
theorem firstBest_greatest {α : Type} [LinearOrder α] (f : Membership → α) (hne : e ≠ [])
    (hasc : e.Pairwise fun a b => a.2 < b.2) :
    ∃ m ∈ e, firstBest (fun a b => decide (f b.1 < f a.1)) e = some m ∧
      ∀ n ∈ e, f n.1 ≤ f m.1 ∧ (f n.1 = f m.1 → m.2 ≤ n.2) := by
  obtain ⟨m, hm⟩ := Option.ne_none_iff_exists'.1 (mt firstBest_eq_none.1 hne)
  refine ⟨m, firstBest_mem hm, hm, fun n hn => ?_⟩
  have hbest := firstBest_least (R := fun a b : Membership × Nat => f b.1 < f a.1 ∨ (f b.1 = f a.1 ∧ a.2 < b.2))
    (fun a b c hab hbc => ?_) (fun a b h => .inl (by simpa using h)) (fun a b hab h => ?_) hasc hm n hn
  · rcases hbest with rfl | hlt | ⟨heq, hpos⟩
    · exact ⟨le_rfl, fun _ => le_rfl⟩
    · exact ⟨hlt.le, fun heq => absurd heq hlt.ne⟩
    · exact ⟨heq.le, fun _ => hpos.le⟩
  · rcases hab with hab | ⟨hab, hpos⟩ <;> rcases hbc with hbc | ⟨hbc, hpos'⟩
    · exact .inl (hbc.trans hab)
    · exact .inl (hbc ▸ hab)
    · exact .inl (hab ▸ hbc)
    · exact .inr ⟨hbc.trans hab, hpos.trans hpos'⟩
  · have hle : f b.1 ≤ f a.1 := by simpa using h
    exact hle.lt_or_eq.imp_right fun heq => ⟨heq, hab⟩

/-! ## The choice of each discipline -/

theorem chosenFrom_linear (hne : e ≠ []) (hasc : e.Pairwise fun a b => a.2 < b.2) :
    ∃ m ∈ e, chosenFrom .linear cursor e = [m] ∧ ∀ n ∈ e, m.2 ≤ n.2 := by
  obtain ⟨m, rest, rfl⟩ := List.exists_cons_of_ne_nil hne
  refine ⟨m, List.mem_cons_self, rfl, fun n hn => ?_⟩
  rcases List.mem_cons.1 hn with rfl | hn
  · exact le_rfl
  · exact (List.rel_of_pairwise_cons hasc hn).le

/-- The first member of a list by ascending position that meets a condition stands below all others that do. -/
theorem find?_lowest {q : Membership × Nat → Bool} {m : Membership × Nat} (hasc : e.Pairwise fun a b => a.2 < b.2)
    (h : e.find? q = some m) : ∀ n ∈ e, q n = true → m.2 ≤ n.2 := by
  obtain ⟨-, before, after, rfl, hbefore⟩ := List.find?_eq_some_iff_append.1 h
  intro n hn hq
  rcases List.mem_append.1 hn with hn | hn
  · simpa [hq] using hbefore n hn
  rcases List.mem_cons.1 hn with rfl | hn
  · exact le_rfl
  · exact (List.rel_of_pairwise_cons (List.pairwise_append.1 hasc).2.1 hn).le

theorem chosenFrom_circular (cursor : Nat) (hne : e ≠ []) (hasc : e.Pairwise fun a b => a.2 < b.2) :
    ∃ m ∈ e, chosenFrom .circular cursor e = [m] ∧
      ((cursor < m.2 ∧ ∀ n ∈ e, cursor < n.2 → m.2 ≤ n.2) ∨ ∀ n ∈ e, n.2 ≤ cursor ∧ m.2 ≤ n.2) := by
  cases hfind : e.find? fun m => decide (cursor < m.2) with
  | some m =>
    refine ⟨m, List.mem_of_find?_eq_some hfind, by simp only [chosenFrom, hfind, Option.some_or, Option.toList_some],
      .inl ⟨by simpa using List.find?_some hfind, fun n hn hpos => find?_lowest hasc hfind n hn (by simpa using hpos)⟩⟩
  | none =>
    obtain ⟨m, hm, hhead, hlow⟩ := chosenFrom_linear (cursor := cursor) hne hasc
    refine ⟨m, hm, by simpa only [chosenFrom, hfind, Option.none_or] using hhead, .inr fun n hn => ⟨?_, hlow n hn⟩⟩
    simpa using List.find?_eq_none.1 hfind n hn

theorem chosenFrom_longestIdle (hne : e ≠ []) (hasc : e.Pairwise fun a b => a.2 < b.2) :
    ∃ m ∈ e, chosenFrom .longestIdle cursor e = [m] ∧ ∀ n ∈ e, n.1.idleTenths / 10 ≤ m.1.idleTenths / 10 ∧
      (n.1.idleTenths / 10 = m.1.idleTenths / 10 → m.2 ≤ n.2) := by
  obtain ⟨m, hm, hbest, hmost⟩ := firstBest_greatest Membership.idleSeconds hne hasc
  exact ⟨m, hm, by simp only [chosenFrom, hbest, Option.toList_some], hmost⟩

theorem chosenFrom_weighted (hne : e ≠ []) (hasc : e.Pairwise fun a b => a.2 < b.2) :
    ∃ m ∈ e, chosenFrom .weighted cursor e = [m] ∧ ∀ n ∈ e, n.1.credit ≤ m.1.credit ∧
      (n.1.credit = m.1.credit → m.2 ≤ n.2) := by
  obtain ⟨m, hm, hbest, hmost⟩ := firstBest_greatest Membership.credit hne hasc
  exact ⟨m, hm, by simp only [chosenFrom, hbest, Option.toList_some], hmost⟩

/-! ## What the choice leaves of the group -/

theorem addCredit_eq (c d : Int) : addCredit c d = max (-1024) (min (c + d) 1023) := by
  simp only [addCredit, clampInt]; omega

/-- The choice of a WEIGHTED group among the credits raised by the weights (R47, steps 1 and 2). -/
theorem chosenFrom_credited (hne : e ≠ []) (hasc : e.Pairwise fun a b => a.2 < b.2) :
    ∃ m ∈ e, (chosenFrom .weighted cursor (creditedSet e)).map (·.1.ext) = [m.1.ext] ∧
      ∀ n ∈ e, addCredit n.1.credit n.1.weight ≤ addCredit m.1.credit m.1.weight ∧
        (addCredit n.1.credit n.1.weight = addCredit m.1.credit m.1.weight → m.2 ≤ n.2) := by
  obtain ⟨m', hm', hchosen, hmost⟩ := chosenFrom_weighted (e := creditedSet e) (cursor := cursor)
    (by simpa [creditedSet] using hne) (by simpa [creditedSet, List.pairwise_map] using hasc)
  obtain ⟨m, hm, rfl⟩ := List.mem_map.1 hm'
  refine ⟨m, hm, by rw [hchosen]; rfl, fun n hn => ?_⟩
  exact hmost _ (List.mem_map.2 ⟨n, hn, rfl⟩)

theorem settleCredits_one (x : Nat) (l : List Membership) :
    settleCredits e [x] l = l.map fun m =>
      if ∃ n ∈ e, n.1.ext = m.ext then
        { m with credit := if m.ext = x then
            addCredit (addCredit m.credit m.weight) (-(e.map fun m => (m.1.weight : Int)).sum)
          else addCredit m.credit m.weight }
      else m := by
  have hany : ∀ m : Membership, (e.any fun n => n.1.ext == m.ext) = true ↔ ∃ n ∈ e, n.1.ext = m.ext := fun m => by
    simp only [List.any_eq_true, beq_iff_eq]
  simp only [settleCredits, hany, List.contains_cons, List.contains_nil, Bool.or_false, beq_iff_eq]

/-- Settles O34: the choice of each discipline, and what it leaves of the group. -/
theorem disciplinesChoose : Obligations.DisciplinesChoose := by
  intro cursor e hne hasc
  refine ⟨chosenFrom_linear hne hasc, chosenFrom_circular cursor hne hasc, chosenFrom_longestIdle hne hasc,
    chosenFrom_weighted hne hasc, rfl, fun r => ?_⟩
  intro add total
  have hadd : ∀ c d, addCredit c d = add c d := addCredit_eq
  refine ⟨fun h => ?_, fun h => ?_, fun h => ?_⟩
  · rcases h with h | h | h <;> simp only [chooseFrom, h]
  · obtain ⟨m, hm, hchosen, -⟩ := chosenFrom_circular r.cursor hne hasc
    exact ⟨m, hm, hchosen, by simp [chooseFrom, h, hchosen]⟩
  · obtain ⟨m, hm, hchosen, hmost⟩ := chosenFrom_credited (cursor := r.cursor) hne hasc
    refine ⟨m, hm, fun n hn => by simpa only [hadd] using hmost n hn, ?_⟩
    simp only [chooseFrom, h, hchosen, settleCredits_one, hadd]
    rfl

end Sys2Proof.Machine
end

section
/-! PROOF. The order of a waiting list: where a call enters it, and that it stays ordered (R39). -/

namespace Sys2Proof.Machine

variable {s t : State} {g c h : Nat} {k q : CallContext}

/-! ## The order of two calls -/

/-- A call precedes another (R39). -/
def CallContext.Precedes (a b : CallContext) : Prop :=
  b.priority < a.priority ∨ (a.priority = b.priority ∧ a.waitingSince < b.waitingSince)

theorem waitsBefore_iff {a b : CallContext} : waitsBefore a b = true ↔ a.Precedes b := by
  simp [waitsBefore, CallContext.Precedes]

theorem CallContext.Precedes.asymm {a b : CallContext} (h : a.Precedes b) : ¬b.Precedes a := by
  simp only [CallContext.Precedes] at *; omega

/-- What a call precedes, it precedes together with all that does not precede that. -/
theorem CallContext.Precedes.trans_not {a b c : CallContext} (h : a.Precedes b) (hbc : ¬c.Precedes b) :
    a.Precedes c := by
  simp only [CallContext.Precedes] at *; omega

/-- In a waiting list no call precedes one that stands before it (R39). -/
def State.Ordered (s : State) (l : List Nat) : Prop :=
  l.Pairwise fun a b => ∀ x y, s.call? a = some x → s.call? b = some y → ¬y.Precedes x

theorem State.Ordered.congr {l : List Nat} (h : s.Ordered l) (hc : t.call? = s.call?) : t.Ordered l := by
  simpa only [State.Ordered, hc] using h

/-! ## The place of a call that enters -/

/-- The call that enters, before a call of the list. -/
abbrev State.entersBefore (s : State) (k : CallContext) (b : Nat) : Bool :=
  ((s.call? b).map (waitsBefore k)).getD false

theorem entersBefore_iff {b : Nat} (hb : s.call? b = some q) : s.entersBefore k b = true ↔ k.Precedes q := by
  simp only [State.entersBefore, hb, Option.map_some, Option.getD_some, waitsBefore_iff]

theorem insertWaiting_known (hc : s.call? c = some k) : insertWaiting g c s =
    s.modGroup g fun r => { r with waiting := insertBefore (fun _ b => s.entersBefore k b) c r.waiting } := by
  simp only [insertWaiting, hc]
  refine modGroup_congr ?_
  congr 2
  funext _ b
  cases hb : s.call? b <;> simp [State.entersBefore, hb]

/-- An element is put between those that it does not precede and the first that it does. -/
theorem insertBefore_split {α : Type} (before : α → Bool) (x : α) (l : List α) : ∃ ahead behind,
    l = ahead ++ behind ∧ insertBefore (fun _ b => before b) x l = ahead ++ x :: behind ∧
      (∀ b ∈ ahead, before b = false) ∧ ∀ b ∈ behind.head?, before b = true := by
  induction l with
  | nil => exact ⟨[], [], rfl, rfl, by simp, by simp⟩
  | cons y ys ih =>
    cases hy : before y with
    | true => exact ⟨[], y :: ys, rfl, by simp [insertBefore, hy], by simp, by simpa using hy⟩
    | false =>
      obtain ⟨ahead, behind, rfl, hinsert, hahead, hbehind⟩ := ih
      exact ⟨y :: ahead, behind, rfl, by simp [insertBefore, hy, hinsert], by simpa [hy] using hahead, hbehind⟩

/-- In an ordered list of known calls, one that precedes the first precedes them all. -/
theorem precedes_ordered {b : Nat} {l : List Nat} (hl : s.Ordered (b :: l)) (hb : s.call? b = some q)
    (hk : k.Precedes q) {d : Nat} (hd : d ∈ b :: l) {y : CallContext} (hy : s.call? d = some y) : k.Precedes y := by
  rcases List.mem_cons.1 hd with rfl | hd
  · obtain rfl : q = y := by simpa [hb] using hy
    exact hk
  · exact hk.trans_not (List.rel_of_pairwise_cons hl hd q y hb hy)

/-- A call that enters an ordered list stands behind all that it does not precede and ahead of all that it does. -/
theorem insertWaiting_place (hc : s.call? c = some k)
    (hknown : ∀ b ∈ (s.group g).waiting, s.call? b ≠ none) (ho : s.Ordered (s.group g).waiting) :
    ∃ ahead behind, (s.group g).waiting = ahead ++ behind ∧
      insertWaiting g c s = (s.modGroup g fun r => { r with waiting := ahead ++ c :: behind }) ∧
      (∀ b ∈ ahead, ∀ q, s.call? b = some q → ¬k.Precedes q) ∧
      ∀ b ∈ behind, ∀ q, s.call? b = some q → k.Precedes q := by
  obtain ⟨ahead, behind, hsplit, hinsert, hahead, hbehind⟩ :=
    insertBefore_split (s.entersBefore k) c (s.group g).waiting
  refine ⟨ahead, behind, hsplit, ?_, fun b hb q hq => ?_, fun b hb q hq => ?_⟩
  · rw [insertWaiting_known hc]
    exact modGroup_congr (by rw [hinsert])
  · rw [← entersBefore_iff hq, hahead b hb]
    exact Bool.false_ne_true
  · cases behind with
    | nil => cases hb
    | cons d rest =>
      obtain ⟨y, hy⟩ := Option.ne_none_iff_exists'.1 (hknown d (by simp [hsplit]))
      refine precedes_ordered ?_ hy ((entersBefore_iff hy).1 (hbehind d rfl)) hb hq
      rw [hsplit] at ho
      exact (List.pairwise_append.1 ho).2.1

/-- A call put between those it does not precede and those it precedes leaves the list ordered. -/
theorem ordered_insert {ahead behind : List Nat} (hc : s.call? c = some k) (ho : s.Ordered (ahead ++ behind))
    (hahead : ∀ b ∈ ahead, ∀ q, s.call? b = some q → ¬k.Precedes q)
    (hbehind : ∀ b ∈ behind, ∀ q, s.call? b = some q → k.Precedes q) : s.Ordered (ahead ++ c :: behind) := by
  obtain ⟨hahead', hbehind', hcross⟩ := List.pairwise_append.1 ho
  refine List.pairwise_append.2 ⟨hahead', List.pairwise_cons.2 ⟨fun b hb x y hx hy => ?_, hbehind'⟩,
    fun a ha b hb => ?_⟩
  · obtain rfl : k = x := by simpa [hc] using hx
    exact (hbehind b hb y hy).asymm
  · rcases List.mem_cons.1 hb with rfl | hb
    · intro x y hx hy
      obtain rfl : k = y := by simpa [hc] using hy
      exact hahead a ha x hx
    · exact hcross a ha b hb

/-! ## The lists that a call does not enter -/

theorem group_insertWaiting_other (hne : h ≠ g) (c : Nat) (s : State) : (insertWaiting g c s).group h = s.group h := by
  unfold insertWaiting
  split
  · rfl
  · exact (group_modGroup s g h _).trans (if_neg fun hgh => hne hgh.1.symm)

theorem call_of_insertWaiting (g c : Nat) (s : State) : (insertWaiting g c s).call? = s.call? := by
  unfold insertWaiting
  split <;> rfl

theorem call_of_leaveList (c : Nat) (s : State) : (leaveList c s).call? = s.call? := by
  unfold leaveList
  split <;> rfl

theorem waiting_leaveList (hc : s.call? c = some k) (h : Nat) : ((leaveList c s).group h).waiting =
    if k.group = some h then (s.group h).waiting.filter (· != c) else (s.group h).waiting := by
  cases hkg : k.group with
  | none => simp [leaveList, hc, hkg]
  | some i =>
    rw [leaveList_listed hc hkg, group_modGroup]
    by_cases hi : i = h
    · subst hi
      by_cases hlt : i < 64
      · simp [hlt]
      · have hempty : (s.group i).waiting = [] := by
          rw [State.group, tabGet_ge _ _ (Nat.not_lt.mp hlt)]
          rfl
        simp [hlt, hempty]
    · simp [hi]

/-- Settles O33: the place of a call that enters a list, and the lists that it does not enter or that it leaves. -/
theorem waitingListKeepsItsOrder : Obligations.WaitingListKeepsItsOrder := by
  intro g c k s hc precedes ordered
  have listed : ∀ {t : State} {h : Nat} {l : List Nat}, (t.group h).waiting = l → t.Ordered l → ordered t h :=
    fun hl ho => by
      subst hl
      exact ho
  refine ⟨fun hg hknown ho => ?_, fun h ho => ⟨fun hne => ?_, ?_, waiting_leaveList hc h⟩⟩
  · obtain ⟨ahead, behind, hsplit, hinsert, hahead, hbehind⟩ := insertWaiting_place hc hknown ho
    refine ⟨?_, ahead, behind, hsplit, hinsert, hahead, hbehind⟩
    have hlist : ((insertWaiting g c s).group g).waiting = ahead ++ c :: behind := by
      rw [hinsert, group_modGroup_same _ (by omega)]
    have hordered := ordered_insert hc (hsplit ▸ ho) hahead hbehind
    exact listed hlist (hordered.congr (call_of_insertWaiting g c s))
  · have hlist := congrArg GroupRecord.waiting (group_insertWaiting_other hne c s)
    exact listed hlist (State.Ordered.congr ho (call_of_insertWaiting g c s))
  · have hsub : ((leaveList c s).group h).waiting.Sublist (s.group h).waiting := by
      rw [waiting_leaveList hc]
      split
      · exact List.filter_sublist
      · exact List.Sublist.refl _
    exact State.Ordered.congr (List.Pairwise.sublist hsub ho) (call_of_leaveList c s)

end Sys2Proof.Machine
end

section
/-! PROOF. How a call enters a group and what its advance does: offered to the first member of a LINEAR group, or
QUEUED (R39, R42, R43, R45, R49, R52, R54). -/

namespace Sys2Proof.Machine

variable {s t : State} {g c : Nat} {k : CallContext} {m : Membership}

/-! ## The eligible set (R43) -/

theorem eligible_unreachable (h : ∀ m ∈ (s.group g).members, s.reachable g k m = false) : s.eligible g k = [] := by
  have hreach : ((s.group g).members.zipIdx).filter (fun m => s.reachable g k m.1) = [] := by
    rw [List.filter_eq_nil_iff]
    intro m hm
    simp [h m.1 (List.fst_mem_of_mem_zipIdx hm)]
  simp [State.eligible, hreach]

/-- A membership whose extension can be rung for a call that has not tried it (R43). -/
def State.free (s : State) (k : CallContext) (m : Membership) : Bool :=
  (s.ext m.ext).line = .idle && (s.ext m.ext).ringing.isNone && !k.tried.contains m.ext

theorem free_iff : s.free k m = true ↔
    (s.ext m.ext).line = .idle ∧ (s.ext m.ext).ringing = none ∧ m.ext ∉ k.tried := by simp [State.free, and_assoc]

theorem reachable_eq (g : Nat) (k : CallContext) (m : Membership) (s : State) :
    s.reachable g k m = ((s.group g).configured && !s.held g && s.free k m) := by
  simp only [State.reachable, State.free, Bool.and_assoc]

theorem reachable_free (hcfg : (s.group g).configured = true) (hh : s.held g = false) :
    s.reachable g k m = s.free k m := by simp [reachable_eq, hcfg, hh]

/-- A group has no membership for a call while it is held, or while each is engaged or tried (R43). -/
theorem eligible_none (h : s.held g = true ∨ ∀ m ∈ (s.group g).members,
    (s.ext m.ext).line ≠ .idle ∨ (s.ext m.ext).ringing ≠ none ∨ m.ext ∈ k.tried) : s.eligible g k = [] := by
  refine eligible_unreachable fun m hm => ?_
  rcases h with h | h
  · simp [reachable_eq, h]
  · have hfree : s.free k m = false := by
      rw [Bool.eq_false_iff, Ne, free_iff]
      have := h m hm
      tauto
    simp [reachable_eq, hfree]

/-- The first free AVAILABLE member stands first in the eligible set (R43, R44). -/
theorem eligible_first (hcfg : (s.group g).configured = true) (hh : s.held g = false)
    (hm : (s.group g).members.find? (fun m => m.effective = .available && s.free k m) = some m) :
    ∃ i rest, s.eligible g k = (m, i) :: rest := by
  let first (b : Membership × Nat) : Bool := b.1.effective = .available && s.free k b.1
  have hfind : (((s.group g).members.zipIdx).find? first).map Prod.fst = some m := by
    rw [← hm, ← List.zipIdx_map_fst 0 (s.group g).members, List.find?_map, List.zipIdx_map_fst]
    rfl
  obtain ⟨b, hb, rfl⟩ := Option.map_eq_some_iff.1 hfind
  have havailable : (((s.group g).members.zipIdx).filter fun m => s.reachable g k m.1).filter
      (fun m => m.1.effective = .available) = ((s.group g).members.zipIdx).filter first := by
    simp only [List.filter_filter, reachable_free hcfg hh, first]
  have hhead : (((s.group g).members.zipIdx).filter first).head? = some b := by rw [List.head?_filter, hb]
  obtain ⟨rest, hrest⟩ := List.head?_eq_some_iff.1 hhead
  refine ⟨b.2, rest, ?_⟩
  simp [State.eligible, havailable, hrest]

/-! ## Offers of a LINEAR group (R45, R49) -/

theorem offerCall_none (he : s.eligible g k = []) (hc : s.call? c = some k) : offerCall g c s = s := by
  simp [offerCall, hc, he]

/-- A LINEAR group offers a call to its first free AVAILABLE member. -/
theorem offerCall_linear (hc : s.call? c = some k) (hd : (s.group g).discipline = .linear)
    (hcfg : (s.group g).configured = true) (hh : s.held g = false)
    (hm : (s.group g).members.find? (fun m => m.effective = .available && s.free k m) = some m) :
    offerCall g c s =
      offerRecord { TraceRecord.offered .offer k.priority with call := some c, group := some g, ext := some m.ext }
        (direct (.ring m.ext c .hunt)
          ((s.modExt m.ext fun r => { r with ringing := some c, ringStart := s.now }).modCall c fun k =>
            { k with ringing := k.ringing ++ [m.ext], tried := insertAscending m.ext k.tried
                     noAnswerDue := some (s.after (s.group g).noAnswerTime) })) := by
  obtain ⟨i, rest, he⟩ := eligible_first hcfg hh hm
  have hfree : (s.ext m.ext).ringing = none := by
    have hmeets : m.effective = .available ∧ s.free k m = true := by simpa using List.find?_some hm
    exact (free_iff.1 hmeets.2).2.1
  have hchoice : chooseFrom (s.group g) ((m, i) :: rest) = ([m.ext], s.group g) := by simp [chooseFrom, hd, chosenFrom]
  simp only [offerCall, hc, he, hchoice, List.isEmpty_cons, Bool.false_eq_true, if_false]
  rw [modGroup_self (f := fun _ => s.group g) rfl, makeOffer_one hc hfree]

/-! ## The advance of a call (R52) -/

theorem advance_offers (hc : s.call? c = some k) (he : s.eligible g k ≠ []) : advance g c s = offerCall g c s := by
  simp [advance, advanceWith, hc, he]

/-- A call without an eligible membership, but with an AVAILABLE or STANDBY one that it has not tried, is QUEUED. -/
theorem advance_waits (hc : s.call? c = some k) (he : s.eligible g k = [])
    (hu : ∃ m ∈ (s.group g).members, (m.effective = .available ∨ m.effective = .standby) ∧ m.ext ∉ k.tried) :
    advance g c s = offerRecord { TraceRecord.offered .wait k.priority with call := some c, group := some g }
      (direct (.waitHold c) s) := by
  obtain ⟨m, hm, hoffered, huntried⟩ := hu
  have hpass : s.passOver g k = false := by
    simp only [State.passOver, Bool.not_eq_false', List.any_eq_true]
    exact ⟨m, hm, by rcases hoffered with h | h <;> simp [h, Presence.offered, huntried]⟩
  simp [advance, advanceWith, hc, he, hpass, becomeQueued]

/-! ## The entry of a call (R42) -/

/-- A context as it enters a group (R42). -/
def State.entering (s : State) (g : Nat) (k : CallContext) : CallContext :=
  { k with
    group := some g, waitingSince := s.now, tried := [], passCount := 0, state := .waiting
    maxWaitDue := if (s.group g).maximumWait = 0 then none else some (s.after (s.group g).maximumWait) }

theorem enterGroup_eq (g c : Nat) (s : State) :
    enterGroup g c s = advance g c (insertWaiting g c (s.modCall c (s.entering g))) := rfl

theorem insertBefore_congr {α : Type} {p q : α → α → Bool} {x : α} : ∀ {l : List α}, (∀ b ∈ l, p x b = q x b) →
    insertBefore p x l = insertBefore q x l
  | [], _ => rfl
  | y :: ys, h => by
    have hy : p x y = q x y := h y (by simp)
    have hys : insertBefore p x ys = insertBefore q x ys := insertBefore_congr fun b hb => h b (by simp [hb])
    simp only [insertBefore, hy, hys]

/-- The place of a call in a list is read off the calls of another state in which they wait alike. -/
theorem insertWaiting_like (hc : s.call? c = some k)
    (h : ∀ b ∈ (s.group g).waiting, s.entersBefore k b = t.entersBefore k b) : insertWaiting g c s =
    s.modGroup g fun r => { r with waiting := insertBefore (fun _ b => t.entersBefore k b) c r.waiting } := by
  rw [insertWaiting_known hc]
  refine modGroup_congr ?_
  rw [insertBefore_congr (q := fun _ b => t.entersBefore k b) h]

theorem waitsBefore_self (k : CallContext) : waitsBefore k k = false := by simp [waitsBefore]

end Sys2Proof.Machine
end

section
/-! PROOF. CALL-ARRIVE: its refusals, the divert from an unconfigured group, and the arrival that is offered or QUEUED
(R40 to R43, R62). -/

namespace Sys2Proof.Machine

variable {s t : State} {g c : Nat} {k : CallContext} {tag : Byte} {p : List Byte} {a : Answer}
  {o : CallArriveOp}

/-! ## A context that is taken (R11) -/

theorem call?_addCall (k : CallContext) (d : Nat) (s : State) :
    (s.addCall k).call? d = (s.call? d).or (if k.ref = d then some k else none) := by
  by_cases h : k.ref = d <;> simp [State.call?, State.addCall, List.find?_append, h]

theorem call?_addCall_new (hk : k.ref = c) (h : s.call? c = none) : (s.addCall k).call? c = some k := by
  simp [call?_addCall, h, hk]

theorem freeCall_addCall_new (hk : k.ref = c) (h : s.call? c = none) : (s.addCall k).freeCall c = s := by
  have hkept : s.calls.filter (fun r => r.ref != c) = s.calls :=
    List.filter_eq_self.2 fun r hr => by simpa using call?_none.1 h r hr
  simp [State.freeCall, State.addCall, hkept, hk]

@[simp] theorem group_of_addCall (k : CallContext) (g : Nat) (s : State) : (s.addCall k).group g = s.group g := rfl
@[simp] theorem held_of_addCall (k : CallContext) (g : Nat) (s : State) : (s.addCall k).held g = s.held g := rfl

/-! ## The context of an arrival (R42) -/

/-- The context that an arrival takes (R41). -/
abbrev State.fresh (s : State) (o : CallArriveOp) : CallContext :=
  CallContext.fresh o.call .hunt .waiting (some o.group) o.priority s.now

/-- The context of an arrival as it stands in its group (R42). -/
def State.arriving (s : State) (o : CallArriveOp) : CallContext := s.entering o.group (s.fresh o)

/-- The state in which an arrival stands in its group, before its advance. -/
def State.arrived (s : State) (o : CallArriveOp) : State :=
  (s.addCall (s.arriving o)).modGroup o.group fun r =>
    { r with waiting := insertBefore (fun _ b => s.entersBefore (s.arriving o) b) o.call r.waiting }

theorem call?_arrived (h : s.call? o.call = none) : (s.arrived o).call? o.call = some (s.arriving o) :=
  call?_addCall_new rfl h

theorem group_arrived (o : CallArriveOp) (s : State) {α : Type} {view : GroupRecord → α}
    (hv : ∀ r l, view { r with waiting := l } = view r) : view ((s.arrived o).group o.group) = view (s.group o.group) :=
  group_modGroup_keeps (p := view) (fun _ => hv _ _) _ _ _

theorem members_arrived (o : CallArriveOp) (s : State) :
    ((s.arrived o).group o.group).members = (s.group o.group).members :=
  group_arrived o s (view := GroupRecord.members) fun _ _ => rfl

theorem held_arrived (o : CallArriveOp) (s : State) : (s.arrived o).held o.group = s.held o.group :=
  held_of_modGroup
    (f := fun r => { r with waiting := insertBefore (fun _ b => s.entersBefore (s.arriving o) b) o.call r.waiting })
    (fun _ => ⟨rfl, rfl⟩) o.group

theorem enterGroup_arrival (h : s.call? o.call = none) :
    enterGroup o.group o.call (s.addCall (s.fresh o)) = advance o.group o.call (s.arrived o) := by
  have hentering := modCall_addCall_new (s := s) (f := s.entering o.group) (k := s.fresh o) h
  have hnew : (s.addCall (s.arriving o)).call? o.call = some (s.arriving o) := call?_addCall_new rfl h
  have hplace : ∀ b, (s.addCall (s.arriving o)).entersBefore (s.arriving o) b = s.entersBefore (s.arriving o) b := by
    intro b
    by_cases hb : o.call = b
    · subst hb
      simp only [State.entersBefore, hnew, h, Option.map_some, waitsBefore_self, Option.map_none, Option.getD_some,
        Option.getD_none]
    · have hother : (s.addCall (s.arriving o)).call? b = s.call? b := by
        rw [call?_addCall, if_neg (show ¬(s.arriving o).ref = b from hb), Option.or_none]
      rw [State.entersBefore, hother]
  rw [enterGroup_eq]
  refine congrArg (advance o.group o.call) ?_
  refine (congrArg (insertWaiting o.group o.call) hentering).trans ?_
  exact insertWaiting_like hnew fun b _ => hplace b

/-! ## The request (R40, R41) -/

theorem exec_callArrive_answers (hr : CallArriveOp.read p = some o) (ht : s.Takes ⟨0x02, tag, p⟩)
    (ha : callArrive o s = (t, a)) :
    exec (.callArrive tag p) s = .next (answered ⟨0x02, tag, p⟩ a.verdict a.body t) :=
  congrArg Host.Outcome.next (takeKind_answers ht hr ha)

theorem callArrive_range (o : CallArriveOp) : (badRef o.call || 63 < o.group || 3 < o.priority) = true ↔
    ¬(1 ≤ o.call ∧ o.call ≤ 65534 ∧ o.group ≤ 63 ∧ o.priority ≤ 3) := by
  simp only [Bool.or_eq_true, badRef_iff, decide_eq_true_eq]
  omega

/-- An arrival that no check refuses goes where its group sends it (R41). -/
theorem callArrive_placed (hrange : 1 ≤ o.call ∧ o.call ≤ 65534 ∧ o.group ≤ 63 ∧ o.priority ≤ 3)
    (hc : s.call? o.call = none) (hn : s.calls.length < 256)
    (hp : placeArrival o.call o.group (s.addCall (s.fresh o)) = t) :
    callArrive o s = (t, .okWith (t.arrivalReply o.call)) := by
  rw [callArrive, if_neg (by rw [callArrive_range]; tauto), if_neg (by simp [hc]),
    if_neg (by simpa [Config.callContexts] using hn), hp]

/-- An arrival for a group with room enters it and advances. -/
theorem placeArrival_enters (hc : s.call? o.call = none) (hcfg : (s.group o.group).configured = true)
    (hroom : (s.group o.group).waiting.length < (s.group o.group).waitingDepth) :
    placeArrival o.call o.group (s.addCall (s.fresh o)) = advance o.group o.call (s.arrived o) := by
  have hasRoom : (s.addCall (s.fresh o)).hasRoom o.group = true := decide_eq_true hroom
  rw [← enterGroup_arrival hc, placeArrival, if_neg (by simp [hcfg]), if_pos hasRoom]

theorem divertCall_arrival (hc : s.call? o.call = none) (code : Option Nat) :
    divertCall o.call code o.group [] (s.addCall (s.fresh o)) =
      offerRecord { TraceRecord.offered .divert o.priority with call := some o.call, group := some o.group }
        (direct (.divert o.call code) s) := by
  have hnew : (s.addCall (s.fresh o)).call? o.call = some (s.fresh o) := call?_addCall_new rfl hc
  have hfree : (s.addCall (s.fresh o)).freeCall o.call = s := freeCall_addCall_new rfl hc
  simp only [divertCall, hnew]
  refine (freeCall_offerRecord _ _ _).trans ?_
  rw [freeCall_direct, hfree]
  rfl

/-- Settles O30: the checks in their order, then the divert of the context just taken. -/
theorem callArriveChecksAndDiverts : Obligations.CallArriveChecksAndDiverts := by
  intro tag p o s hr ht range
  refine ⟨fun hrange => ?_, fun hrange hc => ?_, fun hrange hc hn => ?_, fun hrange hc hn hcfg => ?_⟩
  · exact exec_callArrive_answers (a := .refused .outOfRange) hr ht (by
      rw [callArrive, if_pos ((callArrive_range o).2 hrange)])
  all_goals
    have hin : ¬(badRef o.call || 63 < o.group || 3 < o.priority) = true := fun h => (callArrive_range o).1 h hrange
  · exact exec_callArrive_answers (a := .refused .duplicate) hr ht (by
      rw [callArrive, if_neg hin, if_pos (Option.isSome_iff_ne_none.2 hc)])
  · exact exec_callArrive_answers (a := .refused .tableFull) hr ht (by
      rw [callArrive, if_neg hin, if_neg (by simp [hc]), if_pos (by exact hn)])
  · have hdiverts := divertCall_arrival (o := o) hc s.fallback
    have hplaced := callArrive_placed hrange hc hn ((if_pos (by simp [hcfg])).trans hdiverts)
    refine (exec_callArrive_answers hr ht hplaced).trans ?_
    rw [State.arrivalReply, call_of_offerRecord, call_of_direct, hc]
    rfl

/-- Settles O31: the arrival enters its group, and its advance finds nobody to ring but a member it has not tried. -/
theorem callArriveQueues : Obligations.CallArriveQueues := by
  intro tag p o s hr ht h1 h2 hg hp hc hn hcfg hroom hengaged hoffered
  have hcall := call?_arrived (o := o) hc
  have hnone : (s.arrived o).eligible o.group (s.arriving o) = [] := by
    refine eligible_none ?_
    rw [held_arrived, members_arrived]
    exact hengaged.imp_right fun h m hm => (h m hm).imp_right .inl
  have hadvance := advance_waits hcall hnone (by
    rw [members_arrived]
    exact hoffered.imp fun m hm => ⟨hm.1, hm.2, by simp [State.arriving, State.entering]⟩)
  have hplaced := callArrive_placed ⟨h1, h2, hg, hp⟩ hc hn ((placeArrival_enters hc hcfg hroom).trans hadvance)
  refine (exec_callArrive_answers hr ht hplaced).trans ?_
  rw [State.arrivalReply, call_of_offerRecord, call_of_direct, hcall]
  rfl

end Sys2Proof.Machine
end

section
/-! PROOF. The offers of a LINEAR group: to an arrival, and to its first call when a ZONESET-SET ends its emergency
hold (R43, R45, R49, R57, R68, R69, R108). -/

namespace Sys2Proof.Machine

variable {s t : State} {g c : Nat} {k : CallContext} {m : Membership} {tag : Byte} {p : List Byte} {o : CallArriveOp}

/-! ## An arrival that is offered -/

/-- A change of the call taken last, under a new reference, changes no other. -/
theorem modCall_taken {f : CallContext → CallContext} (ht : t.calls = s.calls ++ [k]) (hk : k.ref = c)
    (h : s.call? c = none) : t.modCall c f = { t with calls := s.calls ++ [f k] } := by
  subst hk
  have hcalls := congrArg State.calls (modCall_addCall_new (f := f) h)
  simp only [State.modCall, State.addCall] at hcalls ⊢
  rw [ht, hcalls]

/-- The first member that is free for a new arrival is free for it in its group. -/
theorem find?_arrived (hm : (s.group o.group).members.find? (fun m => m.effective = .available
      && (s.ext m.ext).line = .idle && (s.ext m.ext).ringing.isNone) = some m) :
    ((s.arrived o).group o.group).members.find? (fun m =>
      m.effective = .available && (s.arrived o).free (s.arriving o) m) = some m := by
  have huntried : (s.arriving o).tried = [] := rfl
  have hext : ∀ x, (s.arrived o).ext x = s.ext x := fun _ => rfl
  simpa [members_arrived, State.free, huntried, hext, Bool.and_assoc] using hm

/-- The offer of an arrival at its group's first free member, as its own context records it (R49). -/
def State.offeredTo (s : State) (o : CallArriveOp) (x : Nat) : State :=
  { (s.arrived o).modExt x fun r => { r with ringing := some o.call, ringStart := s.now } with
    calls := s.calls ++ [{ s.arriving o with
      ringing := [x], tried := [x], noAnswerDue := some (s.after (s.group o.group).noAnswerTime) }] }

theorem advance_arrived (hc : s.call? o.call = none) (hd : (s.group o.group).discipline = .linear)
    (hcfg : (s.group o.group).configured = true) (hh : s.held o.group = false)
    (hm : (s.group o.group).members.find? (fun m => m.effective = .available
      && (s.ext m.ext).line = .idle && (s.ext m.ext).ringing.isNone) = some m) :
    advance o.group o.call (s.arrived o) =
      offerRecord { TraceRecord.offered .offer o.priority with
          call := some o.call, group := some o.group, ext := some m.ext }
        (direct (.ring m.ext o.call .hunt) (s.offeredTo o m.ext)) := by
  have hcall := call?_arrived (o := o) hc
  have hcfg' : ((s.arrived o).group o.group).configured = true := by
    rw [group_arrived o s (view := GroupRecord.configured) fun _ _ => rfl, hcfg]
  have hd' : ((s.arrived o).group o.group).discipline = .linear := by
    rw [group_arrived o s (view := GroupRecord.discipline) fun _ _ => rfl, hd]
  have hh' : (s.arrived o).held o.group = false := by rw [held_arrived, hh]
  have htime : ((s.arrived o).group o.group).noAnswerTime = (s.group o.group).noAnswerTime :=
    group_arrived o s (view := GroupRecord.noAnswerTime) fun _ _ => rfl
  obtain ⟨i, rest, he⟩ := eligible_first hcfg' hh' (find?_arrived hm)
  rw [advance_offers hcall (by simp [he]), offerCall_linear hcall hd' hcfg' hh' (find?_arrived hm), htime,
    modCall_taken (c := o.call) (s := s) (k := s.arriving o) rfl rfl hc]
  rfl

/-- CALL-ARRIVE for a LINEAR group with a free AVAILABLE member (R43, R45, R49). -/
theorem exec_callArrive_offers (hr : CallArriveOp.read p = some o) (ht : s.Takes ⟨0x02, tag, p⟩)
    (hrange : 1 ≤ o.call ∧ o.call ≤ 65534 ∧ o.group ≤ 63 ∧ o.priority ≤ 3) (hc : s.call? o.call = none)
    (hn : s.calls.length < 256) (hcfg : (s.group o.group).configured = true) (hh : s.held o.group = false)
    (hroom : (s.group o.group).waiting.length < (s.group o.group).waitingDepth)
    (hd : (s.group o.group).discipline = .linear)
    (hm : (s.group o.group).members.find? (fun m => m.effective = .available
      && (s.ext m.ext).line = .idle && (s.ext m.ext).ringing.isNone) = some m) :
    exec (.callArrive tag p) s = .next (answered ⟨0x02, tag, p⟩ .ok (.arrival .offered (some o.group))
      (offerRecord { TraceRecord.offered .offer o.priority with
          call := some o.call, group := some o.group, ext := some m.ext }
        (direct (.ring m.ext o.call .hunt) (s.offeredTo o m.ext)))) := by
  have hplaced := callArrive_placed hrange hc hn
    ((placeArrival_enters hc hcfg hroom).trans (advance_arrived hc hd hcfg hh hm))
  have hcall : (s.offeredTo o m.ext).call? o.call = some { s.arriving o with
      ringing := [m.ext], tried := [m.ext], noAnswerDue := some (s.after (s.group o.group).noAnswerTime) } :=
    call?_addCall_new (s := s) rfl hc
  refine (exec_callArrive_answers hr ht hplaced).trans ?_
  rw [State.arrivalReply, call_of_offerRecord, call_of_direct, hcall]
  rfl

/-! ## The servicing of a group that is no longer held (R57, R69) -/

/-- The release of the only held group services it. -/
theorem releasingHolds_only {f : State → State} (hg : g < 64) (hheld : ∀ h, s.held h = true ↔ h = g)
    (hfree : (f s).held g = false) : releasingHolds f s = service g (f s) := by
  have hgroups : s.heldGroups = [g] := by
    have hfun : s.held = (· == g) := funext fun h => by rw [Bool.eq_iff_iff, hheld, beq_iff_eq]
    rw [State.heldGroups, hfun, List.filter_beq, List.count_eq_one_of_mem List.nodup_range (List.mem_range.2 hg)]
    rfl
  simp [releasingHolds, hgroups, hfree, serviceAll]

/-- A walk that offers a group's first call and can offer no other. -/
theorem service_first {rest : List Nat} (hcfg : (s.group g).configured = true) (hh : s.held g = false)
    (hw : (s.group g).waiting = c :: rest) (hc : s.call? c = some k) (hr : k.ringing = []) (ht : offerCall g c s = t)
    (hrest : ∀ b ∈ rest, ∃ q, t.call? b = some q ∧ (q.ringing ≠ [] ∨ t.eligible g q = [])) : service g s = t := by
  have hfirst : (if ((s.call? c).map fun k => k.ringing.isEmpty).getD false then offerCall g c s else s) = t := by
    simp [hc, hr, ht]
  simp only [service, hcfg, hh, hw, Bool.not_false, Bool.and_self, if_true, List.foldl_cons, hfirst]
  refine foldl_fixed fun b hb => ?_
  obtain ⟨q, hq, hring | hnone⟩ := hrest b hb
  · simp [hq, hring]
  · rw [offerCall_none hnone hq, ite_self]

theorem find?_free {l : List Membership} (hm : l.find? (fun m => m.effective = .available
      && (s.ext m.ext).line = .idle && (s.ext m.ext).ringing.isNone && !k.tried.contains m.ext) = some m) :
    l.find? (fun m => m.effective = .available && s.free k m) = some m := by
  simpa [State.free, Bool.and_assoc] using hm

/-- The service of a LINEAR group whose first call is QUEUED: it rings the first free AVAILABLE member, and nobody else
is free for a call behind it (R45, R57). -/
theorem service_linear {rest : List Nat} (hcfg : (s.group g).configured = true) (hh : s.held g = false)
    (hd : (s.group g).discipline = .linear) (hw : (s.group g).waiting = c :: rest) (hc : s.call? c = some k)
    (hr : k.ringing = [])
    (hm : (s.group g).members.find? (fun m => m.effective = .available && s.free k m) = some m)
    (hrest : ∀ b ∈ rest, b ≠ c ∧ ∃ q, s.call? b = some q ∧ (q.ringing ≠ [] ∨ ∀ y ∈ (s.group g).members,
      y.ext = m.ext ∨ y.ext ∈ q.tried ∨ (s.ext y.ext).line ≠ .idle)) :
    service g s =
      offerRecord { TraceRecord.offered .offer k.priority with call := some c, group := some g, ext := some m.ext }
        (direct (.ring m.ext c .hunt)
          ((s.modExt m.ext fun r => { r with ringing := some c, ringStart := s.now }).modCall c fun k =>
            { k with ringing := k.ringing ++ [m.ext], tried := insertAscending m.ext k.tried
                     noAnswerDue := some (s.after (s.group g).noAnswerTime) })) := by
  have hmeets : m.effective = .available ∧ s.free k m = true := by simpa using List.find?_some hm
  have hx : m.ext < 1024 := ext_lt_of_idle (free_iff.1 hmeets.2).1
  refine service_first hcfg hh hw hc hr (offerCall_linear hc hd hcfg hh hm) fun b hb => ?_
  obtain ⟨hbc, q, hq, hstays⟩ := hrest b hb
  refine ⟨q, by simp [call?_modCall, hq, hbc], hstays.imp_right fun hengaged => ?_⟩
  refine eligible_none (.inr fun y hy => ?_)
  simp only [ext_of_offerRecord, ext_of_direct, ext_of_modCall, group_of_offerRecord, group_of_direct, group_of_modCall,
    group_of_modExt] at hy ⊢
  rcases hengaged y hy with hrings | htried | hbusy
  · simp [hrings, ext_modExt_same _ hx]
  · exact .inr (.inr htried)
  · exact .inl (by simpa [line_modExt] using hbusy)

theorem exec_zonesetSet_answers {o : ZoneSetSetOp} {a : Answer} (hr : ZoneSetSetOp.read p = some o)
    (ht : s.Takes ⟨0x14, tag, p⟩) (ha : zonesetSet o s = (t, a)) :
    exec (.zonesetSet tag p) s = .next (answered ⟨0x14, tag, p⟩ a.verdict a.body t) :=
  congrArg Host.Outcome.next (takeKind_answers ht hr ha)

/-- A zone set without a covered zone holds no group whose home set it is (R68). -/
theorem held_uncovered {n : Nat} (hhome : (s.group g).homeSet = some n) (hz : s.zoneSet n &&& s.covered = 0) :
    s.held g = false := by simp [State.held, hhome, hz]

/-- Settles O32: the arrival's advance, and the servicing that a ZONESET-SET brings, each by the offer of a LINEAR
group. -/
theorem callArriveOffersFirstMember : Obligations.CallArriveOffersFirstMember := by
  refine ⟨fun tag p o m s hr ht h1 h2 hg hp hc hn hcfg hh hroom hd hm => ?_,
    fun tag p o g c rest k m s hr ht hn hheld hhome hz hcfg hd hw hc hring hm hrest => ?_⟩
  · exact exec_callArrive_offers hr ht ⟨h1, h2, hg, hp⟩ hc hn hcfg hh hroom hd hm
  · let u : State := { s with zoneSets := tabModify s.zoneSets o.number fun _ => o.zones }
    have hzones : u.zoneSet o.number = o.zones := tabGet_tabModify_same _ _ _ (by omega)
    have hfree : u.held g = false := held_uncovered (s := u) hhome (by rw [hzones]; exact hz)
    have hg : g < 64 := group_lt_of_waiting (s := s) (by simp [hw])
    have hservice := service_linear (s := u) hcfg hfree hd hw hc hring (find?_free (s := s) hm) hrest
    have hset : zonesetSet o s = (service g u, .ok) := by
      rw [zonesetSet, if_neg (by omega), releasingHolds_only hg hheld hfree]
    rw [exec_zonesetSet_answers hr ht hset, hservice]
    rfl

end Sys2Proof.Machine
end

section
/-! PROOF. The two timers of an orbit: the ring of the parker, and the recall of the call into a group or to the
fallback destination (R93 to R96). -/

namespace Sys2Proof.Machine

variable {s t : State} {n c x g d : Nat} {k : CallContext}

/-! ## The timers -/

theorem exec_parkTimerExpiry_due (hr : s.running = true) (hd : (s.orbit n).parkDue = some d) (hclock : d ≤ s.clock) :
    exec (.parkTimerExpiry n) s = .next (endPark n s) := by
  refine congrArg Host.Outcome.next ((whenRunning_running hr _).trans ?_)
  rw [hd, atExpiry_due hclock]

theorem exec_recallRingExpiry_due (hr : s.running = true) (hd : (s.orbit n).recallDue = some d)
    (hclock : d ≤ s.clock) : exec (.recallRingExpiry n) s = .next (endRecall n s) := by
  refine congrArg Host.Outcome.next ((whenRunning_running hr _).trans ?_)
  rw [hd, atExpiry_due hclock]

/-! ## The recall of a call to its parker (R94) -/

theorem recallToParker_free (hx : (s.ext x).ringing = none) : recallToParker n c x s = direct (.ring x c .recall)
    (((s.modOrbit n fun r =>
      { r with state := .recalling, parkDue := none, recallDue := some (s.after r.recallRingTime) }).modCall c fun k =>
        { k with state := .recallRinging, ringing := k.ringing ++ [x] }).modExt x fun r =>
          { r with ringing := some c, ringStart := s.now }) := by
  simp only [recallToParker]
  rw [placeMark_free (by exact hx)]
  simp [modOrbit_modOrbit, modCall_modCall]

/-! ## The recall of a call into a group (R95) -/

/-- The group does not take the recalled call: it is unconfigured or full. -/
abbrev State.TurnsAway (s : State) (g : Nat) : Prop :=
  (s.group g).configured = false ∨ (s.group g).waitingDepth ≤ (s.group g).waiting.length

theorem hasRoom_iff : s.hasRoom g = true ↔ (s.group g).waiting.length < (s.group g).waitingDepth := by
  simp [State.hasRoom]

/-- Without a group that takes it, the call is diverted to the fallback destination. -/
theorem recallToGroup_turnedAway (hc : s.call? c = some k)
    (h : ∀ g, (s.orbit n).recallGroup = some g → s.TurnsAway g) :
    recallToGroup n c s = offerRecord { TraceRecord.offered .divert k.priority with
        call := some c, group := (s.orbit n).recallGroup, orbit := some n, detail := k.depth }
      (direct (.divert c s.fallback) (s.freeCall c)) := by
  cases hg : (s.orbit n).recallGroup with
  | none => simp only [recallToGroup, hc, hg, freeCall_offerRecord, freeCall_direct]
  | some g =>
    have hturned : (!(s.group g).configured || !s.hasRoom g) = true := by
      rw [Bool.or_eq_true, Bool.not_eq_true', Bool.not_eq_true', ← Bool.not_eq_true (s.hasRoom g), hasRoom_iff]
      exact (h g hg).imp_right Nat.not_lt.2
    simp only [recallToGroup, hc, hg, hturned, if_true, freeCall_offerRecord, freeCall_direct]

/-- The priority of a call that is recalled into a group (R95). -/
abbrev CallContext.recallPriority (k : CallContext) : Nat := min (k.priority + 1) 3

/-- The RECALL record of a call (R95). -/
def recallRecord (n c g priority : Nat) : TraceRecord :=
  { TraceRecord.offered .recall priority with call := some c, group := some g, orbit := some n }

/-- A context that is recalled into a group (R42, R95). -/
def State.recalledTo (s : State) (g priority : Nat) (k : CallContext) : CallContext :=
  s.entering g { k with kind := .recalled, priority := priority, orbit := none }

/-- A group with room takes the call, whose RECALL record is offered before its advance (R95; log entry 25). -/
theorem recallToGroup_enters (hc : s.call? c = some k) (hg : (s.orbit n).recallGroup = some g)
    (hcfg : (s.group g).configured = true) (hroom : (s.group g).waiting.length < (s.group g).waitingDepth) :
    recallToGroup n c s = enterGroup g c (offerRecord (recallRecord n c g k.recallPriority) (s.modCall c fun q =>
      { q with kind := .recalled, priority := k.recallPriority })) := by
  simp only [recallToGroup, hc, hg, hcfg, hasRoom_iff.2 hroom, Bool.not_true, Bool.or_self, Bool.false_eq_true,
    if_false]
  rfl

/-- Nobody of the group can be rung for the call, which the group has room for. -/
structure State.QueuesRecall (s : State) (g c : Nat) : Prop where
  configured : (s.group g).configured = true
  unlisted : c ∉ (s.group g).waiting
  room : (s.group g).waiting.length < (s.group g).waitingDepth
  lines : ∀ m ∈ (s.group g).members, (s.ext m.ext).line ≠ .idle
  offered : ∃ m ∈ (s.group g).members, m.effective = .available ∨ m.effective = .standby

/-- The calls of a list wait alike for two states whose other calls are the same. -/
theorem entersBefore_other (hcalls : ∀ b, b ≠ c → s.call? b = t.call? b) {l : List Nat} (hl : c ∉ l) (k : CallContext) :
    ∀ b ∈ l, s.entersBefore k b = t.entersBefore k b := fun b hb => by
  rw [State.entersBefore, State.entersBefore, hcalls b fun h => hl (h ▸ hb)]

/-- A call enters a group in which nobody can be rung for it: the list takes it at its place, and it is QUEUED
(R42, R52, R54). -/
theorem enterGroup_queues {f : CallContext → CallContext} (hf : ∀ k, (f k).ref = k.ref) (hc : s.call? c = some k)
    (h : s.QueuesRecall g c) (hcalls : ∀ b, b ≠ c → s.call? b = t.call? b) :
    enterGroup g c (s.modCall c f) =
      offerRecord { TraceRecord.offered .wait (f k).priority with call := some c, group := some g }
        (direct (.waitHold c) ((s.modGroup g fun r => { r with
          waiting := insertBefore (fun _ b => t.entersBefore (s.entering g (f k)) b) c r.waiting }).modCall c fun q =>
            s.entering g (f q))) := by
  have hentering : (s.modCall c f).modCall c ((s.modCall c f).entering g) = s.modCall c fun q => s.entering g (f q) :=
    modCall_modCall s c f _ hf
  have hcall := call?_modCall_same (f := fun q => s.entering g (f q)) hc hf
  have hother : ∀ b, b ≠ c → (s.modCall c fun q => s.entering g (f q)).call? b = t.call? b := fun b hb => by
    rw [call?_modCall c b (f := fun q => s.entering g (f q)) hf, ← hcalls b hb]
    simp [hb]
  rw [enterGroup_eq, hentering, insertWaiting_like hcall (entersBefore_other hother h.unlisted _), modGroup_modCall]
  generalize hu : s.modGroup g _ = u
  have hmembers : (u.group g).members = (s.group g).members := by
    rw [← hu]
    exact group_modGroup_keeps (p := GroupRecord.members) (by simp) s g g
  have hexts : ∀ y, u.ext y = s.ext y := fun y => by rw [← hu]; rfl
  have hqueued : (u.modCall c fun q => s.entering g (f q)).call? c = some (s.entering g (f k)) := by
    rw [← hu]
    exact hcall
  refine advance_waits (k := s.entering g (f k)) hqueued (eligible_none (.inr fun m hm => .inl ?_)) ?_
  · rw [ext_of_modCall, hexts]
    rw [group_of_modCall, hmembers] at hm
    exact h.lines m hm
  · rw [group_of_modCall, hmembers]
    exact h.offered.imp fun m hm => ⟨hm.1, hm.2, by simp [State.entering]⟩

/-! ## The release of the orbit (R93, R95) -/

theorem recallGroup_emptied (t : State) (n : Nat) :
    ((t.modOrbit n OrbitRecord.emptied).orbit n).recallGroup = (t.orbit n).recallGroup := by
  rw [orbit_modOrbit]
  split <;> rfl

/-- The recall of a call that no group takes: it has left its orbit and is diverted (R95). -/
def State.recallDiverted (t : State) (n c : Nat) (k : CallContext) : State :=
  offerRecord { TraceRecord.offered .divert k.priority with
      call := some c, group := (t.orbit n).recallGroup, orbit := some n, detail := k.depth }
    (direct (.divert c t.fallback) ((t.modOrbit n OrbitRecord.emptied).freeCall c))

/-- The recall of a call that nobody of the group can be rung for: it has left its orbit and is QUEUED in the group, at
the place that the calls of `s` give it (R39, R95). -/
def State.recallQueued (s t : State) (n c g : Nat) (k : CallContext) : State :=
  offerRecord { TraceRecord.offered .wait k.recallPriority with call := some c, group := some g }
    (direct (.waitHold c)
      (((offerRecord (recallRecord n c g k.recallPriority) (t.modOrbit n OrbitRecord.emptied)).modGroup g fun r =>
        { r with
          waiting := insertBefore (fun _ b => s.entersBefore (t.recalledTo g k.recallPriority k) b) c
            r.waiting }).modCall c fun q => t.recalledTo g k.recallPriority q))

/-- A call that no group takes leaves its orbit and is diverted. -/
theorem sendToRecallGroup_turnedAway (hoc : (t.orbit n).call = some c) (ha : (t.orbit n).announcePage = none)
    (hc : t.call? c = some k) (h : ∀ g, (t.orbit n).recallGroup = some g → t.TurnsAway g) :
    sendToRecallGroup n t = t.recallDiverted n c k := by
  let u : State := (t.modOrbit n OrbitRecord.emptied).modCall c fun k => { k with orbit := none }
  have hrelease : releaseOrbit n t = u := releaseOrbit_unannounced hoc ha
  have hgroup : (u.orbit n).recallGroup = (t.orbit n).recallGroup := recallGroup_emptied t n
  have hcall : u.call? c = some { k with orbit := none } :=
    call?_modCall_same (s := t.modOrbit n OrbitRecord.emptied) (f := fun k => { k with orbit := none }) hc fun _ => rfl
  have hfree : u.freeCall c = (t.modOrbit n OrbitRecord.emptied).freeCall c := 
    freeCall_modCall (f := fun k => { k with orbit := none }) c (fun _ => rfl) _
  simp only [sendToRecallGroup, hoc, hrelease]
  rw [recallToGroup_turnedAway hcall (by rw [hgroup]; exact h), hgroup, hfree]
  rfl

/-- A call that a group takes leaves its orbit and is QUEUED in the group. -/
theorem sendToRecallGroup_queues (hoc : (t.orbit n).call = some c) (ha : (t.orbit n).announcePage = none)
    (hc : t.call? c = some k) (hg : (t.orbit n).recallGroup = some g) (h : t.QueuesRecall g c)
    (hcalls : ∀ b, b ≠ c → t.call? b = s.call? b) :
    sendToRecallGroup n t = s.recallQueued t n c g k := by
  let u : State := (t.modOrbit n OrbitRecord.emptied).modCall c fun k => { k with orbit := none }
  have hrelease : releaseOrbit n t = u := releaseOrbit_unannounced hoc ha
  have hgroup : (u.orbit n).recallGroup = some g := (recallGroup_emptied t n).trans hg
  have hcall : u.call? c = some { k with orbit := none } :=
    call?_modCall_same (s := t.modOrbit n OrbitRecord.emptied) (f := fun k => { k with orbit := none }) hc fun _ => rfl
  let f : CallContext → CallContext := fun q =>
    { q with kind := .recalled, priority := k.recallPriority, orbit := none }
  have hmod : u.modCall c (fun q => { q with kind := .recalled, priority := k.recallPriority }) =
      (t.modOrbit n OrbitRecord.emptied).modCall c f :=
    modCall_modCall (t.modOrbit n OrbitRecord.emptied) c (fun k => { k with orbit := none }) _ fun _ => rfl
  have hsend : sendToRecallGroup n t = enterGroup g c
      ((offerRecord (recallRecord n c g k.recallPriority) (t.modOrbit n OrbitRecord.emptied)).modCall c f) := by
    rw [modCall_offerRecord, ← hmod]
    simp only [sendToRecallGroup, hoc, hrelease]
    exact recallToGroup_enters (k := { k with orbit := none }) hcall hgroup h.configured h.room
  rw [hsend, State.recallQueued]
  generalize hv : offerRecord (recallRecord n c g k.recallPriority) _ = v
  have hcall' : ∀ b, v.call? b = t.call? b := fun b => by rw [← hv, call_of_offerRecord]; rfl
  have hgroup' : v.group g = t.group g := by rw [← hv, group_of_offerRecord]; rfl
  have hext : ∀ y, v.ext y = t.ext y := fun y => by rw [← hv, ext_of_offerRecord]; rfl
  have hentering : ∀ q, v.entering g q = t.entering g q := fun q => by
    rw [State.entering, hgroup', ← hv, now_of_offerRecord, after_of_offerRecord]
    rfl
  have hqueues : v.QueuesRecall g c :=
    ⟨by rw [hgroup']; exact h.configured, by rw [hgroup']; exact h.unlisted, by rw [hgroup']; exact h.room,
      by simpa only [hgroup', hext] using h.lines, by rw [hgroup']; exact h.offered⟩
  rw [enterGroup_queues (f := f) (fun _ => rfl) ((hcall' c).trans hc) hqueues fun b hb =>
    (hcall' b).trans (hcalls b hb)]
  simp only [hentering]
  rfl

/-! ## The ends of the two timers (R94, R96) -/

theorem held_recallDiverted (t : State) (n c : Nat) (k : CallContext) (g : Nat) :
    (t.recallDiverted n c k).held g = t.held g := by simp [State.recallDiverted]

theorem held_recallQueued (s t : State) (n c g : Nat) (k : CallContext) (h : Nat) :
    (s.recallQueued t n c g k).held h = t.held h := by
  simp only [State.recallQueued, held_of_offerRecord, held_of_direct, held_of_modCall]
  rw [held_of_modGroup (by simp), held_of_offerRecord, held_of_modOrbit]

theorem ext_recallDiverted (t : State) (n c : Nat) (k : CallContext) (y : Nat) :
    (t.recallDiverted n c k).ext y = t.ext y := by simp [State.recallDiverted]

theorem ext_recallQueued (s t : State) (n c g : Nat) (k : CallContext) (y : Nat) :
    (s.recallQueued t n c g k).ext y = t.ext y := by simp [State.recallQueued]

/-- A change that keeps every hold releases none. -/
theorem releasingHolds_eq {f : State → State} {u : State} (hf : f t = u) (hheld : ∀ g, u.held g = t.held g) :
    releasingHolds f t = u := by
  subst hf
  exact releasingHolds_keeps fun g hg => (hheld g).trans hg

theorem endPark_toParker (hoc : (s.orbit n).call = some c) (hp : (s.orbit n).parker = some x)
    (hmode : (s.orbit n).recallMode = .parkerThenGroup) (hl : (s.ext x).line = .idle)
    (hx : (s.ext x).ringing = none) : endPark n s = recallToParker n c x s := by
  simp [endPark, hoc, hp, hmode, hl, hx]

theorem endPark_toGroup (hoc : (s.orbit n).call = some c) (hp : (s.orbit n).parker = some x)
    (h : (s.orbit n).recallMode ≠ .parkerThenGroup ∨ (s.ext x).line ≠ .idle ∨ (s.ext x).ringing ≠ none) :
    endPark n s = releasingHolds (sendToRecallGroup n) s := by
  have hnot : ((s.orbit n).recallMode = .parkerThenGroup && (s.ext x).line = .idle
      && (s.ext x).ringing.isNone) = false := by
    rw [Bool.eq_false_iff]
    simp only [ne_eq, Bool.and_eq_true, decide_eq_true_eq, Option.isNone_iff_eq_none]
    tauto
  simp only [endPark, hoc, hp, hnot, Bool.false_eq_true, if_false]

/-- The end of a recall ring at an extension of no group: the mark is cleared and the call recalled (R96). -/
theorem endRecall_toGroup {u : State} (hoc : (s.orbit n).call = some c) (hp : (s.orbit n).parker = some x)
    (hm : (s.ext x).memberOf = []) (hsend : sendToRecallGroup n (clearMark x c (some .noAnswer) s) = u)
    (hheld : ∀ g, u.held g = (clearMark x c (some .noAnswer) s).held g)
    (hext : u.ext x = (clearMark x c (some .noAnswer) s).ext x) : endRecall n s = u := by
  simp only [endRecall, hoc, hp]
  rw [releasingHolds_eq hsend hheld, arbitrate_noGroup]
  rw [hext]
  exact (memberOf_modExt (by simp) s x x).trans hm

/-- The context that a divert frees takes the stop of its ring with it. -/
theorem recallDiverted_clearMark (k : CallContext) (x : Nat) :
    (clearMark x c (some .noAnswer) s).recallDiverted n c { k with ringing := k.ringing.filter (· != x) } =
      offerRecord { TraceRecord.offered .divert k.priority with
          call := some c, group := (s.orbit n).recallGroup, orbit := some n, detail := k.depth }
        (direct (.divert c s.fallback) { (clearMark x c (some .noAnswer) s).modOrbit n OrbitRecord.emptied with
          calls := s.calls.filter fun k => k.ref != c }) := by
  have hcalls : (clearMark x c (some .noAnswer) s).calls.filter (fun k => k.ref != c) =
      s.calls.filter fun k => k.ref != c :=
    congrArg State.calls (freeCall_modCall (f := fun k => { k with ringing := k.ringing.filter (· != x) }) c
      (fun _ => rfl) (s.modExt x fun r => { r with ringing := none }))
  rw [State.recallDiverted, State.freeCall, modOrbit_calls, hcalls]
  rfl

/-- Settles O41: each end of a timer by the recall it brings, to the parker, into the group, or to the fallback
destination. -/
theorem orbitTimersRecall : Obligations.OrbitTimersRecall := by
  intro n c x d k s hrun hn hx hoc hp hc hd now freed diverted recalled takesIt turnedAway
  have hqueues : ∀ {g : Nat}, takesIt g → s.QueuesRecall g c :=
    fun ⟨hcfg, hw, hroom, hl, ho⟩ => ⟨hcfg, hw, hroom, hl, ho⟩
  refine ⟨fun hdue hmode hl hring => ?_, fun hdue hmode ha => ⟨fun hturned => ?_, fun g hg htakes => ?_⟩,
    fun hdue _ ha hm => ?_⟩
  · rw [exec_parkTimerExpiry_due hrun hdue hd, endPark_toParker hoc hp hmode hl hring, recallToParker_free hring]
    rfl
  · rw [exec_parkTimerExpiry_due hrun hdue hd, endPark_toGroup hoc hp hmode,
      releasingHolds_eq (sendToRecallGroup_turnedAway hoc ha hc hturned) (held_recallDiverted s n c k)]
    rfl
  · rw [exec_parkTimerExpiry_due hrun hdue hd, endPark_toGroup hoc hp hmode,
      releasingHolds_eq (sendToRecallGroup_queues hoc ha hc hg (hqueues htakes) fun _ _ => rfl)
        (held_recallQueued s s n c g k)]
    rfl
  · intro silent
    have hcall : silent.call? c = some { k with ringing := k.ringing.filter (· != x) } :=
      call?_clearMark (x := x) (reason := some .noAnswer) hc
    rw [exec_recallRingExpiry_due hrun hdue hd]
    refine ⟨fun hturned => ?_, fun g hg htakes => ?_⟩
    · rw [endRecall_toGroup hoc hp hm (sendToRecallGroup_turnedAway hoc ha hcall hturned)
        (held_recallDiverted silent n c _) (ext_recallDiverted silent n c _ x), recallDiverted_clearMark]
      rfl
    · have h := hqueues htakes
      have hsilent : silent.QueuesRecall g c :=
        ⟨h.configured, h.unlisted, h.room, fun m hm => by
          have hline : (silent.ext m.ext).line = (s.ext m.ext).line := line_modExt (by simp) s x m.ext
          rw [hline]
          exact h.lines m hm, h.offered⟩
      have hothers : ∀ b, b ≠ c → silent.call? b = s.call? b := fun b hb => by
        simp [silent, call?_modCall, hb]
      rw [endRecall_toGroup hoc hp hm (sendToRecallGroup_queues hoc ha hcall hg hsilent hothers)
        (held_recallQueued s silent n c g _) (ext_recallQueued s silent n c g _ x)]
      rfl

end Sys2Proof.Machine
end

section
/-! PROOF. PARK-ASK: its checks, the park of a call, and what becomes of its announcement (R90 to R92, R106, R111,
R120). -/

namespace Sys2Proof.Machine

variable {s t : State} {n set x : Nat} {k : CallContext} {tag : Byte} {p : List Byte} {a : Answer} {op : ParkAskOp}

theorem exec_parkAsk_answers (hr : ParkAskOp.read p = some op) (ht : s.Takes ⟨0x07, tag, p⟩)
    (ha : parkAsk op s = (t, a)) :
    exec (.parkAsk tag p) s = .next (answered ⟨0x07, tag, p⟩ a.verdict a.body t) :=
  congrArg Host.Outcome.next (takeKind_answers ht hr ha)

/-! ## The FREE orbit with the lowest number (R90) -/

theorem freeOrbit_none (h : ∀ n, n ≤ 31 → (s.orbit n).state ≠ .free) : s.freeOrbit = none :=
  List.find?_eq_none.2 fun n hn => by simpa using h n (Nat.lt_succ_iff.1 (List.mem_range.1 hn))

theorem freeOrbit_lowest (hn : n ≤ 31) (hfree : (s.orbit n).state = .free)
    (hlow : ∀ j, j < n → (s.orbit j).state ≠ .free) : s.freeOrbit = some n :=
  List.find?_range_eq_some.2
    ⟨decide_eq_true hfree, List.mem_range.2 (Nat.lt_succ_of_le hn), fun j hj => by simpa using hlow j hj⟩

/-! ## The checks (R90) -/

/-- The values that the fields of a PARK-ASK may have (R90). -/
abbrev ParkAskOp.InRange (op : ParkAskOp) : Prop :=
  1 ≤ op.call ∧ op.call ≤ 65534 ∧ op.parker ≤ 1023 ∧ op.announce ≤ 1 ∧ ∀ n, op.orbit = some n → n ≤ 31

theorem ParkAskOp.InRange.flag (h : op.InRange) : readFlag op.announce = some (decide (op.announce = 1)) := by
  obtain ⟨-, -, -, ha, -⟩ := h
  rw [readFlag_eq, if_neg (Nat.not_lt.2 ha)]

theorem ParkAskOp.fields_iff : (badRef op.call || 1023 < op.parker || badSet op.orbit) = false ↔
    1 ≤ op.call ∧ op.call ≤ 65534 ∧ op.parker ≤ 1023 ∧ ∀ n, op.orbit = some n → n ≤ 31 := by
  have hset : badSet op.orbit = false ↔ ∀ n, op.orbit = some n → n ≤ 31 := by
    rw [Bool.eq_false_iff, Ne, badSet_iff]
    simp
  have hcall : badRef op.call = false ↔ 1 ≤ op.call ∧ op.call ≤ 65534 := by
    rw [Bool.eq_false_iff, Ne, badRef_iff]
    omega
  rw [Bool.or_eq_false_iff, Bool.or_eq_false_iff, hset, hcall, decide_eq_false_iff_not, Nat.not_lt, and_assoc,
    and_assoc]

theorem ParkAskOp.InRange.fields (h : op.InRange) :
    (badRef op.call || 1023 < op.parker || badSet op.orbit) = false := by
  obtain ⟨h1, h2, hx, -, ho⟩ := h
  exact ParkAskOp.fields_iff.2 ⟨h1, h2, hx, ho⟩

theorem parkAsk_outOfRange (h : ¬op.InRange) : parkAsk op s = (s, .refused .outOfRange) := by
  by_cases ha : 1 < op.announce
  · simp only [parkAsk, readFlag_eq, ha, if_true]
  · have hfields : (badRef op.call || 1023 < op.parker || badSet op.orbit) = true := by
      by_contra hf
      obtain ⟨h1, h2, hx, ho⟩ := ParkAskOp.fields_iff.1 (Bool.not_eq_true _ ▸ hf)
      exact h ⟨h1, h2, hx, Nat.not_lt.1 ha, ho⟩
    simp only [parkAsk, readFlag_eq, ha, hfields, if_true, if_false]

theorem parkAsk_noSuchCall (h : op.InRange) (hc : s.call? op.call = none) :
    parkAsk op s = (s, .refused .noSuchCall) := by
  simp only [parkAsk, h.flag, h.fields, hc, Bool.false_eq_true, if_false]

theorem parkAsk_wrongState (h : op.InRange) (hc : s.call? op.call = some k)
    (hk : k.state ≠ .connected ∨ k.connected ≠ some op.parker) : parkAsk op s = (s, .refused .wrongState) := by
  simp only [parkAsk, h.flag, h.fields, hc, Bool.false_eq_true, if_false]
  exact if_pos (by simpa using hk)

/-- The request names a call that is connected to the parker (R90). -/
structure State.CanPark (s : State) (op : ParkAskOp) (k : CallContext) : Prop where
  range : op.InRange
  call : s.call? op.call = some k
  state : k.state = .connected
  parker : k.connected = some op.parker

theorem State.CanPark.connected (h : s.CanPark op k) :
    (k.state ≠ .connected || k.connected ≠ some op.parker) = false := by simp [h.state, h.parker]

theorem parkAsk_named (h : s.CanPark op k) (ho : op.orbit = some n) :
    parkAsk op s = if (s.orbit n).state ≠ .free then (s, .busy) else park k op.parker n (op.announce = 1) s := by
  have hfields := ho ▸ h.range.fields
  simp only [parkAsk, h.range.flag, hfields, h.call, h.connected, ho, Bool.false_eq_true, if_false]

theorem parkAsk_full (h : s.CanPark op k) (ho : op.orbit = none) (hfull : s.freeOrbit = none) :
    parkAsk op s = (s, .refused .tableFull) := by
  have hfields := ho ▸ h.range.fields
  simp only [parkAsk, h.range.flag, hfields, h.call, h.connected, ho, hfull, Bool.false_eq_true, if_false]

theorem parkAsk_lowest (h : s.CanPark op k) (ho : op.orbit = none) (hfree : s.freeOrbit = some n) :
    parkAsk op s = park k op.parker n (op.announce = 1) s := by
  have hfields := ho ▸ h.range.fields
  simp only [parkAsk, h.range.flag, hfields, h.call, h.connected, ho, hfree, Bool.false_eq_true, if_false]

/-- A call is parked in the FREE orbit that the request names, or in the lowest one when it names none. -/
theorem parkAsk_parks (h : s.CanPark op k) (hn : n ≤ 31) (hfree : (s.orbit n).state = .free)
    (ho : op.orbit = some n ∨ (op.orbit = none ∧ ∀ j, j < n → (s.orbit j).state ≠ .free)) :
    parkAsk op s = park k op.parker n (op.announce = 1) s := by
  rcases ho with hnamed | ⟨hnone, hlow⟩
  · rw [parkAsk_named h hnamed, if_neg (not_not.2 hfree)]
  · exact parkAsk_lowest h hnone (freeOrbit_lowest hn hfree hlow)

/-! ## The park (R91) -/

/-- The park's effect on the tables, ahead of its directive (R91). -/
theorem parkCall_eq (c x n : Nat) (s : State) : parkCall c x n s = direct (.parkHold c n)
    (((s.modOrbit n fun r =>
      { r with state := .held, call := some c, parker := some x, parkDue := some (s.after r.parkTime) }).modCall c
        fun k => { k with state := .parked, connected := none, orbit := some n }).modExt x fun r =>
          { r with line := if r.line = .inCall then .offhook else r.line }) := by
  simp only [parkCall, modOrbit_direct, modOrbit_modExt, modOrbit_modCall, modOrbit_modOrbit]
  rfl

/-- A field of an orbit that a change keeps. -/
theorem orbit_modOrbit_keeps {α : Type} {p : OrbitRecord → α} {f : OrbitRecord → OrbitRecord}
    (hf : ∀ r, p (f r) = p r) (s : State) (n i : Nat) : p ((s.modOrbit n f).orbit i) = p (s.orbit i) := by
  rw [orbit_modOrbit]
  split
  · exact hf _
  · rfl

theorem announceSet_parkCall (c x n : Nat) (s : State) (i : Nat) :
    ((parkCall c x n s).orbit i).announceSet = (s.orbit i).announceSet := by
  simp only [parkCall_eq, orbit_of_direct, orbit_of_modExt, orbit_of_modCall]
  exact orbit_modOrbit_keeps (p := OrbitRecord.announceSet) (by simp) s n i

/-- A park with its reply, once its announcement is known. -/
theorem park_announces {asked : Bool} {what : Announcement} {page : Option Nat}
    (h : announce n x asked (parkCall k.ref x n s) = (t, what, page)) :
    park k x n asked s = (offerRecord (parkRecord k x n) t, .okWith (.parked n what page)) := by
  simp only [park, h]

/-! ## The announcement (R91, R92, R111) -/

theorem announce_notAsked (n x : Nat) (s : State) : announce n x false s = (s, .notAsked, none) := rfl

theorem announce_noZoneSet (h : (s.orbit n).announceSet = none) :
    announce n x true s = (s, .noZoneSet, none) := by simp [announce, h]

/-- An announcement is refused when no zone of the set can be used, or no general record is left (R111). -/
theorem announce_notPlaced (hset : (s.orbit n).announceSet = some set)
    (h : s.targetOf .normal (s.zoneSet set) = 0 ∨ Config.generalRecords ≤ s.generalPages) :
    announce n x true s = (s, .notPlaced, none) := by
  have hrefused : ∃ r, s.admissionRefusal (announcementRequest n x (s.zoneSet set)) = some r := by
    by_cases ht : s.targetOf .normal (s.zoneSet set) = 0
    · exact ⟨.allExcluded, by simp [State.admissionRefusal, announcementRequest, ht]⟩
    · refine ⟨.tableFull, ?_⟩
      rw [State.admissionRefusal, announcementRequest, if_neg ht]
      simp [h.resolve_left ht]
  obtain ⟨r, hr⟩ := hrefused
  simp [announce, hset, hr]

/-- A NORMAL request, whoever makes it, whose zones are all faulted is admitted and stays QUEUED (R111, R120). -/
theorem admitPage_allFaulted {q : PageRequest} (hcls : q.cls = .normal) (hmode : q.mode = .partially)
    (hp : s.pages = []) (hq : s.ZonesQuiet)
    (h : ∀ z, zoneIn (s.targetOf q.cls q.zones) z = true → (s.amp z).fault ≠ none) :
    admitPage q s = direct (.pageState (s.lastPageId % 255 + 1) .queued none)
      { linkRequester q.requester (s.lastPageId % 255 + 1) s with
        lastPageId := s.lastPageId % 255 + 1, nextArrival := s.nextArrival + 1, pages := [s.firstPage q] } := by
  generalize hu : direct _ _ = u
  have hadmit : admitPage q s = schedule u := by
    simp only [admitPage, nextPageId_noPages hp, hp, List.nil_append, pageState, ← hu, State.firstPage]
    cases q.requester <;> rfl
  have hpages : u.pages = [s.firstPage q] := by rw [← hu]; rfl
  have hamp : ∀ z, u.amp z = s.amp z := fun z => by rw [← hu]; cases q.requester <;> rfl
  have hquiet : u.ZonesQuiet := by
    rw [← hu]
    cases q.requester <;> exact ⟨hq.idle, hq.uncovered⟩
  rw [hadmit]
  exact schedule_waits hpages rfl hquiet (canStart_faulted hcls hmode fun z hz => by
    rw [hamp]
    exact h z hz)

/-- An announcement whose zones are all faulted becomes a QUEUED page of the parker's voice, which the orbit holds. -/
theorem announce_placed (hset : (s.orbit n).announceSet = some set)
    (htarget : s.targetOf .normal (s.zoneSet set) ≠ 0) (hp : s.pages = []) (hq : s.ZonesQuiet)
    (h : ∀ z, zoneIn (s.targetOf .normal (s.zoneSet set)) z = true → (s.amp z).fault ≠ none) :
    announce n x true s =
      (direct (.pageState (s.lastPageId % 255 + 1) .queued none)
        { s.modOrbit n fun r => { r with announcePage := some (s.lastPageId % 255 + 1) } with
          lastPageId := s.lastPageId % 255 + 1, nextArrival := s.nextArrival + 1
          pages := [s.firstPage (announcementRequest n x (s.zoneSet set))] },
        .placed, some (s.lastPageId % 255 + 1)) := by
  have hadmissible : s.admissionRefusal (announcementRequest n x (s.zoneSet set)) = none := by
    rw [State.admissionRefusal, announcementRequest, if_neg htarget]
    simp [State.generalPages, hp, Config.generalRecords]
  have hadmitted := admitPage_allFaulted (q := announcementRequest n x (s.zoneSet set)) rfl rfl hp hq h
  simp only [announce, hset, hadmissible, releasingHolds_uncovered hq.uncovered, hadmitted, nextPageId_noPages hp,
    Bool.not_true, Bool.false_eq_true, if_false]
  rfl

/-- Settles O40: the checks, the park, and what becomes of the announcement. -/
theorem parkAskHoldsCall : Obligations.ParkAskHoldsCall := by
  intro tag p o s hr ht range
  refine ⟨fun hrange => exec_parkAsk_answers (a := .refused .outOfRange) hr ht (parkAsk_outOfRange hrange),
    fun hrange hc => exec_parkAsk_answers (a := .refused .noSuchCall) hr ht (parkAsk_noSuchCall hrange hc),
    fun k hrange hc => ⟨fun hk => exec_parkAsk_answers (a := .refused .wrongState) hr ht
      (parkAsk_wrongState hrange hc hk), fun hstate hparker => ?_⟩⟩
  have hcan : s.CanPark o k := ⟨hrange, hc, hstate, hparker⟩
  refine ⟨fun n ho hbusy => ?_, fun ho hfull => ?_, fun n hn hfree ho => ?_⟩
  · exact exec_parkAsk_answers (a := .busy) hr ht (by rw [parkAsk_named hcan ho, if_pos hbusy])
  · exact exec_parkAsk_answers (a := .refused .tableFull) hr ht (parkAsk_full hcan ho (freeOrbit_none hfull))
  intro held parked
  have href : k.ref = o.call := call?_ref hc
  have hheld : parkCall k.ref o.parker n s = held := href ▸ parkCall_eq k.ref o.parker n s
  have hparked : ∀ {a page t}, announce n o.parker (o.announce = 1) held = (t, a, page) → parked a page t := by
    intro a page t hannounced
    refine exec_parkAsk_answers (a := .okWith (.parked n a page)) hr ht ?_
    rw [parkAsk_parks hcan hn hfree ho, park_announces (hheld ▸ hannounced), parkRecord, href]
  have hset : (held.orbit n).announceSet = (s.orbit n).announceSet :=
    hheld ▸ announceSet_parkCall k.ref o.parker n s n
  refine ⟨fun ha => hparked ?_, fun ha hnone => hparked ?_, fun set ha hsome => ⟨fun hrefused => hparked ?_,
    fun htarget hp hq hfault => hparked ?_⟩⟩
  · rw [ha]
    exact announce_notAsked n o.parker held
  · rw [ha]
    exact announce_noZoneSet (hset.trans hnone)
  · rw [ha]
    exact announce_notPlaced (hset.trans hsome) hrefused
  · rw [ha]
    exact announce_placed (s := held) (hset.trans hsome) htarget hp ⟨hq.idle, hq.uncovered⟩ hfault

end Sys2Proof.Machine
end

section
/-! PROOF. The order of pages (R103), and the channel that a page can obtain (R117, R121). -/

namespace Sys2Proof.Machine

variable {s : State} {p q : PageRecord} {k : Nat}

/-! ## Classes and ranks (R103) -/

theorem readClass_order (c : PageClass) : readClass c.order = some c := by cases c <;> rfl

theorem order_inj {c d : PageClass} (h : c.order = d.order) : c = d :=
  Option.some.inj (by rw [← readClass_order c, h, readClass_order d])

theorem rank_emergency (h : p.cls = .emergency) : p.rank = p.alarm.getD 4 := by simp [PageRecord.rank, h]

theorem rank_general (h : p.cls ≠ .emergency) : p.rank = 0 := by simp [PageRecord.rank, h]

theorem outranks_iff : outranks p q = true ↔
    p.cls.order < q.cls.order ∨ (p.cls = .emergency ∧ q.cls = .emergency ∧ p.rank < q.rank) := by
  simp [outranks, and_assoc]

theorem pagePrecedes_iff : pagePrecedes p q = true ↔ p.cls.order < q.cls.order ∨
    (p.cls.order = q.cls.order ∧ (p.rank < q.rank ∨ (p.rank = q.rank ∧ p.arrival < q.arrival))) := by
  simp [pagePrecedes]

/-- A page of a lower class, other than EMERGENCY, is outranked by no page of a higher one. -/
theorem outranks_false_of_order (hp : p.cls ≠ .emergency) (h : q.cls.order ≤ p.cls.order) : outranks p q = false := by
  rw [Bool.eq_false_iff, Ne, outranks_iff]
  rintro (h' | ⟨h', -⟩)
  · omega
  · exact hp h'

/-- The page that outranks another comes before it. -/
theorem precedes_of_outranks (h : outranks p q = true) : pagePrecedes p q = true ∧ pagePrecedes q p = false := by
  rw [Bool.eq_false_iff, Ne, pagePrecedes_iff, pagePrecedes_iff]
  rcases outranks_iff.1 h with h | ⟨hp, hq, h⟩
  · omega
  · rw [hp, hq]
    omega

/-- Two pages that neither outranks the other are of one class and rank. -/
theorem peers_of_not_outranks (hpq : outranks p q = false) (hqp : outranks q p = false) :
    p.cls = q.cls ∧ p.rank = q.rank := by
  rw [Bool.eq_false_iff, Ne, outranks_iff, not_or, Nat.not_lt] at hpq hqp
  have hcls : p.cls = q.cls := order_inj (Nat.le_antisymm hqp.1 hpq.1)
  refine ⟨hcls, ?_⟩
  by_cases he : p.cls = .emergency
  · have hq : q.cls = .emergency := hcls ▸ he
    exact Nat.le_antisymm (Nat.not_lt.1 fun h => hqp.2 ⟨hq, he, h⟩) (Nat.not_lt.1 fun h => hpq.2 ⟨he, hq, h⟩)
  · rw [rank_general he, rank_general (hcls ▸ he)]

/-- Peers come in the order of their arrival. -/
theorem precedes_of_peers (hpq : outranks p q = false) (hqp : outranks q p = false) :
    pagePrecedes p q = true ↔ p.arrival < q.arrival := by
  obtain ⟨hcls, hrank⟩ := peers_of_not_outranks hpq hqp
  simp [pagePrecedes_iff, hcls, hrank]

/-- A zone that sounds for a page is usable for those alone that outrank it (R120). -/
theorem usable_sounding {z : Nat} (hq : s.page? q.id = some q)
    (hz : (s.zone z).state = .opening q.id ∨ (s.zone z).state = .live q.id) :
    s.usable p z = (s.usableBase p z && outranks p q) := by
  rcases hz with hz | hz <;> simp [State.usable, hz, State.outranked, hq]

/-- Settles O43: the order of classes, then the ranks of inputs 0 to 3 before the host's. -/
theorem pagePrecedence : Obligations.PagePrecedence := by
  refine ⟨fun c => Nat.zero_le _, by decide, by decide, by decide, fun p q hp hq => ?_⟩
  intro higherRank
  have hrank : p.cls = .emergency → q.cls = .emergency → (p.rank < q.rank ↔ higherRank) := by
    intro hpe hqe
    simp only [rank_emergency hpe, rank_emergency hqe, higherRank]
    cases hpa : p.alarm with
    | none =>
      cases hqa : q.alarm with
      | none => simp
      | some j => simpa using Nat.le_succ_of_le (hq j hqa)
    | some i =>
      cases q.alarm with
      | none => simpa using Nat.lt_succ_of_le (hp i hpa)
      | some j => simp
  refine ⟨?_, precedes_of_outranks, precedes_of_peers, fun s z hpage hz hno => ?_⟩
  · rw [outranks_iff]
    exact or_congr_right (and_congr_right fun hpe => and_congr_right fun hqe => hrank hpe hqe)
  · rw [usable_sounding hpage hz, hno, Bool.and_false]

/-! ## Channels (R117, R121) -/

theorem freeChannel_lowest (hk : k ≤ 5) (hfree : s.holder k = none) (hlow : ∀ j, j < k → s.holder j ≠ none) :
    s.freeChannel = some k :=
  List.find?_range_eq_some.2 ⟨by simp [hfree], List.mem_range.2 (by omega), fun j hj => by
    simpa [Option.isSome_iff_ne_none] using hlow j hj⟩

theorem freeChannel_none (h : ∀ j, j ≤ 5 → s.holder j ≠ none) : s.freeChannel = none :=
  List.find?_eq_none.2 fun j hj => by
    simpa [Option.isSome_iff_ne_none] using h j (Nat.lt_succ_iff.1 (List.mem_range.1 hj))

theorem channelFor_free (hp : p.cls ≠ .emergency) (h : s.freeChannel = some k) : s.channelFor p = some (k, none) := by
  unfold State.channelFor
  cases hcls : p.cls with
  | emergency => exact absurd hcls hp
  | urgent => simp [h]
  | normal => simp [h]
  | background => simp [h]

/-- The record that is better than every other one of the list is found, wherever it stands. -/
theorem firstBest_strict {α : Type} {better : α → α → Bool} {l : List α} {a : α} (ha : a ∈ l)
    (hbest : ∀ b ∈ l, b ≠ a → better a b = true ∧ better b a = false) (hself : better a a = false) :
    firstBest better l = some a := by
  have hkeeps : ∀ l : List α, (∀ b ∈ l, better b a = false) →
      l.foldl (fun best b => if better b best then b else best) a = a := by
    intro l hl
    induction l with
    | nil => rfl
    | cons b l ih =>
      rw [List.foldl_cons, if_neg (by simp [hl b (by simp)])]
      exact ih fun c hc => hl c (by simp [hc])
  have hworse : ∀ b ∈ l, better b a = false := fun b hb => by
    by_cases hba : b = a
    · rw [hba, hself]
    · exact (hbest b hb hba).2
  have hfinds : ∀ (l : List α) (c : α), a ∈ c :: l → (∀ b ∈ c :: l, b ≠ a → better a b = true) →
      (∀ b ∈ l, better b a = false) → l.foldl (fun best b => if better b best then b else best) c = a := by
    intro l
    induction l with
    | nil => intro c hc _ _; simpa using (List.mem_singleton.1 hc).symm
    | cons b l ih =>
      intro c hc hb hl
      by_cases hca : c = a
      · rw [hca]
        exact hkeeps _ hl
      · rw [List.foldl_cons]
        by_cases hba : b = a
        · rw [hba, if_pos (hb c (by simp) hca)]
          exact hkeeps _ fun d hd => hl d (by simp [hd])
        · have hmem : a ∈ l := by simpa [Ne.symm hca, Ne.symm hba] using hc
          refine ih _ (by simp [hmem]) ?_ fun d hd => hl d (by simp [hd])
          intro d hd
          refine hb d ?_
          split at hd <;> simp only [List.mem_cons] at hd ⊢ <;> tauto
  cases l with
  | nil => simp at ha
  | cons c l =>
    rw [firstBest, hfinds l c ha (fun b hb hba => (hbest b hb hba).1) fun b hb => hworse b (by simp [hb])]

theorem holder_channel {j : Nat} (h : s.holder j = some p) : p.channel = some j := by
  simpa using List.find?_some h

/-- With every general channel held, the holder of the lowest class and latest arrival is the one that gives up its
own (R121). -/
theorem expendable_last {h : Nat → PageRecord} (hall : ∀ j, j ≤ 5 → s.holder j = some (h j)) (hk : k ≤ 5)
    (hlast : ∀ j, j ≤ 5 → j ≠ k → (h j).cls.order < (h k).cls.order ∨
      ((h j).cls.order = (h k).cls.order ∧ (h j).arrival < (h k).arrival)) : s.expendable = some (h k) := by
  have hlist : (List.range 6).filterMap s.holder = (List.range 6).map h := by
    rw [← List.filterMap_eq_map]
    exact List.filterMap_congr fun j hj => hall j (Nat.lt_succ_iff.1 (List.mem_range.1 hj))
  rw [State.expendable, hlist]
  refine firstBest_strict (List.mem_map.2 ⟨k, List.mem_range.2 (by omega), rfl⟩) ?_ (by simp)
  rintro b hb hbk
  obtain ⟨j, hj, rfl⟩ := List.mem_map.1 hb
  have hj5 : j ≤ 5 := Nat.lt_succ_iff.1 (List.mem_range.1 hj)
  have hlower := hlast j hj5 fun hjk => hbk (by rw [hjk])
  constructor
  · simp only [Bool.or_eq_true, Bool.and_eq_true, decide_eq_true_eq]
    omega
  · simp only [Bool.or_eq_false_iff, decide_eq_false_iff_not, Bool.and_eq_false_imp, decide_eq_true_eq]
    omega

theorem channelFor_background (hp : p.cls = .background) (h : s.freeChannel = none) : s.channelFor p = none := by
  simp [State.channelFor, hp, h]

theorem channelFor_takes (hp : p.cls ≠ .emergency) (hb : p.cls ≠ .background) (h : s.freeChannel = none)
    (he : s.expendable = some q) (hq : q.channel = some k) :
    s.channelFor p = if p.cls.order < q.cls.order then some (k, some q.id) else none := by
  unfold State.channelFor
  cases hcls : p.cls with
  | emergency => exact absurd hcls hp
  | urgent => simp [h, he, hq]
  | normal => simp [h, he, hq]
  | background => exact absurd hcls hb

theorem channelFor_emergency_free (hp : p.cls = .emergency) (h : s.holder 6 = none) :
    s.channelFor p = some (6, none) := by simp [State.channelFor, hp, h]

/-- EC is taken from the page that holds it when that page is outranked (R117, R121). -/
theorem channelFor_emergency_held (hp : p.cls = .emergency) (h : s.holder 6 = some q) :
    s.channelFor p = if outranks p q = true then some (6, some q.id) else none := by
  simp [State.channelFor, hp, h]

end Sys2Proof.Machine
end

section
/-! PROOF. Frames that join the output queue one after the other, and the pages of a table of one or two (R106,
R190). -/

namespace Sys2Proof.Machine

variable {s t : State} {q r : PageRecord}

/-! ## Frames (R190) -/

/-- Several frames join the queue, or are dropped, in order. -/
def LinkUnit.putAll (l : LinkUnit) (fs : List OutFrame) : LinkUnit := fs.foldl LinkUnit.put l

@[simp] theorem putAll_nil (l : LinkUnit) : l.putAll [] = l := rfl

@[simp] theorem put_putAll (l : LinkUnit) (fs : List OutFrame) (f : OutFrame) :
    (l.putAll fs).put f = l.putAll (fs ++ [f]) := by simp [LinkUnit.putAll]

@[simp] theorem putAll_putAll (l : LinkUnit) (fs gs : List OutFrame) :
    (l.putAll fs).putAll gs = l.putAll (fs ++ gs) := by simp [LinkUnit.putAll]

/-- Unsolicited frames all find their places while there is room for all of them. -/
theorem putAll_output {fs : List OutFrame} (hfs : ∀ f ∈ fs, f.unsolicited = true) : ∀ {l : LinkUnit},
    l.output.length + fs.length ≤ 48 → unsolicitedCount l.output + fs.length ≤ 40 →
    l.putAll fs = { l with output := l.output ++ fs } := by
  induction fs with
  | nil => intro l _ _; simp
  | cons f fs ih =>
    intro l hl hu
    simp only [List.length_cons] at hl hu
    have hf : f.unsolicited = true := hfs f (by simp)
    have hput : l.put f = { l with output := l.output ++ [f] } := put_joins (by
      have hroom : l.output.length < 48 ∧ unsolicitedCount l.output < 40 := by omega
      simp [mayJoin, Config.outputPlaces, Config.unsolicitedPlaces, hroom])
    have hcount : unsolicitedCount (l.output ++ [f]) = unsolicitedCount l.output + 1 := by
      simp [unsolicitedCount, List.filter_append, hf]
    have hrest := ih (fun g hg => hfs g (by simp [hg])) (l := { l with output := l.output ++ [f] })
      (by simp only [List.length_append, List.length_singleton]; omega) (by simp only [hcount]; omega)
    rw [show l.putAll (f :: fs) = (l.put f).putAll fs from rfl, hput, hrest]
    simp

/-- The frames of a taken request and its reply find their places (R188, R190). -/
theorem output_answered_all {f : Frame} {v : Verdict} {b : ReplyBody} {fs : List OutFrame} (ht : s.Takes f)
    (hl : t.link = s.link.putAll fs) (hfs : ∀ f ∈ fs, f.unsolicited = true) (hn : fs.length ≤ 8)
    (hu : unsolicitedCount s.link.output + fs.length ≤ 40) :
    (answered f v b t).link.output = s.link.output ++ fs ++ [.reply (replyKind f.kind) f.tag v b] := by
  have hroom : s.link.output.length < 40 := ht.room
  rw [answered, hl, putAll_output hfs (by omega) hu]
  dsimp only
  rw [put_joins (mayJoin_reply (by
    simp only [Config.outputPlaces, List.length_append]
    omega) _ _ _ _)]

/-! ## Small tables of pages -/

theorem page?_first (h : s.pages = [q, r]) : s.page? q.id = some q := by simp [State.page?, h]

theorem page?_second (h : s.pages = [q, r]) (hne : q.id ≠ r.id) : s.page? r.id = some r := by
  simp [State.page?, h, hne]

theorem modPage_sole (h : s.pages = [r]) (f : PageRecord → PageRecord) :
    s.modPage r.id f = { s with pages := [f r] } := by simp [State.modPage, h]

theorem modPage_second (h : s.pages = [q, r]) (hne : q.id ≠ r.id) (f : PageRecord → PageRecord) :
    s.modPage r.id f = { s with pages := [q, f r] } := by simp [State.modPage, h, hne]

theorem modPage_first (h : s.pages = [q, r]) (hne : q.id ≠ r.id) (f : PageRecord → PageRecord) :
    s.modPage q.id f = { s with pages := [f q, r] } := by simp [State.modPage, h, hne.symm]

theorem dropPage_sole (h : s.pages = [r]) : s.dropPage r.id = { s with pages := [] } := by simp [State.dropPage, h]

theorem dropPage_first (h : s.pages = [q, r]) (hne : q.id ≠ r.id) : s.dropPage q.id = { s with pages := [r] } := by
  simp [State.dropPage, h, hne.symm]

theorem pagesInOrder_sole (h : s.pages = [r]) {p : PageRecord → Bool} (hp : p r = true) : s.pagesInOrder p = [r] := by
  simp [State.pagesInOrder, h, hp, sortBy, insertBefore]

/-- The next id after the last one, while no page holds it (R106). -/
theorem nextPageId_free (h : s.page? (s.lastPageId % 255 + 1) = none) : s.nextPageId = s.lastPageId % 255 + 1 := by
  simp [State.nextPageId, h, List.range_succ_eq_map (n := 254)]

/-! ## Views after a change of the pages or the coverage -/

@[simp] theorem zone_of_modPage (p : Nat) (f : PageRecord → PageRecord) (s : State) (y : Nat) :
    (s.modPage p f).zone y = s.zone y := rfl
@[simp] theorem amp_of_modPage (p : Nat) (f : PageRecord → PageRecord) (s : State) (y : Nat) :
    (s.modPage p f).amp y = s.amp y := rfl
@[simp] theorem zone_of_dropPage (p : Nat) (s : State) (y : Nat) : (s.dropPage p).zone y = s.zone y := rfl
@[simp] theorem amp_of_dropPage (p : Nat) (s : State) (y : Nat) : (s.dropPage p).amp y = s.amp y := rfl
@[simp] theorem zone_of_signalCoverage (s : State) (y : Nat) : (signalCoverage s).zone y = s.zone y := rfl
@[simp] theorem amp_of_signalCoverage (s : State) (y : Nat) : (signalCoverage s).amp y = s.amp y := rfl
@[simp] theorem pages_of_signalCoverage (s : State) : (signalCoverage s).pages = s.pages := rfl
@[simp] theorem link_of_signalCoverage (s : State) : (signalCoverage s).link = s.link := rfl
@[simp] theorem trace_of_signalCoverage (s : State) : (signalCoverage s).trace = s.trace := rfl

end Sys2Proof.Machine
end

section
/-! PROOF. What the transitions of zones do, to the zone, to the others and to the rest of the state (R113, R114, R138,
R154). -/

namespace Sys2Proof.Machine

variable {s t u : State} {z y : Nat}

/-! ## What stays -/

/-- What no change of a page or a zone touches, but for the reports of a page's end to the blocks that asked for it. -/
structure Kept (s t : State) : Prop where
  map : t.map = s.map
  paging : t.paging = s.paging
  clock : t.clock = s.clock
  exts : t.exts = s.exts
  calls : t.calls = s.calls
  groups : t.groups = s.groups
  orbits : t.orbits = s.orbits
  inputs : t.inputs = s.inputs
  gain : ∀ z c, t.gainCode z c = s.gainCode z c

/-- The state has changed in its zones, their amplifiers, their limit marks and the exchange in flight alone. -/
structure Moved (s t : State) : Prop extends Kept s t where
  pages : t.pages = s.pages
  link : t.link = s.link
  trace : t.trace = s.trace
  covered : t.covered = s.covered

theorem Kept.refl (s : State) : Kept s s := ⟨rfl, rfl, rfl, rfl, rfl, rfl, rfl, rfl, fun _ _ => rfl⟩

theorem Kept.trans (h : Kept s t) (g : Kept t u) : Kept s u :=
  ⟨g.map.trans h.map, g.paging.trans h.paging, g.clock.trans h.clock, g.exts.trans h.exts, g.calls.trans h.calls,
    g.groups.trans h.groups, g.orbits.trans h.orbits, g.inputs.trans h.inputs,
    fun z c => (g.gain z c).trans (h.gain z c)⟩

theorem Moved.refl (s : State) : Moved s s := ⟨Kept.refl s, rfl, rfl, rfl, rfl⟩

theorem Moved.trans (h : Moved s t) (g : Moved t u) : Moved s u :=
  ⟨h.toKept.trans g.toKept, g.pages.trans h.pages, g.link.trans h.link, g.trace.trans h.trace,
    g.covered.trans h.covered⟩

/-- Changes of the pages, the frames, the trace and the coverage keep what a page's changes keep. -/
theorem Kept.of_pages (s : State) (pages : List PageRecord) (link : LinkUnit) (trace : TraceUnit) (covered : ZoneSet) :
    Kept s { s with pages := pages, link := link, trace := trace, covered := covered } :=
  ⟨rfl, rfl, rfl, rfl, rfl, rfl, rfl, rfl, fun _ _ => rfl⟩

/-- An operation on one zone: what it changes beside is what a transition changes, and no other zone or amplifier. -/
structure ZoneLocal (f : State → Nat → State) : Prop where
  moved : ∀ s z, Moved s (f s z)
  zone : ∀ s z y, y ≠ z → (f s z).zone y = s.zone y
  amp : ∀ s z y, y ≠ z → (f s z).amp y = s.amp y

namespace ZoneLocal

variable {f : State → Nat → State}

theorem foldl_moved (hf : ZoneLocal f) : ∀ (l : List Nat) (s : State), Moved s (l.foldl f s)
  | [], s => Moved.refl s
  | z :: l, s => (hf.moved s z).trans (foldl_moved hf l (f s z))

theorem foldl_other (hf : ZoneLocal f) : ∀ {l : List Nat} (s : State), y ∉ l →
    (l.foldl f s).zone y = s.zone y ∧ (l.foldl f s).amp y = s.amp y
  | [], _, _ => ⟨rfl, rfl⟩
  | z :: l, s, hy => by
    obtain ⟨hz, hl⟩ : y ≠ z ∧ y ∉ l := by simpa using hy
    obtain ⟨hzone, hamp⟩ := foldl_other hf (f s z) hl
    exact ⟨hzone.trans (hf.zone s z y hz), hamp.trans (hf.amp s z y hz)⟩

/-- A zone of the list is changed from a state that has it as it was. -/
theorem foldl_at (hf : ZoneLocal f) : ∀ {l : List Nat} (s : State), l.Nodup → z ∈ l →
    ∃ u, Moved s u ∧ u.zone z = s.zone z ∧ u.amp z = s.amp z ∧
      (l.foldl f s).zone z = (f u z).zone z ∧ (l.foldl f s).amp z = (f u z).amp z
  | [], _, _, hz => absurd hz List.not_mem_nil
  | y :: l, s, hl, hz => by
    obtain ⟨hy, hl⟩ := List.nodup_cons.1 hl
    rw [List.foldl_cons]
    by_cases hzy : z = y
    · obtain ⟨hzone, hamp⟩ := foldl_other hf (f s y) hy
      exact ⟨s, Moved.refl s, rfl, rfl, hzy ▸ hzone, hzy ▸ hamp⟩
    · obtain ⟨u, hu, hzone, hamp, hends⟩ := foldl_at hf (f s y) hl ((List.mem_cons.1 hz).resolve_left hzy)
      exact ⟨u, (hf.moved s y).trans hu, hzone.trans (hf.zone s y z hzy), hamp.trans (hf.amp s y z hzy), hends⟩

end ZoneLocal

/-! ## Entering a state (R113, R138) -/

theorem zone_default (hz : ¬z < 64) (s : State) : s.zone z = PageZone.atReset := tabGet_ge _ _ (Nat.not_lt.1 hz)

theorem zone_lt (h : (s.zone z).state ≠ .idle) : z < 64 := by
  by_contra hz
  exact h (by rw [zone_default hz]; rfl)

theorem handOver_moved (z : Nat) (c : Commanded) (e : Bool) (s : State) : Moved s (handOver z c e s) := by
  unfold handOver
  split
  · exact Moved.refl s
  · exact ⟨⟨rfl, rfl, rfl, rfl, rfl, rfl, rfl, rfl, fun _ _ => rfl⟩, rfl, rfl, rfl, rfl⟩

@[simp] theorem zone_handOver (c : Commanded) (e : Bool) (s : State) : (handOver z c e s).zone y = s.zone y := by
  unfold handOver
  split <;> rfl

theorem amp_handOver_other (hy : y ≠ z) (c : Commanded) (e : Bool) (s : State) :
    (handOver z c e s).amp y = s.amp y := by
  unfold handOver
  split
  · rfl
  · exact (amp_modAmp s z y _).trans (if_neg fun h => hy h.1.symm)

theorem amp_handOver (hz : z < 64) (c : Commanded) (e : Bool) (s : State) : (handOver z c e s).amp z =
    if c = (s.amp z).commanded then s.amp z
    else { s.amp z with commanded := c, deliveryPending := true, emergencyMark := (s.amp z).emergencyMark || e } := by
  unfold handOver
  split
  · rfl
  · exact (amp_modAmp s z z _).trans (if_pos ⟨rfl, hz⟩)

theorem putZone_moved (z : Nat) (pz : PageZone) (c : Commanded) (s : State) : Moved s (putZone z pz c s) :=
  Moved.trans (t := s.modZone z fun _ => pz)
    ⟨⟨rfl, rfl, rfl, rfl, rfl, rfl, rfl, rfl, fun _ _ => rfl⟩, rfl, rfl, rfl, rfl⟩ (handOver_moved z c _ _)

theorem zone_putZone (y : Nat) (pz : PageZone) (c : Commanded) (s : State) :
    (putZone z pz c s).zone y = if z = y ∧ y < 64 then pz else s.zone y := by
  rw [putZone, zone_handOver, zone_modZone]

theorem zone_putZone_other (hy : y ≠ z) (pz : PageZone) (c : Commanded) (s : State) :
    (putZone z pz c s).zone y = s.zone y := by rw [zone_putZone, if_neg fun h => hy h.1.symm]

theorem amp_putZone_other (hy : y ≠ z) (pz : PageZone) (c : Commanded) (s : State) :
    (putZone z pz c s).amp y = s.amp y := amp_handOver_other hy _ _ _

theorem commanded_putZone (hz : z < 64) (pz : PageZone) (c : Commanded) (s : State) :
    ((putZone z pz c s).amp z).commanded = c := by
  rw [putZone, amp_handOver hz]
  split
  · rename_i h
    exact h.symm
  · rfl

/-- A transition leaves every fault as it was. -/
theorem fault_putZone (pz : PageZone) (c : Commanded) (s : State) (y : Nat) :
    ((putZone z pz c s).amp y).fault = (s.amp y).fault := by
  by_cases hy : y = z
  · subst hy
    by_cases hlt : y < 64
    · rw [putZone, amp_handOver hlt]
      split <;> rfl
    · rw [State.amp, State.amp, tabGet_ge _ _ (Nat.not_lt.1 hlt), tabGet_ge _ _ (Nat.not_lt.1 hlt)]
  · rw [amp_putZone_other hy]

theorem putZone_local (pz : State → Nat → PageZone) (c : State → Nat → Commanded) :
    ZoneLocal fun s z => putZone z (pz s z) (c s z) s where
  moved s z := putZone_moved z _ _ s
  zone s _ _ hy := zone_putZone_other hy _ _ s
  amp s _ _ hy := amp_putZone_other hy _ _ s

/-! ## IDLE, CLOSING and OPENING (R114) -/

theorem zoneToIdle_local : ZoneLocal fun s z => zoneToIdle z s := putZone_local _ _

theorem zoneToClosing_local (p : Nat) : ZoneLocal fun s z => zoneToClosing z p s := putZone_local _ _

theorem zone_zoneToIdle (z : Nat) (s : State) : (zoneToIdle z s).zone z = PageZone.atReset := by
  rw [zoneToIdle, zone_putZone]
  split
  · rfl
  · rename_i h
    exact zone_default (fun hz => h ⟨rfl, hz⟩) s

theorem zone_zoneToClosing (hz : z < 64) (p : Nat) (s : State) : (zoneToClosing z p s).zone z =
    { state := .closing p none, chimeDue := none, hangDue := some (s.clock + 100 * s.paging.hangTime) } := by
  rw [zoneToClosing, zone_putZone, if_pos ⟨rfl, hz⟩]
  rfl

/-- The amplifier of a zone that goes IDLE is muted and has no channel (R138). -/
theorem commanded_zoneToIdle (hz : z < 64) (s : State) : ((zoneToIdle z s).amp z).commanded = .idle :=
  commanded_putZone hz _ _ s

/-- The amplifier of a zone that closes is muted over the hang time (R114, R138). -/
theorem commanded_zoneToClosing (hz : z < 64) (p : Nat) (s : State) : ((zoneToClosing z p s).amp z).commanded =
    { (s.amp z).commanded with gain := 255, ramp := s.paging.hangTime, chime := false } := commanded_putZone hz _ _ s

theorem gainCode_limited (x : Nat) (cls : PageClass) (z : Nat) (s : State) :
    (s.modLevel z fun l => { l with limited := true }).gainCode x cls = s.gainCode x cls := by
  have hlevel : ∃ b, (s.modLevel z fun l => { l with limited := true }).level x = { s.level x with limited := b } := by
    rw [level_modLevel]
    split
    · exact ⟨true, rfl⟩
    · exact ⟨(s.level x).limited, rfl⟩
  obtain ⟨b, hlevel⟩ := hlevel
  simp only [State.gainCode, State.unlimitedCode, State.ceilingFor, hlevel]
  rfl

theorem noteLimited_moved (z : Nat) (cls : PageClass) (s : State) : Moved s (noteLimited z cls s) := by
  unfold noteLimited
  split
  · exact Moved.refl s
  · exact ⟨⟨rfl, rfl, rfl, rfl, rfl, rfl, rfl, rfl, fun x c => gainCode_limited x c z s⟩, rfl, rfl, rfl, rfl⟩

@[simp] theorem zone_noteLimited (z : Nat) (cls : PageClass) (s : State) (y : Nat) :
    (noteLimited z cls s).zone y = s.zone y := by
  unfold noteLimited
  split <;> rfl

@[simp] theorem amp_noteLimited (z : Nat) (cls : PageClass) (s : State) (y : Nat) :
    (noteLimited z cls s).amp y = s.amp y := by
  unfold noteLimited
  split <;> rfl

theorem zoneToOpening_local (p : PageRecord) : ZoneLocal fun s z => zoneToOpening z p s where
  moved s z := (noteLimited_moved z p.cls s).trans (putZone_moved z _ _ _)
  zone s z y hy := (zone_putZone_other hy _ _ _).trans (zone_noteLimited z p.cls s y)
  amp s z y hy := (amp_putZone_other hy _ _ _).trans (amp_noteLimited z p.cls s y)

/-- The state of a zone that opens for a page, with the chime time of its class (R114). -/
def State.openedFor (s : State) (p : PageRecord) : PageZone :=
  { state := .opening p.id, chimeDue := some (s.clock + 100 * s.paging.chime.of p.cls), hangDue := none }

/-- The commanded state of a zone that opens for a page (R138, R154). -/
def State.openingCommand (s : State) (z : Nat) (p : PageRecord) : Commanded :=
  { channel := p.channel.getD 7, gain := s.gainCode z p.cls, ramp := s.paging.chime.of p.cls, chime := true }

theorem zoneToOpening_eq (z : Nat) (p : PageRecord) (s : State) :
    zoneToOpening z p s = putZone z (s.openedFor p) (s.openingCommand z p) (noteLimited z p.cls s) := by
  have hn := noteLimited_moved z p.cls s
  simp only [zoneToOpening, State.openedFor, State.openingCommand, State.after, hn.clock, hn.paging]

theorem zone_zoneToOpening (hz : z < 64) (p : PageRecord) (s : State) :
    (zoneToOpening z p s).zone z = s.openedFor p := by
  rw [zoneToOpening_eq, zone_putZone, if_pos ⟨rfl, hz⟩]

theorem commanded_zoneToOpening (hz : z < 64) (p : PageRecord) (s : State) :
    ((zoneToOpening z p s).amp z).commanded = s.openingCommand z p := by
  rw [zoneToOpening_eq, commanded_putZone hz]

theorem pending_zoneToOpening {p : PageRecord} (hz : z < 64) (h : (s.amp z).commanded ≠ s.openingCommand z p) :
    ((zoneToOpening z p s).amp z).deliveryPending = true := by
  rw [zoneToOpening_eq, putZone, amp_handOver hz]
  rw [if_neg]
  simpa using h.symm

end Sys2Proof.Machine
end

section
/-! PROOF. The end of the only page, one of the host: removed while it waits, closed once it has started, freed when it
owns no zone any more (R112, R116, R118, R128, R129). -/

namespace Sys2Proof.Machine

variable {s t : State} {z : Nat} {r : PageRecord} {reason : EndReason}

/-! ## A record offered within other changes -/

theorem offerRecord_kept (record : TraceRecord) (s : State) : Kept s (offerRecord record s) := by
  rw [offerRecord_eq]
  exact Kept.of_pages s _ _ _ _

@[simp] theorem amp_of_offerRecord (record : TraceRecord) (s : State) (z : Nat) :
    (offerRecord record s).amp z = s.amp z := by
  rw [offerRecord_eq]
  rfl

@[simp] theorem link_of_offerRecord (record : TraceRecord) (s : State) : (offerRecord record s).link = s.link := by
  rw [offerRecord_eq]

/-- What is kept of a record after changes that leave the trace and the groups as they were. -/
theorem trace_offerRecord (record : TraceRecord) (ht : t.trace = s.trace) (hg : t.groups = s.groups) :
    (offerRecord record t).trace = (offerRecord record s).trace := offerThrough_congr record [] ht hg

/-! ## A waiting page (R129) -/

theorem removePage_alone (h : s.pages = [r]) (ha : r.alarm = none) (hr : r.requester = .host) (reason : EndReason) :
    removePage r.id reason s = offerRecord (r.traceRecord .pageEnd reason.traceCode)
      (direct (.pageState r.id .freed (some reason)) { s with pages := [] }) := by
  have hends := pageEnds_sole (s := direct (.pageState r.id .freed (some reason)) s) h hr reason
  have hdrop : (direct (.pageState r.id .freed (some reason)) s).dropPage r.id =
      direct (.pageState r.id .freed (some reason)) { s with pages := [] } := dropPage_sole h
  simp only [removePage, page?_sole h, pageState, hends, dropPage_offerRecord, hdrop, reportFreed, ha]

theorem endPage_sole (h : s.pages = [r]) (hs : r.state ≠ .closing) (reason : EndReason) :
    endPage r.id reason s = schedule (endWithoutPass r.id reason s) := by
  simp only [endPage, page?_sole h, hs, if_false]

/-- The only page, while it waits over quiet zones, is removed, and the pass that follows finds nothing to do. -/
theorem endPage_waiting (h : s.pages = [r]) (ha : r.alarm = none) (hr : r.requester = .host)
    (hs : r.state = .queued ∨ r.state = .suspended) (hq : s.ZonesQuiet) (reason : EndReason) :
    endPage r.id reason s = offerRecord (r.traceRecord .pageEnd reason.traceCode)
      (direct (.pageState r.id .freed (some reason)) { s with pages := [] }) := by
  have hremoves : endWithoutPass r.id reason s = removePage r.id reason s := by
    rcases hs with hs | hs <;> simp only [endWithoutPass, page?_sole h, hs]
  rw [endPage_sole h (by rcases hs with hs | hs <;> simp [hs]), hremoves, removePage_alone h ha hr]
  refine schedule_quiet (by simp) ⟨fun z => ?_, ?_⟩
  · rw [zone_of_offerRecord]
    exact hq.idle z
  · rw [covered_of_offerRecord]
    exact hq.uncovered

/-! ## A started page (R118, R128) -/

/-- The frame by which a page's audio is switched off, when it was switched on (R118). -/
def PageRecord.audioOff (r : PageRecord) : List OutFrame :=
  if r.audioSent = true then [.directive (.pageAudio r.id (r.channel.getD 7) r.source false)] else []

/-- The record of a page that closes (R128). -/
def PageRecord.closed (r : PageRecord) (reason : EndReason) : PageRecord :=
  { r with state := .closing, channel := none, audioSent := false, durationDue := none, endReason := some reason }

theorem giveUpChannel_eq (h : s.page? r.id = some r) : giveUpChannel r.id s =
    { s.modPage r.id fun r => { r with channel := none, audioSent := false } with
      link := s.link.putAll r.audioOff } := by
  simp only [giveUpChannel, h, PageRecord.audioOff]
  split <;> rfl

theorem mem_zonesWith {p : ZoneState → Bool} : z ∈ s.zonesWith p ↔ z < 64 ∧ p (s.zone z).state = true := by
  simp [State.zonesWith]

theorem nodup_zonesWith (p : ZoneState → Bool) (s : State) : (s.zonesWith p).Nodup := List.nodup_range.filter _

/-- The page is OPENING or LIVE in this zone, and every other zone is IDLE. -/
structure State.SoundsOnlyIn (s : State) (p z : Nat) : Prop where
  sounds : (s.zone z).state = .opening p ∨ (s.zone z).state = .live p
  idle : ∀ y, y ≠ z → (s.zone y).state = .idle

theorem State.SoundsOnlyIn.lt {p : Nat} (h : s.SoundsOnlyIn p z) : z < 64 :=
  zone_lt (s := s) fun hidle => by rcases h.sounds with hz | hz <;> simp [hz] at hidle

theorem State.SoundsOnlyIn.zones {p : Nat} (h : s.SoundsOnlyIn p z) : s.zonesWith (ZoneState.sounds p) = [z] := by
  refine zonesWith_sole h.lt fun y => ?_
  by_cases hy : y = z
  · rcases h.sounds with hz | hz <;> simp [hy, hz, ZoneState.sounds]
  · simp [hy, h.idle y hy, ZoneState.sounds]

theorem State.SoundsOnlyIn.unreserved {p : Nat} (h : s.SoundsOnlyIn p z) (y q : Nat) :
    (s.zone y).state.reservation ≠ some q := by
  by_cases hy : y = z
  · rcases h.sounds with hz | hz <;> simp [hy, hz, ZoneState.reservation]
  · simp [h.idle y hy, ZoneState.reservation]

/-- What the closing page leaves before the hang of its zones. -/
def closedState (r : PageRecord) (reason : EndReason) (s u : State) : State :=
  offerRecord (r.traceRecord .pageEnd reason.traceCode)
    { u with
      pages := [r.closed reason]
      link := s.link.putAll (r.audioOff ++ [.directive (.pageState r.id .closing (some reason))]) }

/-- The only page closes: its zones go CLOSING, its audio off, its state is told and its end recorded (R128). -/
theorem closePage_eq (h : s.pages = [r]) (hr : r.requester = .host)
    (hres : ∀ y, (s.zone y).state.reservation ≠ some r.id) (reason : EndReason) :
    let zs := s.zonesWith (ZoneState.sounds r.id)
    closePage r.id reason s = freeIfDone r.id (skipHang zs
      (closedState r reason s (zs.foldl (fun s z => zoneToClosing z r.id s) s))) := by
  intro zs
  have hlocal := zoneToClosing_local r.id
  have hmoved := hlocal.foldl_moved zs s
  have hzone : ∀ y, ((zs.foldl (fun s z => zoneToClosing z r.id s) s).zone y).state.reservation ≠ some r.id := by
    intro y
    by_cases hy : y ∈ zs
    · obtain ⟨u, -, -, -, hzone, -⟩ := hlocal.foldl_at s (nodup_zonesWith _ s) hy
      rw [hzone, zone_zoneToClosing (mem_zonesWith.1 hy).1]
      simp [ZoneState.reservation]
    · rw [(hlocal.foldl_other s hy).1]
      exact hres y
  generalize hu : zs.foldl (fun s z => zoneToClosing z r.id s) s = u at hmoved hzone
  have hpages : u.pages = [r] := hmoved.pages.trans h
  have hends := pageEnds_sole (r := r.closed reason) (reason := reason) (s := { u with
    pages := [r.closed reason]
    link := s.link.putAll (r.audioOff ++ [.directive (.pageState r.id .closing (some reason))]) }) rfl hr
  rw [closePage, hu, dropReservations_none hzone, giveUpChannel_eq (page?_sole hpages), modPage_sole hpages,
    hmoved.link]
  simp only [State.modPage, pageState, direct, emit, put_putAll]
  simp only [List.map_cons, List.map_nil, BEq.rfl, if_true]
  exact congrArg (fun t => freeIfDone r.id (skipHang zs t)) hends

theorem pages_closedState (u : State) : (closedState r reason s u).pages = [r.closed reason] := by simp [closedState]

theorem link_closedState (u : State) : (closedState r reason s u).link =
    s.link.putAll (r.audioOff ++ [.directive (.pageState r.id .closing (some reason))]) := by simp [closedState]

theorem zone_closedState (u : State) (y : Nat) : (closedState r reason s u).zone y = u.zone y :=
  zone_of_offerRecord _ _ y

theorem amp_closedState (u : State) (y : Nat) : (closedState r reason s u).amp y = u.amp y := amp_of_offerRecord _ _ y

theorem kept_closedState {u : State} (h : Kept s u) : Kept s (closedState r reason s u) :=
  (h.trans (Kept.of_pages u _ _ u.trace u.covered)).trans (offerRecord_kept _ _)

theorem trace_closedState {u : State} (h : Moved s u) : (closedState r reason s u).trace =
    (offerRecord (r.traceRecord .pageEnd reason.traceCode) s).trace := trace_offerRecord _ h.trace h.groups

/-- The page closes in its only zone, which hangs (R114, R128). -/
theorem closePage_hangs (h : s.pages = [r]) (hr : r.requester = .host)
    (hz : s.SoundsOnlyIn r.id z) (hhang : s.paging.hangTime ≠ 0) (reason : EndReason) :
    closePage r.id reason s = closedState r reason s (zoneToClosing z r.id s) := by
  have hkept := kept_closedState (r := r) (reason := reason) ((zoneToClosing_local r.id).moved s z).toKept
  rw [closePage_eq h hr (fun y => hz.unreserved y _), hz.zones, List.foldl_cons, List.foldl_nil,
    skipHang_none _ (by rw [hkept.paging]; exact hhang)]
  exact freeIfDone_owner hz.lt (by rw [zone_closedState, zone_zoneToClosing hz.lt]; rfl)

/-- A CLOSING page that owns no zone is freed; no alarm waits for its record (R116). -/
theorem freeIfDone_done (h : s.page? r.id = some r) (ha : r.alarm = none) (hs : r.state = .closing)
    (ho : ∀ y, (s.zone y).state.owner ≠ some r.id) :
    freeIfDone r.id s = direct (.pageState r.id .freed r.endReason) (s.dropPage r.id) := by
  have howns : s.ownsZone r.id = false := by
    rw [State.ownsZone, zonesWith_none fun y => by simpa using ho y]
    rfl
  simp only [freeIfDone, h, hs, howns, decide_true, Bool.not_false, Bool.and_self, if_true, reportFreed, ha]
  rfl

/-- Without a hang time the page's only zone is IDLE and the page freed in the same event (R114, R128). -/
theorem closePage_atOnce (h : s.pages = [r]) (hr : r.requester = .host) (ha : r.alarm = none)
    (hz : s.SoundsOnlyIn r.id z) (hhang : s.paging.hangTime = 0) (reason : EndReason) :
    closePage r.id reason s = direct (.pageState r.id .freed (some reason))
      ((zoneToIdle z (closedState r reason s (zoneToClosing z r.id s))).dropPage r.id) := by
  have hkept := kept_closedState (r := r) (reason := reason) ((zoneToClosing_local r.id).moved s z).toKept
  rw [closePage_eq h hr (fun y => hz.unreserved y _), hz.zones, List.foldl_cons, List.foldl_nil, skipHang,
    if_pos (by rw [hkept.paging]; exact hhang), List.foldl_cons, List.foldl_nil]
  refine freeIfDone_done (r := r.closed reason) (page?_sole ?_) ha rfl fun y => ?_
  · rw [(zoneToIdle_local.moved _ z).pages, pages_closedState]
  · by_cases hy : y = z
    · rw [hy, zone_zoneToIdle]
      simp [PageZone.atReset, ZoneState.owner]
    · rw [zoneToIdle_local.zone _ z y hy, zone_closedState, (zoneToClosing_local r.id).zone s z y hy, hz.idle y hy]
      simp [ZoneState.owner]

/-- The only page, without a zone of its own, closes and is freed in the same event (R131). -/
theorem closePage_zoneless (h : s.pages = [r]) (hr : r.requester = .host) (ha : r.alarm = none)
    (hidle : ∀ y, (s.zone y).state = .idle) (reason : EndReason) :
    closePage r.id reason s = direct (.pageState r.id .freed (some reason))
      ((closedState r reason s s).dropPage r.id) := by
  have hzones : s.zonesWith (ZoneState.sounds r.id) = [] := zonesWith_none fun y => by simp [hidle, ZoneState.sounds]
  have hskip : ∀ t : State, skipHang [] t = t := fun t => by simp [skipHang]
  rw [closePage_eq h hr (fun y => by simp [hidle, ZoneState.reservation]), hzones, List.foldl_nil, hskip]
  refine freeIfDone_done (r := r.closed reason) (page?_sole (pages_closedState s)) ha rfl fun y => ?_
  simp [zone_closedState, hidle, ZoneState.owner]

/-- The only page, whose zone already hangs, closes beside it (R130). -/
theorem closePage_hanging (h : s.pages = [r]) (hr : r.requester = .host)
    (hz : (s.zone z).state = .closing r.id none) (hidle : ∀ y, y ≠ z → (s.zone y).state = .idle)
    (reason : EndReason) : closePage r.id reason s = closedState r reason s s := by
  have hstate : ∀ y, (s.zone y).state = .closing r.id none ∨ (s.zone y).state = .idle := fun y => by
    by_cases hy : y = z
    · exact .inl (hy ▸ hz)
    · exact .inr (hidle y hy)
  have hzones : s.zonesWith (ZoneState.sounds r.id) = [] := zonesWith_none fun y => by
    rcases hstate y with hy | hy <;> simp [hy, ZoneState.sounds]
  have hres : ∀ y, (s.zone y).state.reservation ≠ some r.id := fun y => by
    rcases hstate y with hy | hy <;> simp [hy, ZoneState.reservation]
  have hskip : ∀ t : State, skipHang [] t = t := fun t => by simp [skipHang]
  rw [closePage_eq h hr hres, hzones, List.foldl_nil, hskip]
  exact freeIfDone_owner (zone_lt (s := s) (z := z) (by simp [hz])) (by rw [zone_closedState, hz]; rfl)

end Sys2Proof.Machine
end

section
/-! PROOF. PAGE-STOP in each state of a page, and the end of a suspension (R112, R125, R128, R129). -/

namespace Sys2Proof.Machine

variable {s t : State} {z id : Nat} {r : PageRecord} {tag : Byte} {p : List Byte} {a : Answer} {reason : EndReason}

theorem exec_pageStop_answers (hr : readNumber2 p = some id) (ht : s.Takes ⟨0x0A, tag, p⟩)
    (ha : pageStop id s = (t, a)) :
    exec (.pageStop tag p) s = .next (answered ⟨0x0A, tag, p⟩ a.verdict a.body t) :=
  congrArg Host.Outcome.next (takeKind_answers ht hr ha)

theorem pageStop_outOfRange (h : id = 0 ∨ 255 < id) : pageStop id s = (s, .refused .outOfRange) := by
  simp [pageStop, h]

theorem pageId_inRange (h1 : 1 ≤ id) (h2 : id ≤ 255) : (id = 0 || 255 < id) = false := by
  simp only [Bool.or_eq_false_iff, decide_eq_false_iff_not]
  omega

theorem pageStop_tooLate (h1 : 1 ≤ id) (h2 : id ≤ 255) (h : s.page? id = none) :
    pageStop id s = (s, .refused .tooLate) := by simp [pageStop, pageId_inRange h1 h2, h]

theorem pageStop_notPermitted (h1 : 1 ≤ id) (h2 : id ≤ 255) (h : s.page? id = some r) (ha : r.alarm ≠ none) :
    pageStop id s = (s, .refused .notPermitted) := by
  simp [pageStop, pageId_inRange h1 h2, h, Option.isSome_iff_ne_none.2 ha]

/-- A PAGE-STOP of a page of the general records ends it and is answered OK. -/
theorem pageStop_ends (h1 : 1 ≤ id) (h2 : id ≤ 255) (h : s.page? id = some r) (ha : r.alarm = none)
    (hend : releasingHolds (endPage id .stopped) s = t) : pageStop id s = (t, .ok) := by
  simp [pageStop, pageId_inRange h1 h2, h, ha, hend]

theorem endPage_closing (h : s.page? id = some r) (hs : r.state = .closing) (reason : EndReason) :
    endPage id reason s = s := by simp [endPage, h, hs]

theorem audioOff_unsolicited (r : PageRecord) : ∀ f ∈ r.audioOff, f.unsolicited = true := by
  intro f hf
  rw [PageRecord.audioOff] at hf
  split at hf <;> simp at hf
  rw [hf]
  rfl

theorem audioOff_length (r : PageRecord) : r.audioOff.length ≤ 1 := by
  rw [PageRecord.audioOff]
  split <;> simp

/-- The frames of a page that closes: its audio off, its state, and what follows it. -/
theorem closing_unsolicited {ds : List Directive} : ∀ f ∈ r.audioOff ++ ds.map OutFrame.directive,
    f.unsolicited = true := by
  intro f hf
  rcases List.mem_append.1 hf with hf | hf
  · exact audioOff_unsolicited r f hf
  · obtain ⟨d, -, rfl⟩ := List.mem_map.1 hf
    rfl

/-- The end of a started page by any cause but preemption. -/
theorem endPage_started (h : s.pages = [r]) (hs : r.state = .opening ∨ r.state = .live) (reason : EndReason) :
    endPage r.id reason s = schedule (closePage r.id reason s) := by
  rw [endPage_sole h (by rcases hs with hs | hs <;> simp [hs])]
  rcases hs with hs | hs <;> simp only [endWithoutPass, page?_sole h, hs]

/-- What the end of the only page leaves while its only zone hangs (R114, R118, R128). -/
structure ClosedIn (r : PageRecord) (reason : EndReason) (z : Nat) (s t : State) : Prop where
  pages : t.pages = [r.closed reason]
  link : t.link = s.link.putAll (r.audioOff ++ [Directive.pageState r.id .closing (some reason)].map .directive)
  trace : t.trace = (offerRecord (r.traceRecord .pageEnd reason.traceCode) s).trace
  zone : t.zone z = { state := .closing r.id none, chimeDue := none
                      hangDue := some (s.clock + 100 * s.paging.hangTime) }
  others : ∀ y, y ≠ z → t.zone y = s.zone y ∧ t.amp y = s.amp y
  commanded : (t.amp z).commanded = { (s.amp z).commanded with gain := 255, ramp := s.paging.hangTime, chime := false }

/-- What the end of the only page leaves of its only zone without a hang time (R114, R118, R128). -/
structure FreedIn (r : PageRecord) (reason : EndReason) (z : Nat) (s t : State) : Prop where
  pages : t.pages = []
  link : t.link = s.link.putAll (r.audioOff ++ [Directive.pageState r.id .closing (some reason),
    .pageState r.id .freed (some reason)].map .directive)
  trace : t.trace = (offerRecord (r.traceRecord .pageEnd reason.traceCode) s).trace
  zone : t.zone z = PageZone.atReset
  others : ∀ y, y ≠ z → t.zone y = s.zone y ∧ t.amp y = s.amp y
  commanded : (t.amp z).commanded = .idle

/-- The only page has closed beside its zone, which hangs. -/
theorem closedIn_closedState (hz : z < 64) (reason : EndReason) :
    ClosedIn r reason z s (signalCoverage (closedState r reason s (zoneToClosing z r.id s))) where
  pages := by simp [pages_closedState]
  link := by simp [link_closedState]
  trace := by simpa using trace_closedState ((zoneToClosing_local r.id).moved s z)
  zone := by simpa [zone_closedState] using zone_zoneToClosing hz r.id s
  others y hy := by
    have hlocal := zoneToClosing_local r.id
    simpa [zone_closedState, amp_closedState] using ⟨hlocal.zone s z y hy, hlocal.amp s z y hy⟩
  commanded := by simpa [amp_closedState] using commanded_zoneToClosing hz r.id s

/-- The only page, in its only zone, ends and hangs; the pass that follows finds nothing to do. -/
theorem endPage_hangs (h : s.pages = [r]) (hr : r.requester = .host) (hs : r.state = .opening ∨ r.state = .live)
    (hz : s.SoundsOnlyIn r.id z) (hhang : s.paging.hangTime ≠ 0) (reason : EndReason) :
    ClosedIn r reason z s (endPage r.id reason s) := by
  have hend : endPage r.id reason s = signalCoverage (closedState r reason s (zoneToClosing z r.id s)) := by
    rw [endPage_started h hs, closePage_hangs h hr hz hhang]
    exact schedule_closing (pages_closedState _) rfl
  rw [hend]
  exact closedIn_closedState hz.lt reason

/-- The same without a hang time: the page is freed at once. -/
theorem endPage_atOnce (h : s.pages = [r]) (hr : r.requester = .host) (ha : r.alarm = none)
    (hs : r.state = .opening ∨ r.state = .live) (hz : s.SoundsOnlyIn r.id z) (hhang : s.paging.hangTime = 0)
    (reason : EndReason) : FreedIn r reason z s (endPage r.id reason s) := by
  have hclosing := zoneToClosing_local r.id
  generalize hu : closedState r reason s (zoneToClosing z r.id s) = u
  have hpages : u.pages = [r.closed reason] := hu ▸ pages_closedState _
  have hidled := zoneToIdle_local.moved u z
  have hend : endPage r.id reason s = signalCoverage (direct (.pageState r.id .freed (some reason))
      ((zoneToIdle z u).dropPage r.id)) := by
    rw [endPage_started h hs, closePage_atOnce h hr ha hz hhang, hu]
    exact schedule_noPages (by simp [hidled.pages, hpages, PageRecord.closed])
  have hlink : u.link = s.link.putAll (r.audioOff ++ [.directive (.pageState r.id .closing (some reason))]) :=
    hu ▸ link_closedState _
  have hzone : ∀ y, u.zone y = (zoneToClosing z r.id s).zone y := fun y => hu ▸ zone_closedState _ y
  have hamp : ∀ y, u.amp y = (zoneToClosing z r.id s).amp y := fun y => hu ▸ amp_closedState _ y
  rw [hend]
  exact {
    pages := by simp [hidled.pages, hpages, PageRecord.closed]
    link := by simp [hidled.link, hlink]
    trace := by simpa [hidled.trace] using hu ▸ trace_closedState (hclosing.moved s z)
    zone := by simpa using zone_zoneToIdle z u
    others := fun y hy => by
      simp [zoneToIdle_local.zone u z y hy, zoneToIdle_local.amp u z y hy, hzone, hamp, hclosing.zone s z y hy,
        hclosing.amp s z y hy]
    commanded := by simpa using commanded_zoneToIdle hz.lt u }

/-- The frames of a page that closes and those that follow, with the reply to the request that ended it. -/
theorem output_closed {f : Frame} {v : Verdict} {b : ReplyBody} {ds : List Directive} (ht : s.Takes f)
    (hl : t.link = s.link.putAll (r.audioOff ++ ds.map .directive)) (hn : ds.length ≤ 7)
    (hu : unsolicitedCount s.link.output + ds.length < 40) : (answered f v b t).link.output =
      s.link.output ++ r.audioOff ++ ds.map .directive ++ [.reply (replyKind f.kind) f.tag v b] := by
  have hoff := audioOff_length r
  rw [output_answered_all ht hl closing_unsolicited (by simp; omega) (by simp; omega), ← List.append_assoc]

/-- Settles O46: the refusals, and the page's end in each of its states. -/
theorem waitingPageIsRemoved : Obligations.WaitingPageIsRemoved := by
  refine ⟨fun tag p id s hr ht => ⟨fun h => ?_, fun h1 h2 h => ?_, fun r h1 h2 h ha => ?_,
    fun r h1 h2 h hid ha hreq hs hq => ?_, fun r h1 h2 h ha hs => ?_,
    fun r z h1 h2 _ h hid ha hreq _ hs hidle hcov hu => ?_⟩, fun id d r s hrun h hid ha hreq hs hd hclock hq => ?_⟩
  · exact exec_pageStop_answers hr ht (pageStop_outOfRange h)
  · exact exec_pageStop_answers hr ht (pageStop_tooLate h1 h2 h)
  · exact exec_pageStop_answers hr ht (pageStop_notPermitted h1 h2 h ha)
  · subst hid
    refine exec_pageStop_answers (a := .ok) hr ht (pageStop_ends h1 h2 (page?_sole h) ha ?_)
    rw [releasingHolds_uncovered hq.uncovered, endPage_waiting h ha hreq hs hq]
    rfl
  · have hsame := endPage_closing h hs .stopped
    refine exec_pageStop_answers (a := .ok) hr ht (pageStop_ends h1 h2 h ha ?_)
    rw [releasingHolds_same (by rw [hsame]) (by rw [hsame]) (by rw [hsame]), hsame]
  · subst hid
    have hz : s.SoundsOnlyIn r.id z := ⟨hs.imp And.right And.right, hidle⟩
    have hstarted : r.state = .opening ∨ r.state = .live := hs.imp And.left And.left
    have hexec := exec_pageStop_answers (a := .ok) hr ht
      (pageStop_ends h1 h2 (page?_sole h) ha (releasingHolds_uncovered hcov))
    intro hang
    by_cases hhang : hang = 0
    · have hfreed := endPage_atOnce h hreq ha hstarted hz hhang .stopped
      refine ⟨_, hexec, hfreed.others, hfreed.trace, ?_, fun hne => absurd hhang hne, fun _ =>
        ⟨hfreed.zone, hfreed.pages, hfreed.commanded⟩⟩
      rw [output_closed ht hfreed.link (by simp) (by simp; omega), if_pos hhang]
      simp only [List.append_assoc]
      rfl
    · have hclosed := endPage_hangs h hreq hstarted hz hhang .stopped
      refine ⟨_, hexec, hclosed.others, hclosed.trace, ?_, fun _ => ⟨hclosed.zone, hclosed.pages, hclosed.commanded⟩,
        fun hzero => absurd hzero hhang⟩
      rw [output_closed ht hclosed.link (by simp) (by simp; omega), if_neg hhang, List.append_nil]
      rfl
  · subst hid
    refine congrArg Host.Outcome.next ((whenRunning_running hrun _).trans ?_)
    rw [page?_sole h, Option.bind_some, hd, atExpiry_due hclock, releasingHolds_uncovered hq.uncovered,
      endPage_waiting h ha hreq (.inr hs) hq]
    rfl

end Sys2Proof.Machine
end

section
/-! PROOF. PAGE-ASK: its refusals, its admission, and the page that cannot start (R106, R110, R111, R120). -/

namespace Sys2Proof.Machine

variable {s t : State} {o : PageAskOp} {source : PageSource} {cls : PageClass} {zones : ZoneSet} {mode : PageMode}
  {tag : Byte} {p : List Byte} {a : Answer} {q : PageRequest} {r : PageRecord}

theorem exec_pageAsk_answers (hr : PageAskOp.read p = some o) (ht : s.Takes ⟨0x09, tag, p⟩)
    (ha : pageAsk o s = (t, a)) :
    exec (.pageAsk tag p) s = .next (answered ⟨0x09, tag, p⟩ a.verdict a.body t) :=
  congrArg Host.Outcome.next (takeKind_answers ht hr ha)

/-! ## The fields (R110) -/

theorem readSource_none {f : Form} (h : 1 < f.code ∨ (f.code = 0 ∧ 1023 < f.value) ∨ f.value = 65535) :
    readSource f = none := by
  unfold readSource
  split
  · rw [if_neg (by omega)]
  · split
    · rw [if_neg (by omega)]
    · rfl

theorem readTarget_none {f : Form}
    (h : 1 < f.code ∨ (f.code = 0 ∧ 31 < f.value) ∨ (f.code = 1 ∧ 63 < f.value)) : s.readTarget f = none := by
  unfold State.readTarget
  split
  · rw [if_neg (by omega)]
  · split
    · rw [if_neg (by omega)]
    · rfl

theorem readClass_none {n : Nat} (h : 3 < n) : readClass n = none := by
  obtain ⟨m, rfl⟩ : ∃ m, n = m + 4 := ⟨n - 4, by omega⟩
  rfl

theorem readMode_none {n : Nat} (h : 1 < n) : readMode n = none := by
  obtain ⟨m, rfl⟩ : ∃ m, n = m + 2 := ⟨n - 2, by omega⟩
  rfl

/-- What the fields of a PAGE-ASK name (R110). -/
structure State.Reads (s : State) (o : PageAskOp) (source : PageSource) (cls : PageClass) (zones : ZoneSet)
    (mode : PageMode) : Prop where
  source : readSource o.source = some source
  cls : readClass o.cls = some cls
  target : s.readTarget o.target = some zones
  mode : readMode o.mode = some mode

theorem pageAsk_outOfRange (h : readSource o.source = none ∨ readClass o.cls = none ∨ s.readTarget o.target = none ∨
    readMode o.mode = none) : pageAsk o s = (s, .refused .outOfRange) := by
  unfold pageAsk
  split
  · rename_i h1 h2 h3 h4
    simp [h1, h2, h3, h4] at h
  · rfl

theorem sourceReady_iff : s.sourceReady source = true ↔ ∀ x, source = .ext x → (s.ext x).line = .offhook := by
  cases source <;> simp [State.sourceReady]

theorem pageAsk_wrongState (h : s.Reads o source cls zones mode) (hready : s.sourceReady source = false) :
    pageAsk o s = (s, .refused .wrongState) := by
  simp only [pageAsk, h.source, h.cls, h.target, h.mode, hready, Bool.not_false, if_true]

theorem pageAsk_refused {reason : Reason} (h : s.Reads o source cls zones mode) (hready : s.sourceReady source = true)
    (hr : s.admissionRefusal (o.request cls source zones mode) = some reason) :
    pageAsk o s = (s, .refused reason) := by
  simp only [pageAsk, h.source, h.cls, h.target, h.mode, hready, hr, Bool.not_true, Bool.false_eq_true, if_false]

theorem pageAsk_admits (h : s.Reads o source cls zones mode) (hready : s.sourceReady source = true)
    (hr : s.admissionRefusal (o.request cls source zones mode) = none)
    (ht : releasingHolds (admitPage (o.request cls source zones mode)) s = t) : pageAsk o s =
      (t, .okWith (t.pageReply s.nextPageId (zonesOf (s.targetOf cls zones)).length)) := by
  simp only [pageAsk, h.source, h.cls, h.target, h.mode, hready, hr, ht, Bool.not_true, Bool.false_eq_true, if_false]

theorem clampDuration_eq (n : Nat) : clampDuration n = if n = 0 then 0 else max 10 (min n 6000) := by
  unfold clampDuration clamp
  split
  · rfl
  · omega

/-! ## The admission (R106, R111) -/

/-- The state in which an admitted request's page is QUEUED, before the pass (R106, R111). -/
def State.admitted (s : State) (q : PageRequest) : State :=
  direct (.pageState (s.lastPageId % 255 + 1) .queued none) (linkRequester q.requester (s.lastPageId % 255 + 1)
    { s with
      pages := s.pages ++ [s.firstPage q], lastPageId := s.lastPageId % 255 + 1, nextArrival := s.nextArrival + 1 })

theorem admitPage_eq (h : s.page? (s.lastPageId % 255 + 1) = none) (q : PageRequest) :
    admitPage q s = schedule (s.admitted q) := by
  rw [admitPage, nextPageId_free h]
  rfl

theorem page?_noPages (h : s.pages = []) (i : Nat) : s.page? i = none := by simp [State.page?, h]

theorem admissionRefusal_none (ht : s.targetOf q.cls q.zones ≠ 0)
    (hroom : q.alarm.isSome = true ∨ s.generalPages < 24) : s.admissionRefusal q = none := by
  rw [State.admissionRefusal, if_neg ht, if_neg]
  rcases hroom with h | h
  · simp [Option.isSome_iff_ne_none.1 h]
  · rw [Config.generalRecords, decide_eq_false (Nat.not_le.2 h), Bool.and_false]
    exact Bool.false_ne_true

/-- A page can start in no zone while none of its target is usable (R120, R122). -/
theorem canStart_unusable (h : ∀ z ∈ zonesOf r.target, s.usable r z = false) : s.canStart r = false := by
  have hany : (zonesOf r.target).any (s.usable r) = false := by
    rw [List.any_eq_false]
    exact fun z hz => by simp [h z hz]
  have hall : (!(zonesOf r.target).isEmpty && (zonesOf r.target).all (s.usable r)) = false := by
    cases hl : zonesOf r.target with
    | nil => rfl
    | cons z l => simp [h z (by simp [hl])]
  unfold State.canStart
  cases r.mode with
  | partially => simp [hany]
  | allOrWait => rw [Bool.and_assoc, hall, Bool.and_false]

theorem usable_faulted {z : Nat} (hcls : r.cls ≠ .emergency) (h : (s.amp z).fault ≠ none) : s.usable r z = false := by
  have hfault : (s.amp z).fault.isNone = false := by simpa [Option.isSome_iff_ne_none] using h
  simp [State.usable, State.usableBase, hfault, hcls]

/-- With no other page, a request whose zones are all faulted becomes the only page, and it waits. -/
theorem admitPage_waits (hp : s.pages = []) (hcls : q.cls ≠ .emergency) (hreq : q.requester = .host)
    (hq : s.ZonesQuiet) (h : ∀ z, zoneIn (s.targetOf q.cls q.zones) z = true → (s.amp z).fault ≠ none) :
    admitPage q s = s.admitted q := by
  have hadmitted : s.admitted q = direct (.pageState (s.lastPageId % 255 + 1) .queued none)
      { s with
        pages := [s.firstPage q], lastPageId := s.lastPageId % 255 + 1, nextArrival := s.nextArrival + 1 } := by
    rw [State.admitted, hreq, hp]
    rfl
  rw [admitPage_eq (page?_noPages hp _), hadmitted]
  refine schedule_waits rfl rfl ⟨hq.idle, hq.uncovered⟩ (canStart_unusable fun z hz => ?_)
  exact usable_faulted hcls (h z (mem_zonesOf hz))

/-- Settles O44: the refusals in order, and the page that waits for its zones. -/
theorem pageAskQueuesPage : Obligations.PageAskQueuesPage := by
  intro tag p o s hr ht
  refine ⟨fun hrange => ?_, fun source cls zones mode hsource hclass htarget hmode => ⟨fun hline => ?_,
    fun hline => ⟨fun hnone => ?_, fun hsome hfull => ?_, fun hsome hcls hp hq hfault => ?_⟩⟩⟩
  · refine exec_pageAsk_answers (a := .refused .outOfRange) hr ht (pageAsk_outOfRange ?_)
    rcases hrange with h | h | h | h | h | h | h | h
    · exact .inr (.inl (readClass_none h))
    · exact .inr (.inr (.inr (readMode_none h)))
    · exact .inl (readSource_none (.inl h))
    · exact .inl (readSource_none (.inr (.inl h)))
    · exact .inl (readSource_none (.inr (.inr h)))
    · exact .inr (.inr (.inl (readTarget_none (.inl h))))
    · exact .inr (.inr (.inl (readTarget_none (.inr (.inl h)))))
    · exact .inr (.inr (.inl (readTarget_none (.inr (.inr h)))))
  · obtain ⟨x, hx, hoff⟩ := hline
    refine exec_pageAsk_answers (a := .refused .wrongState) hr ht
      (pageAsk_wrongState ⟨hsource, hclass, htarget, hmode⟩ ?_)
    rw [Bool.eq_false_iff, Ne, sourceReady_iff]
    exact fun h => hoff (h x hx)
  · exact exec_pageAsk_answers (a := .refused .allExcluded) hr ht
      (pageAsk_refused ⟨hsource, hclass, htarget, hmode⟩ (sourceReady_iff.2 hline)
        (by simp [State.admissionRefusal, PageAskOp.request, hnone]))
  · refine exec_pageAsk_answers (a := .refused .tableFull) hr ht
      (pageAsk_refused ⟨hsource, hclass, htarget, hmode⟩ (sourceReady_iff.2 hline) ?_)
    rw [State.admissionRefusal, PageAskOp.request, if_neg hsome, if_pos]
    exact decide_eq_true hfull
  · have hadmits := admitPage_waits (q := o.request cls source zones mode) hp hcls rfl hq hfault
    have hasked := pageAsk_admits ⟨hsource, hclass, htarget, hmode⟩ (sourceReady_iff.2 hline)
      (admissionRefusal_none hsome (.inr (by simp [State.generalPages, hp])))
      ((releasingHolds_uncovered hq.uncovered).trans hadmits)
    rw [exec_pageAsk_answers hr ht hasked, nextPageId_noPages hp]
    simp only [State.admitted, State.firstPage, PageAskOp.request, linkRequester, hp, List.nil_append, State.pageReply,
      State.page?, direct, emit, clampDuration_eq, Answer.okWith]
    simp
end Sys2Proof.Machine
end

section
/-! PROOF. How a page starts: the zones it takes, the pages that lose them, and the pass around it (R119 to R122,
R126, R127). -/

namespace Sys2Proof.Machine

variable {s t u : State} {r : PageRecord} {z y ch : Nat} {zs : List Nat} {loser : Option Nat}

/-! ## Zone sets -/

theorem zoneIn_lt {set : ZoneSet} (h : zoneIn set z = true) : z < 64 := BitVec.lt_of_getLsbD h

theorem zonesOf_iff {set : ZoneSet} : z ∈ zonesOf set ↔ zoneIn set z = true :=
  ⟨mem_zonesOf, fun h => List.mem_filter.2 ⟨List.mem_range.2 (zoneIn_lt h), h⟩⟩

theorem nodup_zonesOf (set : ZoneSet) : (zonesOf set).Nodup := List.nodup_range.filter _

theorem zoneIn_zoneOne (hz : z < 64) (y : Nat) : zoneIn (zoneOne y) z = decide (y = z) := by
  rw [zoneIn, zoneOne, BitVec.getLsbD_shiftLeft]
  by_cases hy : y = z
  · simp [hy, hz]
  · by_cases hlt : z < y
    · simp [hy, hlt]
    · have hsub : z - y ≠ 0 := by omega
      simp [hy, hz, BitVec.getLsbD_one, hsub]

theorem zoneIn_zonesWhere (p : Nat → Bool) (z : Nat) : zoneIn (zonesWhere p) z = true ↔ z < 64 ∧ p z = true := by
  have hfold : ∀ (l : List Nat) (acc : ZoneSet), z < 64 →
      (zoneIn (l.foldl (fun acc y => if p y = true then acc ||| zoneOne y else acc) acc) z = true ↔
        zoneIn acc z = true ∨ (z ∈ l ∧ p z = true)) := by
    intro l
    induction l with
    | nil => simp
    | cons y l ih =>
      intro acc hz
      rw [List.foldl_cons, ih _ hz]
      have hone := zoneIn_zoneOne hz y
      by_cases hp : p y = true
      · rw [if_pos hp, show zoneIn (acc ||| zoneOne y) z = (zoneIn acc z || zoneIn (zoneOne y) z) from
          BitVec.getLsbD_or, hone, Bool.or_eq_true, decide_eq_true_eq, List.mem_cons]
        constructor
        · rintro ((h | rfl) | ⟨h, hz⟩)
          · exact .inl h
          · exact .inr ⟨.inl rfl, hp⟩
          · exact .inr ⟨.inr h, hz⟩
        · rintro (h | ⟨rfl | h, hz⟩)
          · exact .inl (.inl h)
          · exact .inl (.inr rfl)
          · exact .inr ⟨h, hz⟩
      · rw [if_neg hp, List.mem_cons]
        constructor
        · rintro (h | ⟨h, hz⟩)
          · exact .inl h
          · exact .inr ⟨.inr h, hz⟩
        · rintro (h | ⟨rfl | h, hz⟩)
          · exact .inl h
          · exact absurd hz hp
          · exact .inr ⟨h, hz⟩
  by_cases hz : z < 64
  · rw [zonesWhere, hfold _ _ hz]
    simp [zoneIn, hz]
  · exact iff_of_false (fun h => hz (zoneIn_lt h)) fun h => hz h.1

/-- A zone of a request's target is one of its zones, installed, and not excluded for a class that heeds the range
(R111). -/
theorem mem_targetOf {cls : PageClass} {zones : ZoneSet} : zoneIn (s.targetOf cls zones) z = true ↔
    zoneIn zones z = true ∧ s.installed z = true ∧
      (cls.ignoresRange = true ∨ s.map.activeRange.excludes z = false) := by
  rw [State.targetOf, zoneIn_zonesWhere]
  simp only [Bool.and_eq_true, Bool.or_eq_true, Bool.not_eq_true', and_assoc]
  exact ⟨And.right, fun h => ⟨zoneIn_lt h.1, h⟩⟩

/-! ## The zones that a start takes (R122) -/

theorem takeZone_opens (h : ∀ q x, (s.zone z).state ≠ .closing q x) (lost : List Nat) :
    takeZone r (s, lost) z = (zoneToOpening z r s, lost ++ (s.zone z).state.owner.toList) := by
  unfold takeZone
  cases hz : (s.zone z).state with
  | idle => simp [hz, ZoneState.owner]
  | opening q => simp [hz, ZoneState.owner]
  | live q => simp [hz, ZoneState.owner]
  | closing q x => exact absurd hz (h q x)

/-- None of the zones CLOSING, a start opens them all, and their owners lose them. -/
theorem takeZones_open (r : PageRecord) : ∀ {zs : List Nat} {s : State} (lost : List Nat), zs.Nodup →
    (∀ z ∈ zs, ∀ q x, (s.zone z).state ≠ .closing q x) → zs.foldl (takeZone r) (s, lost) =
      (zs.foldl (fun s z => zoneToOpening z r s) s, lost ++ zs.filterMap fun z => (s.zone z).state.owner)
  | [], _, _, _, _ => by simp
  | z :: zs, s, lost, hnd, h => by
    obtain ⟨hz, hnd⟩ := List.nodup_cons.1 hnd
    have hsame : ∀ y ∈ zs, (zoneToOpening z r s).zone y = s.zone y := fun y hy =>
      (zoneToOpening_local r).zone s z y fun hyz => hz (hyz ▸ hy)
    have howners : zs.filterMap (fun y => ((zoneToOpening z r s).zone y).state.owner) =
        zs.filterMap fun y => (s.zone y).state.owner :=
      List.filterMap_congr fun y hy => by rw [hsame y hy]
    rw [List.foldl_cons, takeZone_opens (h z (by simp)), takeZones_open r _ hnd fun y hy q x => by
      rw [hsame y hy]
      exact h y (by simp [hy]) q x]
    rw [howners, List.foldl_cons, List.append_assoc]
    cases hz : (s.zone z).state.owner <;> simp [hz]

/-! ## The start (R122, R126) -/

/-- What a start does once its zones are taken and its victims handled (R122). -/
def finishStart (r : PageRecord) (zs : List Nat) (s : State) : State :=
  let s := offerPageStart r (r.state = .suspended) (pageState r.id .opening none
    (s.modPage r.id fun r => { r with state := .opening, suspensionDue := none }))
  (zs.filter fun z => (s.zone z).state = .opening r.id).foldl (fun s z => liveAtOnce z r.cls s) s

/-- The zones that a page may take as things stand (R120). -/
def State.usableZones (s : State) (r : PageRecord) : List Nat := (zonesOf r.target).filter (s.usable r)

/-- The state in which a starting page has its channel and its zones, and no victim is handled yet (R122). -/
def State.taken (s : State) (r : PageRecord) (ch : Nat) : State :=
  (s.usableZones r).foldl (fun s z => zoneToOpening z { r with channel := some ch } s)
    (s.modPage r.id fun r => { r with channel := some ch })

/-- The pages that lose the channel or a zone to a start, in the order of their first loss (R122). -/
def State.losers (s : State) (r : PageRecord) (loser : Option Nat) : List Nat :=
  withoutRepeats (loser.toList ++ (s.usableZones r).filterMap fun z => (s.zone z).state.owner)

theorem startPage_eq (hpage : s.page? r.id = some r) (hch : s.channelFor r = some (ch, loser))
    (hopen : ∀ z ∈ s.usableZones r, ∀ q x, (s.zone z).state ≠ .closing q x) : startPage r.id s =
      finishStart r (s.usableZones r) (((s.losers r loser).filter fun q =>
        loser = some q || !(s.taken r ch).holdsSomething q).foldl (fun s q => handleVictim q s) (s.taken r ch)) := by
  have htakes := takeZones_open { r with channel := some ch }
    (s := s.modPage r.id fun r => { r with channel := some ch })
    loser.toList ((nodup_zonesOf r.target).filter (s.usable r)) hopen
  simp only [startPage, hpage, hch, htakes]
  rfl

/-- All usable zones IDLE and a channel free, a start has no victim. -/
theorem startPage_unopposed (hpage : s.page? r.id = some r) (hch : s.channelFor r = some (ch, none))
    (hidle : ∀ z ∈ s.usableZones r, (s.zone z).state = .idle) :
    startPage r.id s = finishStart r (s.usableZones r) (s.taken r ch) := by
  have hlosers : s.losers r none = [] := by
    have : (s.usableZones r).filterMap (fun z => (s.zone z).state.owner) = [] :=
      List.filterMap_eq_nil_iff.2 fun z hz => by rw [hidle z hz]; rfl
    rw [State.losers, this]
    rfl
  rw [startPage_eq hpage hch fun z hz q x => by simp [hidle z hz], hlosers]
  rfl

theorem offerPageStart_general (hcls : r.cls ≠ .emergency) (b : Bool) (s : State) :
    offerPageStart r b s = offerRecord (r.traceRecord .pageStart (if b then 1 else 0)) s := by
  simp [offerPageStart, hcls]

/-- With a chime time the zones stay OPENING, and the start ends with its record. -/
theorem finishStart_chimes (hcls : r.cls ≠ .emergency) (hchime : s.paging.chime.of r.cls ≠ 0) : finishStart r zs s =
    offerRecord (r.traceRecord .pageStart (if r.state = .suspended then 1 else 0))
      (direct (.pageState r.id .opening none)
        (s.modPage r.id fun r => { r with state := .opening, suspensionDue := none })) := by
  generalize hu : offerRecord _ _ = u
  have hpaging : u.paging = s.paging := by
    rw [← hu, (offerRecord_kept _ _).paging]
    rfl
  have hlive : ∀ z, liveAtOnce z r.cls u = u := fun z => by rw [liveAtOnce, hpaging, if_neg hchime]
  simp only [finishStart, offerPageStart_general hcls, decide_eq_true_eq, pageState, hu]
  exact List.foldl_fixed' hlive _

/-! ## One zone -/

/-- The zone has opened for the page on a channel, and no other zone or amplifier has changed (R114, R138). -/
structure OpenedIn (r : PageRecord) (ch z : Nat) (s t : State) : Prop extends Kept s t where
  zone : t.zone z = s.openedFor r
  others : ∀ y, y ≠ z → t.zone y = s.zone y ∧ t.amp y = s.amp y
  commanded : (t.amp z).commanded = s.openingCommand z { r with channel := some ch }
  pending : (s.amp z).commanded ≠ s.openingCommand z { r with channel := some ch } →
    (t.amp z).deliveryPending = true

/-- The zone of a page with one usable zone opens for it. -/
theorem taken_opened (hz : s.usableZones r = [z]) : OpenedIn r ch z s (s.taken r ch) ∧
    Moved (s.modPage r.id fun r => { r with channel := some ch }) (s.taken r ch) := by
  have hlocal := zoneToOpening_local { r with channel := some ch }
  have hlt : z < 64 := zoneIn_lt (mem_zonesOf (List.mem_filter.1 (hz ▸ List.mem_singleton_self z :
    z ∈ s.usableZones r)).1)
  have htaken : s.taken r ch = zoneToOpening z { r with channel := some ch }
      (s.modPage r.id fun r => { r with channel := some ch }) := by rw [State.taken, hz]; rfl
  generalize hv : s.modPage r.id (fun r => { r with channel := some ch }) = v at htaken
  have hkept : Kept s v := hv ▸ Kept.of_pages s _ _ _ _
  have hmoved := hlocal.moved v z
  have hzone : ∀ y, v.zone y = s.zone y := fun y => hv ▸ rfl
  have hamp : ∀ y, v.amp y = s.amp y := fun y => hv ▸ rfl
  have hopened : v.openedFor { r with channel := some ch } = s.openedFor r := by
    simp [State.openedFor, hkept.clock, hkept.paging]
  have hcommand : v.openingCommand z { r with channel := some ch } =
      s.openingCommand z { r with channel := some ch } := by simp [State.openingCommand, hkept.gain, hkept.paging]
  rw [htaken]
  exact ⟨{
    toKept := hkept.trans hmoved.toKept
    zone := (zone_zoneToOpening hlt _ v).trans hopened
    others := fun y hy => ⟨(hlocal.zone v z y hy).trans (hzone y), (hlocal.amp v z y hy).trans (hamp y)⟩
    commanded := (commanded_zoneToOpening hlt _ v).trans hcommand
    pending := fun h => pending_zoneToOpening hlt (by rw [hamp, hcommand]; exact h) }, hmoved⟩

/-! ## The pass around a start (R119, R127) -/

theorem candidates_sole (h : s.pages = [r]) (hs : r.state = .queued ∨ r.state = .suspended) : s.candidates = [r] :=
  pagesInOrder_sole h (by rcases hs with hs | hs <;> simp [hs])

/-- A pass that starts its only candidate, after which no page can start or join a zone, ends with that start. -/
theorem schedule_starts (hc : s.candidates = [r]) (hcan : s.canStart r = true) (ht : startPage r.id s = t)
    (hstop : ∀ p ∈ t.pages, p.state = .queued ∨ p.state = .suspended → t.canStart p = false)
    (hjoin : lateJoins t = t) : schedule s = signalCoverage t := by
  have hfind : s.candidates.find? s.canStart = some r := by simp [hc, hcan]
  rw [schedule, passWalks_start hfind, ht, passWalks_stop hstop, hjoin]

theorem canStart_of_usable (hch : s.channelFor r = some (ch, loser)) (hz : zonesOf r.target = [z])
    (hu : s.usable r z = true) : s.canStart r = true := by
  unfold State.canStart
  cases r.mode <;> simp [hch, hz, hu]

theorem usableZones_sole (hz : zonesOf r.target = [z]) (hu : s.usable r z = true) : s.usableZones r = [z] := by
  simp [State.usableZones, hz, hu]

theorem usable_idle (hbase : s.usableBase r z = true) (hidle : (s.zone z).state = .idle) : s.usable r z = true := by
  simp [State.usable, hbase, hidle]

end Sys2Proof.Machine
end

section
/-! PROOF. A start with one zone, free or taken from a lower page, and what becomes of the victim (R117, R118, R121 to
R124). -/

namespace Sys2Proof.Machine

variable {s t u : State} {q r : PageRecord} {z y ch : Nat}

/-! ## Victims (R123, R124) -/

/-- The zones of a page go IDLE (R123). -/
def releasedFrom (p : Nat) (s : State) : State :=
  (s.zonesWith fun st => st.owner = some p).foldl (fun s z => zoneToIdle z s) s

theorem releasedFrom_moved (p : Nat) (s : State) : Moved s (releasedFrom p s) := zoneToIdle_local.foldl_moved _ s

theorem zone_releasedFrom (p y : Nat) (s : State) :
    (releasedFrom p s).zone y = if (s.zone y).state.owner = some p then PageZone.atReset else s.zone y := by
  have hmem : y ∈ s.zonesWith (fun st => st.owner = some p) ↔ (s.zone y).state.owner = some p := by
    rw [mem_zonesWith, decide_eq_true_eq, and_iff_right_iff_imp]
    exact fun h => zone_lt (s := s) fun hidle => by simp [hidle, ZoneState.owner] at h
  split
  · rename_i h
    obtain ⟨u, -, -, -, hzone, -⟩ := zoneToIdle_local.foldl_at s (nodup_zonesWith _ s) (hmem.2 h)
    exact hzone.trans (zone_zoneToIdle y u)
  · rename_i h
    exact (zoneToIdle_local.foldl_other s fun hy => h (hmem.1 hy)).1

theorem releasedFrom_none {p : Nat} (h : ∀ y, (s.zone y).state.owner ≠ some p) : releasedFrom p s = s := by
  rw [releasedFrom, zonesWith_none fun y => by simpa using h y]
  rfl

/-- Nothing is reserved for the page: its zones go IDLE, and that is all. -/
theorem releaseAtOnce_eq {p : Nat} (h : ∀ y, (s.zone y).state.reservation ≠ some p) :
    releaseAtOnce p s = releasedFrom p s := by
  refine dropReservations_none fun y => ?_
  change ((releasedFrom p s).zone y).state.reservation ≠ some p
  rw [zone_releasedFrom]
  split
  · simp [PageZone.atReset, ZoneState.reservation]
  · exact h y

/-- The record of a page that is suspended, with its suspension timer (R123). -/
def PageRecord.suspended (q : PageRecord) (due : Option Nat) : PageRecord :=
  { q with state := .suspended, channel := none, audioSent := false, suspensionDue := due }

/-- A victim beside the page that starts is suspended (R123, R124). -/
theorem suspendPage_eq (h : s.pages = [q, r]) (hne : q.id ≠ r.id)
    (hres : ∀ y, (s.zone y).state.reservation ≠ some q.id) (due : Option Nat) :
    suspendPage q.id due s = offerRecord (q.traceRecord .pageSuspend 0)
      { releasedFrom q.id s with
        pages := [q.suspended due, r]
        link := s.link.putAll (q.audioOff ++ [.directive (.pageState q.id .suspended (some .preempted))]) } := by
  have hmoved := releasedFrom_moved q.id s
  rw [suspendPage, releaseAtOnce_eq hres]
  generalize releasedFrom q.id s = v at hmoved
  have hpages : v.pages = [q, r] := hmoved.pages.trans h
  rw [giveUpChannel_eq (page?_first hpages), modPage_first hpages hne, hmoved.link]
  simp [State.modPage, State.page?, pageState, direct, emit, PageRecord.suspended, hne.symm]
  rfl

theorem pageEnds_host (h : s.page? r.id = some r) (hr : r.requester = .host) (reason : EndReason) :
    pageEnds r.id reason s = offerRecord (r.traceRecord .pageEnd reason.traceCode) s := by
  simp only [pageEnds, h, reportEnd, hr]

/-- A victim of the host beside the page that starts ends by preemption (R123). -/
theorem preemptPage_eq (h : s.pages = [q, r]) (hne : q.id ≠ r.id) (hreq : q.requester = .host)
    (hres : ∀ y, (s.zone y).state.reservation ≠ some q.id) :
    preemptPage q.id s = offerRecord (q.traceRecord .pageEnd 6)
      { releasedFrom q.id s with
        pages := [r]
        link := s.link.putAll (q.audioOff ++ [.directive (.pageState q.id .freed (some .preempted))]) } := by
  have hmoved := releasedFrom_moved q.id s
  rw [preemptPage, releaseAtOnce_eq hres]
  generalize releasedFrom q.id s = v at hmoved
  have hpages : v.pages = [q, r] := hmoved.pages.trans h
  rw [giveUpChannel_eq (page?_first hpages), modPage_first hpages hne, hmoved.link]
  let q' : PageRecord := { q with channel := none, audioSent := false }
  let w : State := direct (.pageState q.id .freed (some .preempted))
    { v with pages := [q', r], link := s.link.putAll q.audioOff }
  have hends : pageEnds q.id .preempted w = offerRecord (q.traceRecord .pageEnd 6) w :=
    pageEnds_host (r := q') (page?_first (s := w) (q := q') (r := r) rfl) hreq .preempted
  change (pageEnds q.id .preempted w).dropPage q.id = _
  rw [hends, dropPage_offerRecord, dropPage_first (s := w) (q := q') (r := r) rfl hne]
  simp only [w, direct, emit, put_putAll]

/-- Whether a victim of the host, below EMERGENCY, is suspended and not ended (R123). -/
def State.suspends (s : State) (q : PageRecord) : Bool :=
  q.suspendAllowed && (decide (q.cls = .background) || decide (s.paging.suspensionLimit ≠ 0))

/-- The suspension timer of a victim of the host, below EMERGENCY (R123). -/
def State.suspensionDue (s : State) (q : PageRecord) : Option Nat :=
  if q.cls = .background then none else some (s.clock + 100 * s.paging.suspensionLimit)

/-- The page table after a victim of the host beside `r` (R123). -/
def State.victimPages (s : State) (q r : PageRecord) : List PageRecord :=
  (if s.suspends q = true then [q.suspended (s.suspensionDue q)] else []) ++ [r]

/-- The state of which the victim's frame tells (R123). -/
def State.victimReport (s : State) (q : PageRecord) : PageReport :=
  if s.suspends q = true then .suspended else .freed

/-- A victim of the host, below EMERGENCY and without a zone, beside the page that starts (R123). -/
theorem handleVictim_zoneless (h : s.pages = [q, r]) (hne : q.id ≠ r.id) (hcls : q.cls ≠ .emergency)
    (ha : q.alarm = none) (hreq : q.requester = .host) (howner : ∀ y, (s.zone y).state.owner ≠ some q.id)
    (hres : ∀ y, (s.zone y).state.reservation ≠ some q.id) : ∃ record, handleVictim q.id s = offerRecord record
      { s with
        pages := s.victimPages q r
        link := s.link.putAll
          (q.audioOff ++ [.directive (.pageState q.id (s.victimReport q) (some .preempted))]) } := by
  have hkeeps : (q.suspendAllowed && (decide (q.cls = .background) || q.alarm.isSome ||
      decide (s.paging.suspensionLimit ≠ 0))) = s.suspends q := by simp [State.suspends, ha]
  have hdue : (if (decide (q.cls = .background) || q.alarm.isSome) = true then none
      else some (s.after s.paging.suspensionLimit)) = s.suspensionDue q := by
    simp [State.suspensionDue, ha, State.after]
  simp only [handleVictim, page?_first h, hcls, if_false, hkeeps, hdue, State.victimPages, State.victimReport]
  split
  · exact ⟨_, by rw [suspendPage_eq h hne hres, releasedFrom_none howner]; rfl⟩
  · exact ⟨_, by rw [preemptPage_eq h hne hreq hres, releasedFrom_none howner]; rfl⟩

/-! ## A start in one zone -/

theorem OpenedIn.keeps (h : OpenedIn r ch z s t) (hk : Kept t u) (hzone : ∀ y, u.zone y = t.zone y)
    (hamp : ∀ y, u.amp y = t.amp y) : OpenedIn r ch z s u where
  toKept := h.toKept.trans hk
  zone := (hzone z).trans h.zone
  others y hy := ⟨(hzone y).trans (h.others y hy).1, (hamp y).trans (h.others y hy).2⟩
  commanded := by rw [hamp]; exact h.commanded
  pending hne := by rw [hamp]; exact h.pending hne

/-- The record of a page that has started on a channel (R122). -/
def PageRecord.openedOn (r : PageRecord) (ch : Nat) : PageRecord :=
  { r with state := .opening, channel := some ch, suspensionDue := none }

/-- A pass over idle zones with one waiting page, one zone usable for it and a chime: the page starts there on the
lowest channel (R121, R122, R126). -/
theorem schedule_opens (h : s.pages = [r]) (hs : r.state = .queued ∨ r.state = .suspended) (hcls : r.cls ≠ .emergency)
    (hchime : s.paging.chime.of r.cls ≠ 0) (hch : r.channel = none) (hz : zonesOf r.target = [z])
    (hbase : s.usableBase r z = true) (hidle : (s.zone z).state = .idle) :
    OpenedIn r 0 z s (schedule s) ∧ (schedule s).pages = [r.openedOn 0] ∧
      (schedule s).link = s.link.putAll [.directive (.pageState r.id .opening none)] := by
  have huse : s.usable r z = true := usable_idle hbase hidle
  have hzones := usableZones_sole hz huse
  have hchannel : s.channelFor r = some (0, none) :=
    channelFor_free hcls (freeChannel_lowest (by omega) (by simp [State.holder, h, hch]) (by omega))
  obtain ⟨hopened, hmoved⟩ := taken_opened (ch := 0) hzones
  generalize htaken : s.taken r 0 = v at hopened hmoved
  have hpages : v.pages = [{ r with channel := some 0 }] := hmoved.pages.trans (by simp [h])
  have hlink : v.link = s.link := hmoved.link
  have hstart : startPage r.id s = offerRecord (r.traceRecord .pageStart (if r.state = .suspended then 1 else 0))
      (direct (.pageState r.id .opening none)
        (v.modPage r.id fun r => { r with state := .opening, suspensionDue := none })) := by
    rw [startPage_unopposed (page?_sole h) hchannel fun y hy => by
      rw [hzones, List.mem_singleton] at hy
      rw [hy, hidle], htaken, finishStart_chimes hcls (by rw [hopened.paging]; exact hchime)]
  generalize ht : startPage r.id s = t at hstart
  have htpages : t.pages = [r.openedOn 0] := by simp [hstart, hpages, PageRecord.openedOn]
  rw [schedule_starts (candidates_sole h hs) (canStart_of_usable hchannel hz huse) ht
    (by simp [htpages, PageRecord.openedOn]) (lateJoins_none (by simp [htpages, PageRecord.openedOn]))]
  refine ⟨hopened.keeps ?_ (fun y => by simp [hstart]) (fun y => by simp [hstart]), htpages, ?_⟩
  · rw [hstart]
    exact (Kept.of_pages v _ _ v.trace v.covered).trans
      ((offerRecord_kept _ _).trans (Kept.of_pages _ _ _ _ _))
  · simp [hstart, hlink, LinkUnit.putAll]

end Sys2Proof.Machine
end

section
/-! PROOF. PAGE-ASK that opens a quiet zone, or takes the zone of a lower page (R111, R118, R121 to R123). -/

namespace Sys2Proof.Machine

variable {s t u : State} {q r : PageRecord} {z y ch k : Nat} {tag : Byte} {p : List Byte}

/-! ## A lower page gives way (R118, R122, R123) -/

/-- The table holds `q`, LIVE in zone `z` alone on channel `ch`, and `r`, which waits for that zone and outranks it. -/
structure GivesWay (q r : PageRecord) (z ch : Nat) (s : State) : Prop where
  pages : s.pages = [q, r]
  distinct : q.id ≠ r.id
  plain : q.alarm = none
  host : q.requester = .host
  lower : r.cls.order < q.cls.order
  live : q.state = .live
  channel : q.channel = some ch
  general : ch ≤ 5
  qTarget : zonesOf q.target = [z]
  below : r.cls ≠ .emergency
  waits : r.state = .queued
  free : r.channel = none
  rTarget : zonesOf r.target = [z]
  base : s.usableBase r z = true
  zone : (s.zone z).state = .live q.id
  idle : ∀ y, y ≠ z → (s.zone y).state = .idle

namespace GivesWay

/-- The channel that the starting page takes: the lowest one that the other page leaves free. -/
abbrev channelBeside (ch : Nat) : Nat := if ch = 0 then 1 else 0

theorem notEmergency (h : GivesWay q r z ch s) : q.cls ≠ .emergency := fun hq => by
  have := h.lower
  rw [hq] at this
  exact absurd this (Nat.not_lt_zero _)

theorem holder (h : GivesWay q r z ch s) (k : Nat) : s.holder k = if ch = k then some q else none := by
  by_cases hk : ch = k <;> simp [State.holder, h.pages, h.channel, h.free, hk]

theorem channelFor (h : GivesWay q r z ch s) : s.channelFor r = some (channelBeside ch, none) := by
  refine channelFor_free h.below (freeChannel_lowest ?_ ?_ fun j hj => ?_)
  · unfold channelBeside
    split <;> omega
  · rw [h.holder, if_neg]
    unfold channelBeside
    split <;> omega
  · unfold channelBeside at hj
    split at hj
    · rw [h.holder, if_pos (by omega)]
      simp
    · omega

theorem usable (h : GivesWay q r z ch s) : s.usable r z = true := by
  rw [usable_sounding (page?_first h.pages) (.inr h.zone), h.base, Bool.true_and, outranks_iff]
  exact .inl h.lower

theorem usableZones (h : GivesWay q r z ch s) : s.usableZones r = [z] := usableZones_sole h.rTarget h.usable

theorem losers (h : GivesWay q r z ch s) : s.losers r none = [q.id] := by
  simp [State.losers, h.usableZones, h.zone, ZoneState.owner, withoutRepeats]

theorem candidates (h : GivesWay q r z ch s) : s.candidates = [r] := by
  simp [State.candidates, State.pagesInOrder, h.pages, h.live, h.waits, sortBy, insertBefore]

/-- Once the zone has opened for `r`, no zone names `q`. -/
theorem unnamed (h : GivesWay q r z ch s) {v : State} (hv : OpenedIn r k z s v) (y : Nat) :
    (v.zone y).state = .opening r.id ∨ (v.zone y).state = .idle := by
  by_cases hy : y = z
  · rw [hy, hv.zone]
    exact .inl rfl
  · rw [(hv.others y hy).1]
    exact .inr (h.idle y hy)

/-- Its zone taken, `q` is handled as the only victim. -/
theorem victim (h : GivesWay q r z ch s) : ∃ record, handleVictim q.id (s.taken r k) = offerRecord record
    { s.taken r k with
      pages := s.victimPages q { r with channel := some k }
      link := s.link.putAll
        (q.audioOff ++ [.directive (.pageState q.id (s.victimReport q) (some .preempted))]) } := by
  obtain ⟨hopened, hmoved⟩ := taken_opened (ch := k) h.usableZones
  generalize s.taken r k = v at hopened hmoved ⊢
  have hpages : v.pages = [q, { r with channel := some k }] :=
    hmoved.pages.trans (by rw [modPage_second h.pages h.distinct])
  have hlink : v.link = s.link := hmoved.link
  obtain ⟨record, hvictim⟩ := handleVictim_zoneless (s := v) (q := q) (r := { r with channel := some k }) hpages
    h.distinct h.notEmergency h.plain h.host
    (fun y => by rcases h.unnamed hopened y with hy | hy <;> simp [hy, ZoneState.owner, h.distinct.symm])
    (fun y => by rcases h.unnamed hopened y with hy | hy <;> simp [hy, ZoneState.reservation])
  have hsuspends : v.suspends q = s.suspends q := by simp [State.suspends, hopened.paging]
  have hdue : v.suspensionDue q = s.suspensionDue q := by simp [State.suspensionDue, hopened.paging, hopened.clock]
  have hafter : ∀ r', v.victimPages q r' = s.victimPages q r' := fun r' => by
    rw [State.victimPages, State.victimPages, hsuspends, hdue]
  have hreport : v.victimReport q = s.victimReport q := by rw [State.victimReport, State.victimReport, hsuspends]
  exact ⟨record, by rw [hvictim, hafter, hreport, hlink]⟩

/-- The start of `r`, with `q` as its only victim. -/
theorem startPage (h : GivesWay q r z ch s) (hchime : s.paging.chime.of r.cls ≠ 0) :
    OpenedIn r (channelBeside ch) z s (startPage r.id s) ∧
      (Machine.startPage r.id s).pages = s.victimPages q (r.openedOn (channelBeside ch)) ∧
      (Machine.startPage r.id s).link = s.link.putAll (q.audioOff ++
        [Directive.pageState q.id (s.victimReport q) (some .preempted), .pageState r.id .opening none].map
          .directive) := by
  have hchannel := h.channelFor
  generalize channelBeside ch = k at hchannel ⊢
  obtain ⟨hopened, -⟩ := taken_opened (ch := k) h.usableZones
  obtain ⟨record, hvictim⟩ := h.victim (k := k)
  generalize htaken : s.taken r k = v at hopened hvictim
  generalize hw : handleVictim q.id v = w at hvictim
  have hheld : v.holdsSomething q.id = false := by
    rw [State.holdsSomething, zonesWith_none fun y => ?_]
    · rfl
    · rcases h.unnamed hopened y with hy | hy <;>
        simp [hy, ZoneState.sounds, ZoneState.reservation, h.distinct.symm]
  have hkept : Kept v w := by
    rw [hvictim]
    exact (Kept.of_pages v _ _ v.trace v.covered).trans (offerRecord_kept _ _)
  have hstart : Machine.startPage r.id s = finishStart r [z] w := by
    rw [startPage_eq (page?_second h.pages h.distinct) hchannel, h.losers, htaken, h.usableZones]
    · simp [hheld, hw]
    · intro y hy a x
      rw [h.usableZones, List.mem_singleton] at hy
      rw [hy, h.zone]
      simp
  rw [hstart, finishStart_chimes h.below (by rw [hkept.paging, hopened.paging]; exact hchime)]
  refine ⟨hopened.keeps (hkept.trans ?_) (fun y => ?_) (fun y => ?_), ?_, ?_⟩
  · exact (Kept.of_pages w _ _ w.trace w.covered).trans (offerRecord_kept _ _)
  · simp only [hvictim, zone_of_offerRecord, zone_of_direct, zone_of_modPage]
    rfl
  · simp only [hvictim, amp_of_offerRecord, amp_of_direct, amp_of_modPage]
    rfl
  · simp only [hvictim, pages_of_offerRecord, direct_pages, modPage_pages, State.victimPages]
    split <;> simp [PageRecord.suspended, PageRecord.openedOn, h.distinct]
  · simp [hvictim, LinkUnit.putAll]

/-- The pass starts `r`, and ends with that: `q` cannot take its zone back (R121 to R123). -/
theorem schedule (h : GivesWay q r z ch s) (hchime : s.paging.chime.of r.cls ≠ 0) :
    OpenedIn r (channelBeside ch) z s (schedule s) ∧
      (Machine.schedule s).pages = s.victimPages q (r.openedOn (channelBeside ch)) ∧
      (Machine.schedule s).link = s.link.putAll (q.audioOff ++
        [Directive.pageState q.id (s.victimReport q) (some .preempted), .pageState r.id .opening none].map
          .directive) := by
  obtain ⟨hopened, hpages, hlink⟩ := h.startPage hchime
  generalize ht : Machine.startPage r.id s = t at hopened hpages hlink
  have hin : ∀ p ∈ t.pages, p = q.suspended (s.suspensionDue q) ∨ p = r.openedOn (channelBeside ch) := by
    rw [hpages, State.victimPages]
    split <;> simp
  have hrpage : t.page? r.id = some (r.openedOn (channelBeside ch)) := by
    rw [State.page?, hpages, State.victimPages]
    split <;> simp [PageRecord.suspended, PageRecord.openedOn, h.distinct]
  have hstop : ∀ p ∈ t.pages, p.state = .queued ∨ p.state = .suspended → t.canStart p = false := by
    intro p hp hs
    rcases hin p hp with rfl | rfl
    · refine canStart_unusable fun y hy => ?_
      have hyz : y = z := by simpa [PageRecord.suspended, h.qTarget] using hy
      have hno : outranks (q.suspended (s.suspensionDue q)) (r.openedOn (channelBeside ch)) = false :=
        outranks_false_of_order h.notEmergency (Nat.le_of_lt h.lower)
      rw [hyz, usable_sounding (q := r.openedOn (channelBeside ch)) hrpage (.inl (by rw [hopened.zone]; rfl)), hno,
        Bool.and_false]
    · simp [PageRecord.openedOn] at hs
  have hjoin : lateJoins t = t := lateJoins_none fun p hp => by
    rcases hin p hp with rfl | rfl <;> simp [PageRecord.suspended, PageRecord.openedOn]
  rw [schedule_starts h.candidates (canStart_of_usable h.channelFor h.rTarget h.usable) ht hstop hjoin]
  exact ⟨hopened.keeps (Kept.of_pages _ _ _ _ _) (fun y => rfl) (fun y => rfl), hpages, hlink⟩

end GivesWay

/-! ## PAGE-ASK (R110, R111) -/

variable {o : PageAskOp} {source : PageSource} {cls : PageClass} {zones : ZoneSet} {mode : PageMode} {req : PageRequest}

/-- The admission of a host's request, before its pass, changes no zone and nothing of the other blocks. -/
theorem admitted_kept (h : req.requester = .host) (s : State) : Kept s (s.admitted req) := by
  rw [State.admitted, h]
  exact ⟨rfl, rfl, rfl, rfl, rfl, rfl, rfl, rfl, fun _ _ => rfl⟩

@[simp] theorem zone_admitted (req : PageRequest) (s : State) (y : Nat) : (s.admitted req).zone y = s.zone y := by
  rw [State.admitted]
  cases req.requester <;> rfl

@[simp] theorem amp_admitted (req : PageRequest) (s : State) (y : Nat) : (s.admitted req).amp y = s.amp y := by
  rw [State.admitted]
  cases req.requester <;> rfl

@[simp] theorem pages_admitted (req : PageRequest) (s : State) :
    (s.admitted req).pages = s.pages ++ [s.firstPage req] := by
  rw [State.admitted]
  cases req.requester <;> rfl

@[simp] theorem link_admitted (req : PageRequest) (s : State) : (s.admitted req).link =
    s.link.putAll [.directive (.pageState (s.lastPageId % 255 + 1) .queued none)] := by
  rw [State.admitted]
  cases req.requester <;> rfl

@[simp] theorem map_admitted (req : PageRequest) (s : State) : (s.admitted req).map = s.map := by
  rw [State.admitted]
  cases req.requester <;> rfl

@[simp] theorem target_firstPage (req : PageRequest) (s : State) :
    (s.firstPage req).target = s.targetOf req.cls req.zones := rfl

theorem targetOf_ne_zero (h : z ∈ zonesOf (s.targetOf cls zones)) : s.targetOf cls zones ≠ 0 := by
  intro h0
  have := mem_zonesOf h
  rw [h0] at this
  simp [zoneIn] at this

/-- A zone of an admitted page's target is usable as far as the zone alone decides, unless it is faulted (R111,
R120). -/
theorem usableBase_admitted (hz : z ∈ zonesOf (s.targetOf req.cls req.zones))
    (hfault : (s.amp z).fault = none ∨ req.cls = .emergency) :
    (s.admitted req).usableBase (s.firstPage req) z = true := by
  obtain ⟨-, hinstalled, hrange⟩ := mem_targetOf.1 (mem_zonesOf hz)
  simp only [State.usableBase, State.installed, map_admitted, amp_admitted, Bool.and_eq_true, Bool.or_eq_true,
    Bool.not_eq_true', decide_eq_true_eq]
  refine ⟨⟨hinstalled, ?_⟩, hrange⟩
  rcases hfault with h | h
  · exact .inl (by simp [h])
  · exact .inr h

/-- A PAGE-ASK that is admitted while no zone is covered answers with the state that its pass leaves it in (R110). -/
theorem exec_pageAsk_admits (hr : PageAskOp.read p = some o) (ht : s.Takes ⟨0x09, tag, p⟩)
    (h : s.Reads o source cls zones mode) (hready : ∀ x, source = .ext x → (s.ext x).line = .offhook)
    (hz : zonesOf (s.targetOf cls zones) = [z]) (hroom : s.generalPages < 24) (hcov : s.covered = 0)
    (hid : s.page? (s.lastPageId % 255 + 1) = none)
    (hpass : schedule (s.admitted (o.request cls source zones mode)) = t)
    (hpage : t.page? (s.lastPageId % 255 + 1) = some r) (hopening : r.state = .opening) : exec (.pageAsk tag p) s =
      .next (answered ⟨0x09, tag, p⟩ .ok (.page (s.lastPageId % 255 + 1) .opening 1) t) := by
  have hne : s.targetOf cls zones ≠ 0 := targetOf_ne_zero (z := z) (by simp [hz])
  have hasked := pageAsk_admits h (sourceReady_iff.2 hready) (admissionRefusal_none hne (.inr hroom))
    ((releasingHolds_uncovered hcov).trans ((admitPage_eq hid (o.request cls source zones mode)).trans hpass))
  refine (exec_pageAsk_answers hr ht hasked).trans ?_
  rw [nextPageId_free hid, State.pageReply, hpage, hz, Option.map_some, hopening]
  rfl

/-- The page that an admitted PAGE-ASK becomes, once it has started on a channel (R110, R111, R122). -/
theorem openedOn_firstPage (o : PageAskOp) (cls : PageClass) (source : PageSource) (zones : ZoneSet) (mode : PageMode)
    (ch : Nat) (s : State) : (s.firstPage (o.request cls source zones mode)).openedOn ch =
      { id := s.lastPageId % 255 + 1, alarm := none, cls := cls, source := source, requester := .host
        target := s.targetOf cls zones, mode := mode
        suspendAllowed := o.suspendAllowed ≠ 0 || cls = .background
        maxDuration := if o.maxDuration = 0 then 0 else max 10 (min o.maxDuration 6000)
        arrival := s.nextArrival, state := .opening, channel := some ch, audioSent := false
        durationStarted := false, durationDue := none, suspensionDue := none, endReason := none } := by
  simp only [PageRecord.openedOn, State.firstPage, PageAskOp.request, clampDuration_eq]

/-- A PAGE-ASK for one usable zone, with a chime, while no page exists: its page starts there (R111, R122). -/
theorem exec_pageAsk_opens (hr : PageAskOp.read p = some o) (ht : s.Takes ⟨0x09, tag, p⟩)
    (hreads : s.Reads o source cls zones mode) (hready : ∀ x, source = .ext x → (s.ext x).line = .offhook)
    (hcls : cls ≠ .emergency) (hp : s.pages = []) (hq : s.ZonesQuiet) (hz : zonesOf (s.targetOf cls zones) = [z])
    (hfault : (s.amp z).fault = none) (hchime : s.paging.chime.of cls ≠ 0) :
    let req := o.request cls source zones mode
    ∃ t, exec (.pageAsk tag p) s =
        .next (answered ⟨0x09, tag, p⟩ .ok (.page (s.lastPageId % 255 + 1) .opening 1) t) ∧
      OpenedIn (s.firstPage req) 0 z (s.admitted req) t ∧ t.pages = [(s.firstPage req).openedOn 0] ∧
      t.link = s.link.putAll ([Directive.pageState (s.lastPageId % 255 + 1) .queued none,
        .pageState (s.lastPageId % 255 + 1) .opening none].map .directive) := by
  intro req
  have hkept : Kept s (s.admitted req) := admitted_kept rfl s
  have hmem : z ∈ zonesOf (s.targetOf req.cls req.zones) := hz ▸ List.mem_singleton_self z
  obtain ⟨hopened, hpages, hlink⟩ := schedule_opens (s := s.admitted req) (r := s.firstPage req) (z := z) (by simp [hp])
    (.inl rfl) hcls (by rw [hkept.paging]; exact hchime) rfl (by rw [target_firstPage]; exact hz)
    (usableBase_admitted hmem (.inl hfault)) (by simp [hq.idle])
  generalize hpass : schedule (s.admitted req) = t at hopened hpages hlink
  refine ⟨t, exec_pageAsk_admits hr ht hreads hready hz (by simp [State.generalPages, hp]) hq.uncovered
    (page?_noPages hp _) hpass (page?_sole hpages) rfl, hopened, hpages, ?_⟩
  rw [hlink, link_admitted]
  rfl

end Sys2Proof.Machine
end

section
/-! PROOF. PAGE-ASK that starts a page at once, in a quiet zone or in one taken from a lower page, and the choice of a
channel (R111, R117, R118, R121 to R123). -/

namespace Sys2Proof.Machine

variable {s t : State} {q r : PageRecord} {z ch : Nat} {tag : Byte} {p : List Byte} {o : PageAskOp}
  {source : PageSource} {cls : PageClass} {zones : ZoneSet} {mode : PageMode}

/-- The only page is one of the host below URGENT, LIVE in zone `z` alone on channel `ch`. -/
structure LowerLive (q : PageRecord) (z ch : Nat) (s : State) : Prop where
  pages : s.pages = [q]
  plain : q.alarm = none
  host : q.requester = .host
  lower : q.cls = .normal ∨ q.cls = .background
  live : q.state = .live
  channel : q.channel = some ch
  general : ch ≤ 5
  target : zonesOf q.target = [z]
  zone : (s.zone z).state = .live q.id
  idle : ∀ y, y ≠ z → (s.zone y).state = .idle

/-- The admission of an URGENT request for its zone makes such a page give way (R118, R121). -/
theorem LowerLive.givesWay {req : PageRequest} (h : LowerLive q z ch s)
    (hcls : req.cls = .urgent) (hz : zonesOf (s.targetOf req.cls req.zones) = [z]) (hfault : (s.amp z).fault = none)
    (hid : q.id ≠ s.lastPageId % 255 + 1) : GivesWay q (s.firstPage req) z ch (s.admitted req) where
  pages := by simp [h.pages]
  distinct := hid
  plain := h.plain
  host := h.host
  lower := by rcases h.lower with hq | hq <;> simp [State.firstPage, hcls, hq, PageClass.order]
  live := h.live
  channel := h.channel
  general := h.general
  qTarget := h.target
  below := by simp [State.firstPage, hcls]
  waits := rfl
  free := rfl
  rTarget := by rw [target_firstPage]; exact hz
  base := usableBase_admitted (hz ▸ List.mem_singleton_self z) (.inl hfault)
  zone := by simpa using h.zone
  idle y hy := by simpa using h.idle y hy

/-- An URGENT PAGE-ASK takes the zone of a lower page (R118, R121 to R123). -/
theorem exec_pageAsk_preempts (hr : PageAskOp.read p = some o) (ht : s.Takes ⟨0x09, tag, p⟩)
    (hreads : s.Reads o source .urgent zones mode) (hready : ∀ x, source = .ext x → (s.ext x).line = .offhook)
    (h : LowerLive q z ch s) (hcov : s.covered = 0) (hz : zonesOf (s.targetOf .urgent zones) = [z])
    (hfault : (s.amp z).fault = none) (hchime : s.paging.chime.urgent ≠ 0) (hid : q.id ≠ s.lastPageId % 255 + 1) :
    let req := o.request .urgent source zones mode
    let k := GivesWay.channelBeside ch
    ∃ t, exec (.pageAsk tag p) s =
        .next (answered ⟨0x09, tag, p⟩ .ok (.page (s.lastPageId % 255 + 1) .opening 1) t) ∧
      OpenedIn (s.firstPage req) k z (s.admitted req) t ∧ t.pages = s.victimPages q ((s.firstPage req).openedOn k) ∧
      t.link = s.link.putAll ([.directive (.pageState (s.lastPageId % 255 + 1) .queued none)] ++ (q.audioOff ++
        [Directive.pageState q.id (s.victimReport q) (some .preempted),
          .pageState (s.lastPageId % 255 + 1) .opening none].map .directive)) := by
  intro req k
  have hkept : Kept s (s.admitted req) := admitted_kept rfl s
  have hgives : GivesWay q (s.firstPage req) z ch (s.admitted req) := h.givesWay rfl hz hfault hid
  obtain ⟨hopened, hpages, hlink⟩ := hgives.schedule (by rw [hkept.paging]; exact hchime)
  generalize hpass : schedule (s.admitted req) = t at hopened hpages hlink
  have hnew : s.page? (s.lastPageId % 255 + 1) = none := by simp [State.page?, h.pages, hid]
  have hsuspends : (s.admitted req).suspends q = s.suspends q := by simp [State.suspends, hkept.paging]
  have hdue : (s.admitted req).suspensionDue q = s.suspensionDue q := by
    simp [State.suspensionDue, hkept.paging, hkept.clock]
  have hvictims : t.pages = s.victimPages q ((s.firstPage req).openedOn k) := by
    rw [hpages, State.victimPages, State.victimPages, hsuspends, hdue]
  have hfound : t.page? (s.lastPageId % 255 + 1) = some ((s.firstPage req).openedOn k) := by
    rw [State.page?, hvictims, State.victimPages]
    split <;> simp [PageRecord.suspended, PageRecord.openedOn, State.firstPage, hid]
  refine ⟨t, exec_pageAsk_admits hr ht hreads hready hz (by simp [State.generalPages, h.pages, h.plain]) hcov hnew
    hpass hfound rfl, hopened, hvictims, ?_⟩
  rw [hlink, link_admitted, putAll_putAll, State.victimReport, hsuspends]
  rfl

/-- Settles O45: the start in a quiet zone, the start that takes a zone, and the channels. -/
theorem pageAskOpensZone : Obligations.PageAskOpensZone := by
  refine ⟨fun tag p o source cls zones mode z s hr ht hsource hclass htarget hmode hready hcls hp hq hz hfault hidle
      hchime hu => ?_,
    fun tag p o source zones mode z ch q s hr ht hsource hclass htarget hmode hready hp ha hreq hcls hs hch hch5 haudio
      hqz hlive hidle hcov hz hfault hchime hid hu => ?_,
    fun p s hp => ⟨fun k hk hfree hlow => channelFor_free hp (freeChannel_lowest hk hfree hlow), fun h hall => ?_⟩,
    fun p s hp => ⟨channelFor_emergency_free hp, fun q hq => channelFor_emergency_held hp hq⟩⟩
  · intro id
    obtain ⟨t, hexec, hopened, hpages, hlink⟩ :=
      exec_pageAsk_opens hr ht ⟨hsource, hclass, htarget, hmode⟩ hready hcls hp hq hz hfault hchime
    have hkept := (admitted_kept (req := o.request cls source zones mode) rfl s).trans hopened.toKept
    have hout := output_answered_all (v := .ok) (b := .page id .opening 1) ht hlink (by simp [OutFrame.unsolicited])
      (by simp) (by simp; omega)
    have hothers : ∀ y, y ≠ z → t.zone y = s.zone y ∧ t.amp y = s.amp y := fun y hy => by
      simpa using hopened.others y hy
    refine ⟨_, hexec, hpages.trans (by rw [openedOn_firstPage]), hopened.zone, fun y hy => ?_, hopened.commanded,
      hopened.pending ?_, ?_, hkept.exts, hkept.calls, hkept.groups, hkept.orbits, hkept.inputs⟩
    · exact hothers y hy
    · simp [hidle, Commanded.idle, State.openingCommand]
    · rw [hout, List.append_assoc]
      rfl
  · intro id kept taken
    have hlower : LowerLive q z ch s := ⟨hp, ha, hreq, hcls, hs, hch, hch5, hqz, hlive, hidle⟩
    obtain ⟨t, hexec, hopened, hpages, hlink⟩ := exec_pageAsk_preempts hr ht ⟨hsource, hclass, htarget, hmode⟩ hready
      hlower hcov hz hfault hchime hid
    have hoff : q.audioOff = [.directive (.pageAudio q.id ch q.source false)] := by
      simp [PageRecord.audioOff, haudio, hch]
    rw [hoff] at hlink
    have hout := output_answered_all (v := .ok) (b := .page id .opening 1) ht hlink (by simp [OutFrame.unsolicited])
      (by simp) (by simp; omega)
    have hothers : ∀ y, y ≠ z → t.zone y = s.zone y ∧ t.amp y = s.amp y := fun y hy => by
      simpa using hopened.others y hy
    refine ⟨_, hexec, hpages.trans ?_, hopened.zone, fun y hy => ?_, hopened.commanded, ?_⟩
    · rw [openedOn_firstPage, show decide (PageClass.urgent = .background) = false from rfl, Bool.or_false]
      rfl
    · exact hothers y hy
    · rw [hout, List.append_assoc]
      rfl
  · have hnone : s.freeChannel = none := freeChannel_none fun j hj => by simp [hall j hj]
    refine ⟨fun hb => channelFor_background hb hnone, fun hb k hk hlast => ?_⟩
    exact channelFor_takes hp hb hnone (expendable_last hall hk hlast) (holder_channel (hall k hk))

end Sys2Proof.Machine
end

section
/-! PROOF. How a page goes LIVE, how a LIVE page joins a zone late, and the end of a hang (R115, R116, R127). -/

namespace Sys2Proof.Machine

variable {s t u : State} {q r : PageRecord} {z y ch d : Nat}

/-! ## Going LIVE (R115) -/

/-- The page speaks from the evacuation player. -/
def PageSource.isAlarm : PageSource → Bool
  | .alarm _ => true
  | _ => false

/-- No PAGE-AUDIO is sent for the page: the evacuation player feeds EC (R115). -/
def PageRecord.silent (r : PageRecord) : Bool := r.source.isAlarm && r.channel = some 6

theorem audioOn_eq (r : PageRecord) (s : State) : audioOn r s = if r.silent = true then s
    else (direct (.pageAudio r.id (r.channel.getD 7) r.source true) s).modPage r.id fun r =>
      { r with audioSent := true } := by
  unfold audioOn PageRecord.silent
  cases r.source <;> rfl

/-- The frames of a page that goes LIVE (R107, R115). -/
def PageRecord.liveFrames (r : PageRecord) : List OutFrame :=
  (if r.silent = true then [] else [.directive (.pageAudio r.id (r.channel.getD 7) r.source true)]) ++
    [.directive (.pageState r.id .live none)]

/-- A page's record once it is LIVE, its duration started when it has one and was not LIVE before (R115). -/
def PageRecord.wentLive (r : PageRecord) (due : Nat) : PageRecord :=
  { r with
    state := .live, audioSent := !r.silent || r.audioSent
    durationStarted := r.durationStarted || r.maxDuration ≠ 0
    durationDue := if (!r.durationStarted && r.maxDuration ≠ 0) = true then some due else r.durationDue }

/-- The only page goes LIVE. -/
theorem pageGoesLive_sole {due : Nat} (h : s.pages = [r]) (hs : r.state = .opening)
    (hdue : s.clock + 100 * r.maxDuration = due) : pageGoesLive r.id s =
    { s with pages := [r.wentLive due], link := s.link.putAll r.liveFrames } := by
  have haudio : audioOn r { s with pages := [{ r with state := .live }] } =
      { s with
        pages := [{ r with state := .live, audioSent := !r.silent || r.audioSent }]
        link := s.link.putAll (if r.silent = true then []
          else [.directive (.pageAudio r.id (r.channel.getD 7) r.source true)]) } := by
    rw [audioOn_eq]
    cases r.silent with
    | true => rfl
    | false => simp [State.modPage, direct, emit, LinkUnit.putAll]
  simp only [pageGoesLive, page?_sole h, hs, if_true, modPage_sole h, haudio, pageState, direct, emit, put_putAll]
  cases hdur : (!r.durationStarted && decide (r.maxDuration ≠ 0)) with
  | true =>
    simp only [Bool.and_eq_true, Bool.not_eq_true', decide_eq_true_eq] at hdur
    simp [State.modPage, PageRecord.wentLive, PageRecord.liveFrames, hdur, State.after, hdue]
  | false =>
    have hstarted : (r.durationStarted || decide (r.maxDuration ≠ 0)) = r.durationStarted := by
      revert hdur
      cases r.durationStarted <;> simp
    simp only [PageRecord.wentLive, PageRecord.liveFrames, hdur, hstarted]
    rfl

theorem zoneToLive_opening {p : Nat} (h : (s.zone z).state = .opening p) : zoneToLive z s = pageGoesLive p
    (putZone z { state := .live p, chimeDue := none, hangDue := none }
      { (s.amp z).commanded with ramp := 0, chime := false } s) := by
  unfold zoneToLive
  rw [h]

/-- The chime of the only page's zone ends, its first of this start (R115). -/
theorem zoneToLive_sole (h : s.pages = [r]) (hs : r.state = .opening) (hz : (s.zone z).state = .opening r.id) :
    zoneToLive z s =
      { putZone z { state := .live r.id, chimeDue := none, hangDue := none }
          { (s.amp z).commanded with ramp := 0, chime := false } s with
        pages := [r.wentLive (s.clock + 100 * r.maxDuration)], link := s.link.putAll r.liveFrames } := by
  have hmoved := putZone_moved z { state := .live r.id, chimeDue := none, hangDue := none }
    { (s.amp z).commanded with ramp := 0, chime := false } s
  rw [zoneToLive_opening hz, pageGoesLive_sole (hmoved.pages.trans h) hs (by rw [hmoved.clock]), hmoved.link]

/-! ## Late joins (R127) -/

/-- One zone's late join. -/
def joinZone (s : State) (z : Nat) : State :=
  if (s.zone z).state = .idle then
    match (s.pagesInOrder fun p => p.state = .live && p.mode = .partially && zoneIn p.target z
        && s.usableBase p z).head? with
    | none => s
    | some p => liveAtOnce z p.cls (zoneToOpening z p s)
  else s

theorem lateJoins_eq (s : State) : lateJoins s = (List.range 64).foldl joinZone s := rfl

/-- No page joins a zone that is in use, or that no LIVE PARTIAL page can use. -/
theorem joinZone_none (h : (s.zone z).state ≠ .idle ∨ ∀ p ∈ s.pages, p.state = .live → p.mode = .partially →
    zoneIn p.target z = true → s.usableBase p z = false) : joinZone s z = s := by
  unfold joinZone
  split
  · rename_i hidle
    have hnone : s.pagesInOrder (fun p => p.state = .live && p.mode = .partially && zoneIn p.target z
        && s.usableBase p z) = [] := by
      rw [List.eq_nil_iff_forall_not_mem]
      intro p hp
      obtain ⟨hmem, hjoins⟩ := mem_pagesInOrder.1 hp
      simp only [Bool.and_eq_true, decide_eq_true_eq] at hjoins
      obtain ⟨⟨⟨hs, hm⟩, ht⟩, hu⟩ := hjoins
      rw [(h.resolve_left (not_not.2 hidle)) p hmem hs hm ht] at hu
      exact Bool.false_ne_true hu
    rw [hnone]
    rfl
  · rfl

theorem foldl_same {f : State → Nat → State} : ∀ {l : List Nat}, (∀ z ∈ l, f s z = s) → l.foldl f s = s
  | [], _ => rfl
  | z :: l, h => by
    rw [List.foldl_cons, h z (by simp)]
    exact foldl_same fun y hy => h y (by simp [hy])

/-- A fold that one element alone changes. -/
theorem foldl_once {f : State → Nat → State} : ∀ {l : List Nat}, l.Nodup → z ∈ l → f s z = t →
    (∀ y ∈ l, y ≠ z → f s y = s) → (∀ y ∈ l, y ≠ z → f t y = t) → l.foldl f s = t
  | [], _, hz, _, _, _ => absurd hz List.not_mem_nil
  | y :: l, hl, hz, ht, hbefore, hafter => by
    obtain ⟨hy, hl⟩ := List.nodup_cons.1 hl
    rw [List.foldl_cons]
    by_cases hyz : y = z
    · rw [hyz, ht]
      exact foldl_same fun x hx => hafter x (by simp [hx]) fun hxz => hy (hyz ▸ hxz ▸ hx)
    · rw [hbefore y (by simp) hyz]
      exact foldl_once hl ((List.mem_cons.1 hz).resolve_left (Ne.symm hyz)) ht
        (fun x hx => hbefore x (by simp [hx])) fun x hx => hafter x (by simp [hx])

/-- Without a zone for any LIVE PARTIAL page, no zone is joined late. -/
theorem lateJoins_unjoined (h : ∀ z, (s.zone z).state ≠ .idle ∨ ∀ p ∈ s.pages, p.state = .live →
    p.mode = .partially → zoneIn p.target z = true → s.usableBase p z = false) : lateJoins s = s :=
  (lateJoins_eq s).trans (foldl_same fun z _ => joinZone_none (h z))

theorem usableBase_congr (hm : t.map = s.map) (hf : (t.amp z).fault = (s.amp z).fault) (r : PageRecord) :
    t.usableBase r z = s.usableBase r z := by simp only [State.usableBase, State.installed, hm, hf]

/-- The only page joins the one zone that it can use, with its chime. -/
theorem lateJoins_sole (h : s.pages = [r]) (hs : r.state = .live) (hm : r.mode = .partially)
    (hchime : s.paging.chime.of r.cls ≠ 0) (hidle : (s.zone z).state = .idle) (hz : zoneIn r.target z = true)
    (hbase : s.usableBase r z = true)
    (hothers : ∀ y, y ≠ z → (s.zone y).state ≠ .idle ∨ zoneIn r.target y = false) :
    lateJoins s = zoneToOpening z r s := by
  have hlocal := zoneToOpening_local r
  have hmoved := hlocal.moved s z
  have hunjoined : ∀ u : State, u.pages = [r] → (∀ y, y ≠ z → u.zone y = s.zone y) → ∀ y, y ≠ z →
      joinZone u y = u := by
    intro u hu hzone y hy
    refine joinZone_none ((hothers y hy).imp (fun hne => by rw [hzone y hy]; exact hne) fun hout p hp _ _ hin => ?_)
    rw [hu, List.mem_singleton] at hp
    rw [hp, hout] at hin
    exact absurd hin Bool.false_ne_true
  have hjoins : joinZone s z = zoneToOpening z r s := by
    have hfirst := pagesInOrder_sole h (p := fun p => p.state = .live && p.mode = .partially && zoneIn p.target z
      && s.usableBase p z) (by simp [hs, hm, hz, hbase])
    simp only [joinZone, hidle, if_true, hfirst, List.head?_cons, liveAtOnce, hmoved.paging, hchime, if_false]
  exact (lateJoins_eq s).trans (foldl_once List.nodup_range (List.mem_range.2 (zoneIn_lt hz)) hjoins
    (fun y _ => hunjoined s h (fun _ _ => rfl) y)
    fun y _ => hunjoined _ (hmoved.pages.trans h) (fun x hx => hlocal.zone s z x hx) y)

/-! ## The end of a hang (R116) -/

theorem endHang_unreserved (h : (s.zone z).state = .closing q.id none) :
    endHang z s = schedule (freeIfDone q.id (zoneToIdle z s)) := by
  simp [endHang, h, State.opensFor]

/-- The hang of a reserved zone ends, and it opens with a chime for the page that reserved it. -/
theorem endHang_reserved (h : (s.zone z).state = .closing q.id (some r.id)) (hr : s.page? r.id = some r)
    (hs : r.state = .opening) (hbase : s.usableBase r z = true) (hchime : s.paging.chime.of r.cls ≠ 0) :
    endHang z s = signalCoverage (freeIfDone q.id (zoneToOpening z r s)) := by
  have hmoved := (zoneToOpening_local r).moved s z
  have hopens : s.opensFor z (some r.id) = some r := by simp [State.opensFor, hr, PageRecord.started, hs, hbase]
  have hlive : liveAtOnce z r.cls (zoneToOpening z r s) = zoneToOpening z r s := by
    rw [liveAtOnce, hmoved.paging, if_neg hchime]
  simp only [endHang, h, hopens, hlive]

/-- A page that closes and owned that zone alone is freed once the zone is not its own any more (R116). -/
theorem freeIfDone_hung (hq : s.page? q.id = some q) (ha : q.alarm = none) (hs : q.state = .closing)
    (hmoved : Moved s t) (howner : ∀ y, (t.zone y).state.owner ≠ some q.id) :
    freeIfDone q.id t = direct (.pageState q.id .freed q.endReason) (t.dropPage q.id) :=
  freeIfDone_done (by rw [State.page?, hmoved.pages]; exact hq) ha hs howner

end Sys2Proof.Machine
end

section
/-! PROOF. The timers of pages and zones: the chime, the duration and the hang (R115, R116, R126 to R128). -/

namespace Sys2Proof.Machine

variable {s t : State} {q r : PageRecord} {z d ch : Nat}

/-! ## Expiries that are due -/

theorem exec_chimeTimerExpiry_due (hrun : s.running = true) (hd : (s.zone z).chimeDue = some d) (h : d ≤ s.clock) :
    exec (.chimeTimerExpiry z) s = .next (zoneToLive z s) :=
  congrArg Host.Outcome.next ((whenRunning_running hrun _).trans (by rw [hd, atExpiry_due h]))

theorem exec_hangTimerExpiry_due (hrun : s.running = true) (hd : (s.zone z).hangDue = some d) (h : d ≤ s.clock)
    (hcov : s.covered = 0) : exec (.hangTimerExpiry z) s = .next (endHang z s) :=
  congrArg Host.Outcome.next ((whenRunning_running hrun _).trans
    (by rw [hd, atExpiry_due h, releasingHolds_uncovered hcov]))

theorem exec_durationExpiry_due (hrun : s.running = true) (hp : s.page? r.id = some r) (hd : r.durationDue = some d)
    (h : d ≤ s.clock) (hcov : s.covered = 0) :
    exec (.durationExpiry r.id) s = .next (endPage r.id .duration s) :=
  congrArg Host.Outcome.next ((whenRunning_running hrun _).trans
    (by rw [hp, Option.bind_some, hd, atExpiry_due h, releasingHolds_uncovered hcov]))

/-- Directives that all find their places stand behind the other frames (R190). -/
theorem output_directives {ds : List Directive} (hl : t.link = s.link.putAll (ds.map .directive))
    (hroom : s.link.output.length + ds.length ≤ 48) (hu : unsolicitedCount s.link.output + ds.length ≤ 40) :
    t.link.output = s.link.output ++ ds.map .directive := by
  rw [hl, putAll_output (by simp [OutFrame.unsolicited]) (by simpa using hroom) (by simpa using hu)]

/-! ## The end of a hang -/

/-- The only page's only zone has hung: it is IDLE, and the page is freed (R116). -/
theorem endHang_sole (h : s.pages = [r]) (ha : r.alarm = none) (hs : r.state = .closing)
    (hz : (s.zone z).state = .closing r.id none) (hidle : ∀ y, y ≠ z → (s.zone y).state = .idle) :
    (endHang z s).zone z = PageZone.atReset ∧ (endHang z s).pages = [] ∧ ((endHang z s).amp z).commanded = .idle ∧
      (endHang z s).link = s.link.putAll ([Directive.pageState r.id .freed r.endReason].map .directive) := by
  have hlt : z < 64 := zone_lt (s := s) (by simp [hz])
  have hmoved := zoneToIdle_local.moved s z
  have hfreed : freeIfDone r.id (zoneToIdle z s) = direct (.pageState r.id .freed r.endReason)
      ((zoneToIdle z s).dropPage r.id) := freeIfDone_hung (page?_sole h) ha hs hmoved fun y => by
    by_cases hy : y = z
    · rw [hy, zone_zoneToIdle]
      simp [PageZone.atReset, ZoneState.owner]
    · rw [zoneToIdle_local.zone s z y hy, hidle y hy]
      simp [ZoneState.owner]
  have hpages : ((zoneToIdle z s).dropPage r.id).pages = [] := by simp [hmoved.pages, h]
  rw [endHang_unreserved hz, hfreed, schedule_noPages (by exact hpages)]
  refine ⟨by simpa using zone_zoneToIdle z s, hpages, by simpa using commanded_zoneToIdle hlt s, ?_⟩
  simp [hmoved.link, LinkUnit.putAll]

/-- The page `q` closes in zone `z`, which may hang on for the second page `r`, and `r` may use it. -/
structure Hangs (q r : PageRecord) (z : Nat) (s : State) : Prop where
  pages : s.pages = [q, r]
  distinct : q.id ≠ r.id
  plain : q.alarm = none
  closing : q.state = .closing
  zone : ∃ x, (s.zone z).state = .closing q.id x
  others : ∀ y, y ≠ z → (s.zone y).state = .idle ∨ (s.zone y).state = .live r.id
  below : r.cls ≠ .emergency
  chime : s.paging.chime.of r.cls ≠ 0
  base : s.usableBase r z = true

namespace Hangs

theorem lt (h : Hangs q r z s) : z < 64 := by
  obtain ⟨x, hx⟩ := h.zone
  exact zone_lt (s := s) (by simp [hx])

/-- Once its zone has left it, the closing page is freed. -/
theorem frees (h : Hangs q r z s) (hmoved : Moved s t) (hz : (t.zone z).state.owner ≠ some q.id)
    (hzone : ∀ y, y ≠ z → t.zone y = s.zone y) : freeIfDone q.id t =
      direct (.pageState q.id .freed q.endReason) { t with pages := [r] } := by
  have hpages : t.pages = [q, r] := hmoved.pages.trans h.pages
  rw [freeIfDone_hung (page?_first h.pages) h.plain h.closing hmoved fun y => ?_, dropPage_first hpages h.distinct]
  by_cases hy : y = z
  · rw [hy]
    exact hz
  · rw [hzone y hy]
    rcases h.others y hy with ho | ho <;> simp [ho, ZoneState.owner, h.distinct.symm]

/-- The state in which the zone is IDLE and the page that owned it freed, before the pass. -/
def freed (q r : PageRecord) (z : Nat) (s : State) : State :=
  direct (.pageState q.id .freed q.endReason) { zoneToIdle z s with pages := [r] }

theorem endHang (h : Hangs q r z s) (hz : (s.zone z).state = .closing q.id none) :
    endHang z s = schedule (freed q r z s) := by
  rw [endHang_unreserved hz, h.frees (zoneToIdle_local.moved s z) ?_ (zoneToIdle_local.zone s z)]
  · rfl
  · rw [zone_zoneToIdle]
    simp [PageZone.atReset, ZoneState.owner]

theorem freed_kept (q r : PageRecord) (z : Nat) (s : State) : Kept s (freed q r z s) :=
  (zoneToIdle_local.moved s z).toKept.trans (Kept.of_pages (zoneToIdle z s) _ _ (zoneToIdle z s).trace
    (zoneToIdle z s).covered)

theorem zone_freed (q r : PageRecord) (z : Nat) (s : State) (y : Nat) :
    (freed q r z s).zone y = (zoneToIdle z s).zone y := rfl

theorem link_freed (q r : PageRecord) (z : Nat) (s : State) :
    (freed q r z s).link = s.link.putAll [.directive (.pageState q.id .freed q.endReason)] := by
  rw [← (zoneToIdle_local.moved s z).link]
  rfl

theorem base_freed (h : Hangs q r z s) : (freed q r z s).usableBase r z = true := by
  rw [usableBase_congr (freed_kept q r z s).map (fault_putZone _ _ s z)]
  exact h.base

/-- The zone has opened for `r` on a channel, and these are the pages and the frames (R114, R138). -/
structure Opens (r : PageRecord) (ch z : Nat) (pages : List PageRecord) (frames : List Directive) (s t : State) :
    Prop where
  zone : t.zone z = s.openedFor r
  pages : t.pages = pages
  commanded : (t.amp z).commanded = s.openingCommand z { r with channel := some ch }
  link : t.link = s.link.putAll (frames.map .directive)

/-- The page that reserved the zone has it open (R116). -/
theorem opensReserved (h : Hangs q r z s) (hz : (s.zone z).state = .closing q.id (some r.id)) (hs : r.state = .opening)
    (hch : r.channel = some ch) :
    Opens r ch z [r] [.pageState q.id .freed q.endReason] s (Machine.endHang z s) := by
  have hlocal := zoneToOpening_local r
  have hmoved := hlocal.moved s z
  have hsame : { r with channel := some ch } = r := by rw [← hch]
  rw [endHang_reserved hz (page?_second h.pages h.distinct) hs h.base h.chime, h.frees hmoved
    (by rw [zone_zoneToOpening h.lt]; simp [State.openedFor, ZoneState.owner, h.distinct.symm]) (hlocal.zone s z)]
  exact {
    zone := zone_zoneToOpening h.lt r s
    pages := rfl
    commanded := hsame ▸ commanded_zoneToOpening h.lt r s
    link := by
      rw [← hmoved.link]
      rfl }

theorem openedFor_kept (h : Kept s t) (r : PageRecord) : t.openedFor r = s.openedFor r := by
  simp only [State.openedFor, h.clock, h.paging]

theorem openingCommand_kept (h : Kept s t) (r : PageRecord) : t.openingCommand z r = s.openingCommand z r := by
  simp only [State.openingCommand, h.gain, h.paging]

/-- A SUSPENDED page with the zone as its target resumes there on the lowest channel (R122, R126). -/
theorem resumes (h : Hangs q r z s) (hz : (s.zone z).state = .closing q.id none) (hs : r.state = .suspended)
    (hch : r.channel = none) (htarget : zonesOf r.target = [z]) :
    Opens r 0 z [r.openedOn 0] [.pageState q.id .freed q.endReason, .pageState r.id .opening none] s
      (Machine.endHang z s) := by
  have hkept := freed_kept q r z s
  obtain ⟨hopened, hpages, hlink⟩ := schedule_opens (s := freed q r z s) (r := r) (z := z) rfl (.inr hs) h.below
    (by rw [hkept.paging]; exact h.chime) hch htarget h.base_freed (by rw [zone_freed, zone_zoneToIdle]; rfl)
  rw [h.endHang hz]
  exact {
    zone := hopened.zone.trans (openedFor_kept hkept r)
    pages := hpages
    commanded := hopened.commanded.trans (openingCommand_kept hkept _)
    link := by
      rw [hlink, link_freed, putAll_putAll]
      rfl }

/-- A LIVE PARTIAL page with the zone in its target joins it late (R127). -/
theorem joins (h : Hangs q r z s) (hz : (s.zone z).state = .closing q.id none) (hs : r.state = .live)
    (hm : r.mode = .partially) (hch : r.channel = some ch) (htarget : zoneIn r.target z = true)
    (hothers : ∀ y, y ≠ z → (s.zone y).state ≠ .idle ∨ zoneIn r.target y = false) :
    Opens r ch z [r] [.pageState q.id .freed q.endReason] s (Machine.endHang z s) ∧
      ∀ y, y ≠ z → (Machine.endHang z s).zone y = s.zone y := by
  have hsame : { r with channel := some ch } = r := by rw [← hch]
  have hkept := freed_kept q r z s
  have hlink := link_freed q r z s
  have hzones := zone_freed q r z s
  have hbase := h.base_freed
  generalize hu : freed q r z s = u at hkept hlink hzones hbase
  have hpages : u.pages = [r] := hu ▸ rfl
  have hzone : ∀ y, y ≠ z → u.zone y = s.zone y := fun y hy => (hzones y).trans (zoneToIdle_local.zone s z y hy)
  have hlocal := zoneToOpening_local r
  have hmoved := hlocal.moved u z
  have hjoin := lateJoins_sole hpages hs hm (by rw [hkept.paging]; exact h.chime)
    (by rw [hzones, zone_zoneToIdle]; rfl) htarget hbase fun y hy => by
      rw [hzone y hy]
      exact hothers y hy
  rw [h.endHang hz, hu, schedule, passWalks_stop (by simp [hpages, hs]), hjoin]
  refine ⟨{
    zone := by simpa [openedFor_kept hkept] using zone_zoneToOpening h.lt r u
    pages := hmoved.pages.trans hpages
    commanded := by simpa [openingCommand_kept hkept, hsame] using commanded_zoneToOpening h.lt r u
    link := hmoved.link.trans hlink }, fun y hy => ?_⟩
  exact (hlocal.zone u z y hy).trans (hzone y hy)

end Hangs

/-! ## The timers -/

/-- Settles O47: the chime, the duration and the hang of the only page, then the hang beside a second page. -/
theorem pageTimersMovePageOn : Obligations.PageTimersMovePageOn := by
  refine ⟨fun z d r s _ hrun hd h ha hreq _ hcov hidle hroom hu => ⟨fun ch hz hdue hs hch hdur => ?_,
      fun ch hz hs hdue hch haudio hhang => ?_, fun hz hdue hs => ?_⟩,
    fun z d q r s _ hrun hdue hd h hne hqa _ hqs _ hcls hcov hchime hinst hfault hrange hroom hu => ?_⟩
  · have hlt : z < 64 := zone_lt (s := s) (by simp [hz])
    refine ⟨_, (exec_chimeTimerExpiry_due hrun hdue hd).trans (congrArg _ (zoneToLive_sole h hs hz)),
      (zone_putZone z _ _ s).trans (if_pos ⟨rfl, hlt⟩), ?_, commanded_putZone hlt _ _ s, fun x hx => ?_⟩
    · simp only [PageRecord.wentLive, PageRecord.silent, hch, hdur]
      cases hsource : r.source <;> simp [PageSource.isAlarm]
    · exact output_directives (s := s)
        (ds := [.pageAudio r.id ch (.ext x) true, .pageState r.id .live none])
        (by simp [PageRecord.liveFrames, PageRecord.silent, hx, hch, PageSource.isAlarm])
        (by simp; omega) (by simp; omega)
  · have hclosed := endPage_hangs h hreq (.inr hs) ⟨.inr hz, hidle⟩ hhang .duration
    have hoff : r.audioOff = [.directive (.pageAudio r.id ch r.source false)] := by
      simp [PageRecord.audioOff, haudio, hch]
    refine ⟨_, exec_durationExpiry_due hrun (page?_sole h) hdue hd hcov, hclosed.zone, hclosed.pages,
      hclosed.commanded, ?_⟩
    have hlink := hclosed.link
    rw [hoff] at hlink
    exact output_directives (ds := [.pageAudio r.id ch r.source false, .pageState r.id .closing (some .duration)]) hlink
      (by simp; omega) (by simp; omega)
  · obtain ⟨hzone, hpages, hcommanded, hlink⟩ := endHang_sole h ha hs hz hidle
    exact ⟨_, exec_hangTimerExpiry_due hrun hdue hd hcov, hzone, hpages, hcommanded,
      output_directives hlink (by simp; omega) (by simp; omega)⟩
  · intro opened freed
    have hbase : s.usableBase r z = true := by
      simp only [State.usableBase, hinst, hfault, Option.isNone_none, Bool.true_or, Bool.true_and]
      rcases hrange with hr | hr <;> simp [hr, PageClass.ignoresRange]
    have hexec := exec_hangTimerExpiry_due hrun hdue hd hcov
    refine ⟨fun ch hz hs hch hidle => ?_, fun hz hs hch htarget hidle => ?_,
      fun ch hz hs hm hch htarget hothers => ?_⟩
    · have hopens := Hangs.opensReserved
        ⟨h, hne, hqa, hqs, ⟨_, hz⟩, fun y hy => .inl (hidle y hy), hcls, hchime, hbase⟩ hz hs hch
      exact ⟨_, hexec, hopens.zone, hopens.pages, hopens.commanded,
        output_directives hopens.link (by simp; omega) (by simp; omega)⟩
    · have hopens := Hangs.resumes
        ⟨h, hne, hqa, hqs, ⟨_, hz⟩, fun y hy => .inl (hidle y hy), hcls, hchime, hbase⟩ hz hs hch htarget
      exact ⟨_, hexec, hopens.zone, hopens.pages, hopens.commanded,
        output_directives hopens.link (by simp; omega) (by simp; omega)⟩
    · obtain ⟨hopens, hsame⟩ := Hangs.joins
        ⟨h, hne, hqa, hqs, ⟨_, hz⟩, fun y hy => (hothers y hy).symm.imp And.left id, hcls, hchime, hbase⟩ hz hs hm hch
        htarget fun y hy => (hothers y hy).imp (fun hy => by simp [hy]) And.right
      exact ⟨_, hexec, hopens.zone, hopens.pages, hsame, hopens.commanded,
        output_directives hopens.link (by simp; omega) (by simp; omega)⟩

end Sys2Proof.Machine
end

section
/-! PROOF. MAP-READ, MAP-ARM, RANGE-HOLD and EXCLUDE-SET, and what a new exclusion range does to the only page (R128 to
R130, R164, R165, R170, R171). -/

namespace Sys2Proof.Machine

variable {s t : State} {r : PageRecord} {z y : Nat} {tag : Byte} {p : List Byte} {a : Answer} {o : ExcludeSetOp}

theorem exec_mapRead_answers {line : Bool} (ht : s.Takes ⟨0x1D, tag, []⟩) (ha : mapRead line () s = (t, a)) :
    exec (.mapRead line tag []) s = .next (answered ⟨0x1D, tag, []⟩ a.verdict a.body t) :=
  congrArg Host.Outcome.next (takeKind_answers ht rfl ha)

theorem exec_mapArm_answers (ht : s.Takes ⟨0x1A, tag, []⟩) (ha : mapArm () s = (t, a)) :
    exec (.mapArm tag []) s = .next (answered ⟨0x1A, tag, []⟩ a.verdict a.body t) :=
  congrArg Host.Outcome.next (takeKind_answers ht rfl ha)

theorem exec_rangeHold_answers (ht : s.Takes ⟨0x19, tag, []⟩) (ha : rangeHold () s = (t, a)) :
    exec (.rangeHold tag []) s = .next (answered ⟨0x19, tag, []⟩ a.verdict a.body t) :=
  congrArg Host.Outcome.next (takeKind_answers ht rfl ha)

theorem exec_excludeSet_answers (hr : ExcludeSetOp.read p = some o) (ht : s.Takes ⟨0x18, tag, p⟩)
    (ha : excludeSet o s = (t, a)) :
    exec (.excludeSet tag p) s = .next (answered ⟨0x18, tag, p⟩ a.verdict a.body t) :=
  congrArg Host.Outcome.next (takeKind_answers ht hr ha)

theorem mapArm_idle (h : s.map.writing = none) : mapArm () s = (s, .ok) := by simp [mapArm, h]

theorem mapArm_writing (h : s.map.writing ≠ none) : mapArm () s = (s, .busy) := by
  simp [mapArm, Option.isSome_iff_ne_none.2 h]

/-! ## The request (R170) -/

/-- The range that an EXCLUDE-SET carries (R170). -/
def ExcludeSetOp.range (o : ExcludeSetOp) : ExclusionRange :=
  { enabled := o.enabled = 1, lower := o.lower, upper := o.upper, invert := o.invert = 1 }

/-- The part has a new active range. -/
def State.ranged (s : State) (range : ExclusionRange) : State := { s with map := { s.map with activeRange := range } }

/-- An EXCLUDE-SET that no map write and no hold stands against (R170). -/
theorem excludeSet_free (hw : s.map.writing = none) (hh : s.map.rangeHeld = false) : excludeSet o s =
    if 1 < o.enabled ∨ 1 < o.invert ∨ 63 < o.upper ∨ o.upper < o.lower then (s, .refused .outOfRange)
    else (releasingHolds applyExclusion (s.ranged o.range), .ok) := by
  have hbounds : (decide (63 < o.lower) || decide (63 < o.upper) || decide (o.upper < o.lower)) = true ↔
      63 < o.upper ∨ o.upper < o.lower := by
    simp only [Bool.or_eq_true, decide_eq_true_eq]
    omega
  simp only [excludeSet, hw, hh, Option.isSome_none, Bool.false_eq_true, if_false, readFlag_eq, hbounds]
  by_cases he : 1 < o.enabled
  · simp [he]
  · by_cases hi : 1 < o.invert
    · simp [he, hi]
    · simp only [he, hi, if_false, false_or, State.ranged, ExcludeSetOp.range, hw, hh]

theorem excludeSet_writing (h : s.map.writing ≠ none) : excludeSet o s = (s, .busy) := by
  simp [excludeSet, Option.isSome_iff_ne_none.2 h]

theorem excludeSet_held (hw : s.map.writing = none) (h : s.map.rangeHeld = true) :
    excludeSet o s = (s, .refused .held) := by simp [excludeSet, hw, h]

/-! ## The only page meets the range (R130) -/

theorem applyExclusion_sole (h : s.pages = [r]) (hcls : r.cls.ignoresRange = false) :
    applyExclusion s = schedule (excludeFrom r.id s) := by
  rw [applyExclusion, pagesInOrder_sole h (by simp [hcls])]
  rfl

theorem excludeFrom_live (h : s.pages = [r]) (hs : r.state = .live) :
    excludeFrom r.id s = excludeStarted r.id s := by simp only [excludeFrom, page?_sole h, hs]

/-- One zone of a page that nothing is reserved for is excluded: it closes, and the page with it unless it holds another
zone. -/
theorem excludeStarted_one {p : Nat} (hz : z < 64) (hres : ∀ y, (s.zone y).state.reservation ≠ some p)
    (hhang : s.paging.hangTime ≠ 0)
    (hout : (s.zonesWith (ZoneState.sounds p)).filter s.map.activeRange.excludes = [z]) : excludeStarted p s =
      if (zoneToClosing z p s).holdsSomething p then zoneToClosing z p s
      else closePage p .allExcluded (zoneToClosing z p s) := by
  have hlocal := zoneToClosing_local p
  have hunreserved : (zoneToClosing z p s).zonesWith (fun st => st.reservation = some p) = [] :=
    zonesWith_none fun y => by
      by_cases hy : y = z
      · simp [hy, zone_zoneToClosing hz, ZoneState.reservation]
      · simpa [hlocal.zone s z y hy] using hres y
  have hskip := skipHang_none (s := zoneToClosing z p s) [z] (by rw [(hlocal.moved s z).paging]; exact hhang)
  simp only [excludeStarted, hout, List.foldl_cons, List.foldl_nil, hunreserved, List.filter_nil, hskip]

/-- The new range excludes the only zone of the only page: the page closes, and its zone hangs (R128, R130). -/
theorem applyExclusion_closes (h : s.pages = [r]) (hr : r.requester = .host) (hcls : r.cls.ignoresRange = false)
    (hs : r.state = .live) (hz : (s.zone z).state = .live r.id) (hidle : ∀ y, y ≠ z → (s.zone y).state = .idle)
    (hhang : s.paging.hangTime ≠ 0) (hout : s.map.activeRange.excludes z = true) :
    ClosedIn r .allExcluded z s (applyExclusion s) ∧ (applyExclusion s).map = s.map := by
  have hsounds : s.SoundsOnlyIn r.id z := ⟨.inr hz, hidle⟩
  have hlocal := zoneToClosing_local r.id
  have hmoved := hlocal.moved s z
  have hclosing := zone_zoneToClosing hsounds.lt r.id s
  have hothers : ∀ y, y ≠ z → ((zoneToClosing z r.id s).zone y).state = .idle := fun y hy => by
    rw [hlocal.zone s z y hy, hidle y hy]
  have hholds : (zoneToClosing z r.id s).holdsSomething r.id = false := by
    rw [State.holdsSomething, zonesWith_none fun y => ?_]
    · rfl
    · by_cases hy : y = z
      · simp [hy, hclosing, ZoneState.sounds, ZoneState.reservation]
      · simp [hothers y hy, ZoneState.sounds, ZoneState.reservation]
  have hcloses : closePage r.id .allExcluded (zoneToClosing z r.id s) =
      closedState r .allExcluded s (zoneToClosing z r.id s) := by
    rw [closePage_hanging (hmoved.pages.trans h) hr (by rw [hclosing]) hothers]
    simp only [closedState, hmoved.link]
  have happlied : applyExclusion s = signalCoverage (closedState r .allExcluded s (zoneToClosing z r.id s)) := by
    rw [applyExclusion_sole h hcls, excludeFrom_live h hs, excludeStarted_one hsounds.lt
      (fun y => hsounds.unreserved y _) hhang (by simp [hsounds.zones, hout]), hholds, hcloses]
    exact schedule_closing (pages_closedState _) rfl
  rw [happlied]
  exact ⟨closedIn_closedState hsounds.lt _, (kept_closedState hmoved.toKept).map⟩

/-- The new range excludes one of the two zones of the only page: that zone closes, and the page stays LIVE (R130). -/
theorem applyExclusion_keeps (h : s.pages = [r]) (hcls : r.cls.ignoresRange = false) (hs : r.state = .live)
    (hz : (s.zone z).state = .live r.id) (hy : (s.zone y).state = .live r.id)
    (hothers : ∀ x, x ≠ z → x ≠ y → (s.zone x).state = .idle ∧ zoneIn r.target x = false)
    (hhang : s.paging.hangTime ≠ 0) (hout : s.map.activeRange.excludes z = true)
    (hin : s.map.activeRange.excludes y = false) :
    applyExclusion s = signalCoverage (zoneToClosing z r.id s) := by
  have hlocal := zoneToClosing_local r.id
  have hmoved := hlocal.moved s z
  have hlt : z < 64 := zone_lt (s := s) (by simp [hz])
  have hne : y ≠ z := fun hyz => by simp [hyz, hout] at hin
  have hkept : ((zoneToClosing z r.id s).zone y).state = .live r.id := by rw [hlocal.zone s z y hne, hy]
  have hsounding : (s.zonesWith (ZoneState.sounds r.id)).filter s.map.activeRange.excludes = [z] := by
    have hzones : (fun x => s.map.activeRange.excludes x && ZoneState.sounds r.id (s.zone x).state) = (· == z) :=
      funext fun x => by
        by_cases hxz : x = z
        · simp [hxz, hout, hz, ZoneState.sounds]
        · by_cases hxy : x = y
          · simp [hxy, hin, hne]
          · simp [hxz, (hothers x hxz hxy).1, ZoneState.sounds]
    rw [State.zonesWith, List.filter_filter, hzones, List.filter_beq,
      List.count_eq_one_of_mem List.nodup_range (List.mem_range.2 hlt)]
    rfl
  have hholds : (zoneToClosing z r.id s).holdsSomething r.id = true := by
    have hmem : y ∈ (zoneToClosing z r.id s).zonesWith (fun st => st.sounds r.id || st.reservation = some r.id) :=
      mem_zonesWith.2 ⟨zone_lt (s := zoneToClosing z r.id s) (by simp [hkept]), by simp [hkept, ZoneState.sounds]⟩
    simpa [State.holdsSomething] using List.ne_nil_of_mem hmem
  have hpages := hmoved.pages.trans h
  rw [applyExclusion_sole h hcls, excludeFrom_live h hs, excludeStarted_one hlt (fun x => ?_) hhang hsounding, hholds,
    if_pos rfl, schedule, passWalks_stop (by simp [hpages, hs]), lateJoins_unjoined fun x => ?_]
  · by_cases hxz : x = z
    · exact .inl (by simp [hxz, zone_zoneToClosing hlt])
    · by_cases hxy : x = y
      · exact .inl (by simp [hxy, hkept])
      · refine .inr fun q hq _ _ htarget => ?_
        rw [hpages, List.mem_singleton] at hq
        rw [hq, (hothers x hxz hxy).2] at htarget
        exact absurd htarget Bool.false_ne_true
  · by_cases hxz : x = z
    · simp [hxz, hz, ZoneState.reservation]
    · by_cases hxy : x = y
      · simp [hxy, hy, ZoneState.reservation]
      · simp [(hothers x hxz hxy).1, ZoneState.reservation]

/-- The new range excludes every zone of the only page, while it waits: the page is removed (R129, R130). -/
theorem applyExclusion_removes (h : s.pages = [r]) (ha : r.alarm = none) (hr : r.requester = .host)
    (hcls : r.cls.ignoresRange = false) (hs : r.state = .queued ∨ r.state = .suspended) (hq : s.ZonesQuiet)
    (hout : ∀ z, zoneIn r.target z = true → s.map.activeRange.excludes z = true) :
    applyExclusion s = offerRecord (r.traceRecord .pageEnd 8)
      (direct (.pageState r.id .freed (some .allExcluded)) { s with pages := [] }) := by
  have hempty : (zonesWhere fun z => zoneIn r.target z && !s.map.activeRange.excludes z) = 0 :=
    zonesWhere_none fun z => by
      cases hz : zoneIn r.target z with
      | false => rfl
      | true => simp [hout z hz]
  have hwaiting : excludeFrom r.id s = excludeWaiting r.id s := by
    rcases hs with hs | hs <;> simp only [excludeFrom, page?_sole h, hs]
  have hpage : ({ s with pages := [{ r with target := 0 }] } : State).page? r.id = some { r with target := 0 } :=
    page?_sole (r := { r with target := 0 }) rfl
  have hremoved : removePage r.id .allExcluded { s with pages := [{ r with target := 0 }] } = _ :=
    removePage_alone (r := { r with target := 0 }) rfl ha hr .allExcluded
  rw [applyExclusion_sole h hcls, hwaiting]
  simp only [excludeWaiting, modPage_sole h, hempty, hpage, if_true, hremoved]
  refine schedule_quiet (by simp) ⟨fun z => ?_, ?_⟩
  · rw [zone_of_offerRecord]
    exact hq.idle z
  · rw [covered_of_offerRecord]
    exact hq.uncovered

/-! ## The requests -/

/-- What an accepted EXCLUDE-SET leaves, by what the new range does to the pages (R130, R170). -/
theorem exec_excludeSet_applies (hr : ExcludeSetOp.read p = some o) (ht : s.Takes ⟨0x18, tag, p⟩)
    (hw : s.map.writing = none) (hh : s.map.rangeHeld = false)
    (hbounds : ¬(1 < o.enabled ∨ 1 < o.invert ∨ 63 < o.upper ∨ o.upper < o.lower)) (hcov : s.covered = 0)
    (hu : applyExclusion (s.ranged o.range) = t) :
    exec (.excludeSet tag p) s = .next (answered ⟨0x18, tag, p⟩ .ok .nothing t) := by
  refine exec_excludeSet_answers (a := .ok) hr ht ?_
  rw [excludeSet_free hw hh, if_neg hbounds, releasingHolds_uncovered (by exact hcov), hu]

/-- An EXCLUDE-SET with no page, over quiet zones. -/
theorem exec_excludeSet_noPages (hr : ExcludeSetOp.read p = some o) (ht : s.Takes ⟨0x18, tag, p⟩)
    (h : s.pages = []) (hq : s.ZonesQuiet) : exec (.excludeSet tag p) s = .next
      (if s.map.writing ≠ none then answered ⟨0x18, tag, p⟩ .busy .nothing s
      else if s.map.rangeHeld = true then refusedWith ⟨0x18, tag, p⟩ .held s
      else if 1 < o.enabled ∨ 1 < o.invert ∨ 63 < o.upper ∨ o.upper < o.lower then
        refusedWith ⟨0x18, tag, p⟩ .outOfRange s
      else answered ⟨0x18, tag, p⟩ .ok .nothing (s.ranged o.range)) := by
  by_cases hw : s.map.writing = none
  · rw [if_neg (by simp [hw])]
    by_cases hh : s.map.rangeHeld = true
    · rw [if_pos hh]
      exact exec_excludeSet_answers (a := .refused .held) hr ht (excludeSet_held hw hh)
    · rw [if_neg hh]
      split
      · rename_i hbounds
        refine exec_excludeSet_answers (a := .refused .outOfRange) hr ht ?_
        rw [excludeSet_free hw (Bool.not_eq_true _ ▸ hh), if_pos hbounds]
      · rename_i hbounds
        refine exec_excludeSet_applies hr ht hw (by simpa using hh) hbounds hq.uncovered ?_
        have hnone : applyExclusion (s.ranged o.range) = schedule (s.ranged o.range) := by
          simp [applyExclusion, State.pagesInOrder, State.ranged, h, sortBy]
        exact hnone.trans (schedule_quiet h ⟨hq.idle, hq.uncovered⟩)
  · rw [if_pos hw]
    exact exec_excludeSet_answers (a := .busy) hr ht (excludeSet_writing hw)

theorem excludes_range (he : o.enabled = 1) (z : Nat) : o.range.excludes z = true ↔
    if o.invert = 1 then z < o.lower ∨ o.upper < z else o.lower ≤ z ∧ z ≤ o.upper := by
  simp only [ExclusionRange.excludes, ExcludeSetOp.range, he]
  by_cases hi : o.invert = 1 <;> simp [hi]

/-- Settles O55: each request's outcomes, and what the new range does to the only page. -/
theorem mapRequestsAct : Obligations.MapRequestsAct := by
  intro tag p s
  refine ⟨fun line ht => exec_mapRead_answers ht rfl, fun ht hw => ?_, fun ht hw => ?_, fun ht => ?_,
    fun o hr ht h hq => exec_excludeSet_noPages hr ht h hq,
    fun o r hr ht hw hh he hi hupper hlower h ha hreq hcls hcov hhang hu => ?_⟩
  · rw [exec_mapArm_answers (a := .ok) ht (mapArm_idle hw), answered,
      put_joins (mayJoin_reply (Nat.lt_trans ht.room (by decide)) _ _ _ _)]
    rfl
  · exact exec_mapArm_answers (a := .busy) ht (mapArm_writing hw)
  · split
    · rename_i hw
      exact exec_rangeHold_answers (a := .ok) ht (by simp [rangeHold, hw])
    · rename_i hw
      exact exec_rangeHold_answers (a := .busy) ht (by simp [rangeHold, Option.isSome_iff_ne_none.2 hw])
  · intro out range closing
    have hrange : o.range = range := by simp [ExcludeSetOp.range, range, he]
    have hout : ∀ z, (s.ranged o.range).map.activeRange.excludes z = true ↔ out z := excludes_range he
    have hexec : ∀ {u}, applyExclusion (s.ranged o.range) = u → exec (.excludeSet tag p) s =
        .next (answered ⟨0x18, tag, p⟩ .ok .nothing u) := exec_excludeSet_applies hr ht hw hh (by omega) hcov
    have hmeets : r.cls.ignoresRange = false := by rcases hcls with hc | hc <;> simp [hc, PageClass.ignoresRange]
    have hmap : (s.ranged o.range).map = { s.map with activeRange := range } := by rw [hrange]; rfl
    refine ⟨fun z ch _ hz hs hch haudio hlive hidle => ?_, fun z y _ _ hz hy hs hlive hkept hothers => ?_,
      fun hs hq htarget => ?_⟩
    · obtain ⟨hclosed, hsame⟩ := applyExclusion_closes (s := s.ranged o.range) h hreq hmeets hs hlive hidle hhang
        ((hout z).2 hz)
      generalize applyExclusion (s.ranged o.range) = u at hexec hclosed hsame
      refine ⟨_, hexec rfl, ?_, hclosed.zone, hclosed.pages, hclosed.commanded, ?_⟩
      · simp [answered, hsame, hmap]
      · rw [output_closed ht hclosed.link (by simp) (by simp; omega)]
        simp only [PageRecord.audioOff, haudio, hch, if_true, List.append_assoc]
        rfl
    · have happlied := applyExclusion_keeps (s := s.ranged o.range) h hmeets hs hlive hkept hothers hhang
        ((hout z).2 hz) (by simpa [← hout] using hy)
      have hlocal := zoneToClosing_local r.id
      have hmoved := hlocal.moved (s.ranged o.range) z
      have hzone := zone_zoneToClosing (zone_lt (s := s) (z := z) (by simp [hlive])) r.id (s.ranged o.range)
      have hother := hlocal.zone (s.ranged o.range) z
      have hamp := hlocal.amp (s.ranged o.range) z
      generalize zoneToClosing z r.id (s.ranged o.range) = u at happlied hmoved hzone hother hamp
      refine ⟨_, hexec happlied, ?_, hzone, fun x hx => ⟨hother x hx, hamp x hx⟩, hmoved.pages.trans h, ?_⟩
      · simp [answered, signalCoverage, hmoved.map, hmap]
      · rw [output_answered_all (t := signalCoverage u) ht (fs := []) hmoved.link (by simp) (by simp)
          (by simp; omega), List.append_nil]
        rfl
    · have happlied := applyExclusion_removes (s := s.ranged o.range) h ha hreq hmeets hs ⟨hq.idle, hq.uncovered⟩
        fun z hz => (hout z).2 (htarget z hz)
      rw [hexec happlied, hrange]
      rfl

end Sys2Proof.Machine
end

section
/-! PROOF. The completion of a map write, and what a new installed set does to zones, amplifiers and the only page
(R128, R131, R146, R169). -/

namespace Sys2Proof.Machine

variable {s t v : State} {r : PageRecord} {z y : Nat} {old : ZoneSet} {w : MapWriting}

/-! ## A write that verifies (R169) -/

/-- The new contents stand in the store and in the active copy, and the host is told (R169). -/
def State.stored (s : State) (w : MapWriting) : State := notify (.mapDone true)
  { s with map := { s.map with
    store := .copy w.contents (crc16 w.contents.bytes), copy := w.contents, status := .valid, writing := none } }

/-- The map unit once a write has verified, with a MAP-WRITE's range unless the range is held (R169, R171). -/
def State.writtenMap (s : State) (w : MapWriting) : MapUnit :=
  { s.map with
    store := .copy w.contents (crc16 w.contents.bytes), copy := w.contents, status := .valid, writing := none
    activeRange := if w.byMapWrite = true ∧ s.map.rangeHeld = false then w.contents.range else s.map.activeRange }

/-- The pages meet a new installed set. -/
def meetSet (old : ZoneSet) (w : MapWriting) (s : State) : State :=
  if old = w.contents.installed then s else installedSetChange old s

/-- The pages meet the range of a MAP-WRITE, unless the range is held. -/
def meetRange (w : MapWriting) (s : State) : State :=
  if w.byMapWrite && !s.map.rangeHeld then applyExclusion (s.ranged w.contents.range) else s

theorem exec_mapWriteComplete_due (hrun : s.running = true) (hw : s.map.writing = some w) (hd : w.due ≤ s.clock)
    (b : Bool) : exec (.mapWriteComplete b) s = .next (if b = true then verified w s else unverified s) :=
  congrArg Host.Outcome.next ((whenRunning_running hrun _).trans (by simp only [hw, atExpiry_due hd]))

theorem verified_eq (hcov : s.covered = 0) :
    verified w s = startExchange (meetRange w (meetSet s.map.copy.installed w (s.stored w))) :=
  congrArg startExchange (releasingHolds_uncovered (s := s.stored w) (by exact hcov))

/-- With no page and quiet zones the new range is all that a range changes. -/
theorem meetRange_quiet (h : s.pages = []) (hq : s.ZonesQuiet) : meetRange w s =
    s.ranged (if w.byMapWrite = true ∧ s.map.rangeHeld = false then w.contents.range else s.map.activeRange) := by
  have happlied : ∀ range, applyExclusion (s.ranged range) = s.ranged range := fun range => by
    have hnone : applyExclusion (s.ranged range) = schedule (s.ranged range) := by
      simp [applyExclusion, State.pagesInOrder, State.ranged, h, sortBy]
    exact hnone.trans (schedule_quiet h ⟨hq.idle, hq.uncovered⟩)
  by_cases hmeets : w.byMapWrite = true ∧ s.map.rangeHeld = false
  · rw [meetRange, if_pos (by simp [hmeets]), if_pos hmeets, happlied]
  · rw [meetRange, if_neg (by simpa using hmeets), if_neg hmeets]
    rfl

/-- A write that verified, after which no page is left and the zones are quiet. -/
theorem exec_mapWriteComplete_quiet (hrun : s.running = true) (hw : s.map.writing = some w) (hd : w.due ≤ s.clock)
    (hcov : s.covered = 0) (hv : meetSet s.map.copy.installed w (s.stored w) = v) (hpages : v.pages = [])
    (hq : v.ZonesQuiet) (hmap : v.map = (s.stored w).map) :
    exec (.mapWriteComplete true) s = .next (startExchange { v with map := s.writtenMap w }) := by
  rw [exec_mapWriteComplete_due hrun hw hd, if_pos rfl, verified_eq hcov, hv, meetRange_quiet hpages hq, State.ranged,
    hmap]
  rfl

/-! ## A new installed set (R131, R146) -/

/-- The zones that leave the installed set. -/
def State.gone (s : State) (old : ZoneSet) : List Nat := (zonesOf old).filter fun z => !s.installed z

/-- The Zone Link Controller's part of the change, for one zone (R146). -/
def linkZone (old : ZoneSet) (s : State) (z : Nat) : State :=
  if zoneIn old z && !s.installed z then
    s.modAmp z fun a => { a with deliveryPending := false, emergencyMark := false, missCount := 0, fault := none }
  else if !zoneIn old z && s.installed z then s.modAmp z fun _ => AmpState.atReset true
  else s

/-- The zones that left are IDLE and in no target, and the zone link follows; the pages have not met the change yet. -/
def State.resized (s : State) (old : ZoneSet) : State :=
  let t := (s.gone old).foldl (fun s z => zoneToIdle z s) s
  (List.range 64).foldl (linkZone old)
    { t with pages := t.pages.map fun p => { p with target := (s.gone old).foldl zoneRemove p.target } }

theorem installedSetChange_eq (old : ZoneSet) (s : State) : installedSetChange old s =
    schedule (((s.resized old).pagesInOrder fun _ => true).foldl (fun s p => uninstallFrom p.id s) (s.resized old)) :=
  rfl

theorem linkZone_local (old : ZoneSet) : ZoneLocal (linkZone old) where
  moved s z := by
    unfold linkZone
    repeat' split
    all_goals exact ⟨⟨rfl, rfl, rfl, rfl, rfl, rfl, rfl, rfl, fun _ _ => rfl⟩, rfl, rfl, rfl, rfl⟩
  zone s z y _ := by
    unfold linkZone
    repeat' split
    all_goals rfl
  amp s z y hy := by
    unfold linkZone
    repeat' split
    all_goals simp [amp_modAmp, hy.symm]

theorem mem_gone : z ∈ s.gone old ↔ zoneIn old z = true ∧ s.installed z = false := by
  simp [State.gone, zonesOf_iff]

theorem nodup_gone (s : State) (old : ZoneSet) : (s.gone old).Nodup := (nodup_zonesOf old).filter _

/-- What the change leaves of everything but zones and amplifiers. -/
theorem resized_moved (s : State) (old : ZoneSet) :
    Moved { s with pages := s.pages.map fun p => { p with target := (s.gone old).foldl zoneRemove p.target } }
      (s.resized old) := by
  have hidled := zoneToIdle_local.foldl_moved (s.gone old) s
  refine Moved.trans ?_ ((linkZone_local old).foldl_moved (List.range 64) _)
  exact ⟨⟨hidled.map, hidled.paging, hidled.clock, hidled.exts, hidled.calls, hidled.groups, hidled.orbits,
    hidled.inputs, hidled.gain⟩, by rw [← hidled.pages], hidled.link, hidled.trace, hidled.covered⟩

theorem zone_linkZone (old : ZoneSet) (s : State) (z y : Nat) : (linkZone old s z).zone y = s.zone y := by
  unfold linkZone
  repeat' split
  all_goals rfl

theorem zone_resized (s : State) (old : ZoneSet) (y : Nat) :
    (s.resized old).zone y = if y ∈ s.gone old then PageZone.atReset else s.zone y := by
  have hlinked : ∀ (l : List Nat) (u : State), (l.foldl (linkZone old) u).zone y = u.zone y := fun l => by
    induction l with
    | nil => exact fun u => rfl
    | cons x l ih => exact fun u => (ih _).trans (zone_linkZone old u x y)
  refine (hlinked _ _).trans ?_
  split
  · rename_i hy
    obtain ⟨u, -, -, -, hzone, -⟩ := zoneToIdle_local.foldl_at s (nodup_gone s old) hy
    exact hzone.trans (zone_zoneToIdle y u)
  · rename_i hy
    exact (zoneToIdle_local.foldl_other s hy).1

/-- The zone link meets the zone with the amplifier that the zone's own part left (R146). -/
theorem amp_resized_linked (hz : z < 64) (s : State) (old : ZoneSet) : ∃ u : State, u.map = s.map ∧
    u.amp z = ((s.gone old).foldl (fun s z => zoneToIdle z s) s).amp z ∧
      (s.resized old).amp z = (linkZone old u z).amp z := by
  have hidled := zoneToIdle_local.foldl_moved (s.gone old) s
  obtain ⟨u, hu, -, hamp, -, hends⟩ := (linkZone_local old).foldl_at
    { (s.gone old).foldl (fun s z => zoneToIdle z s) s with
      pages := ((s.gone old).foldl (fun s z => zoneToIdle z s) s).pages.map fun p =>
        { p with target := (s.gone old).foldl zoneRemove p.target } } List.nodup_range (List.mem_range.2 hz)
  exact ⟨u, hu.map.trans hidled.map, hamp, hends⟩

/-- The amplifier of a zone that leaves is muted, neither polled nor faulted (R131, R146). -/
theorem amp_resized_leaves (h : z ∈ s.gone old) : (s.resized old).amp z = AmpState.atReset false := by
  obtain ⟨hin, hout⟩ := mem_gone.1 h
  have hz := zoneIn_lt hin
  obtain ⟨u, hmap, hamp, hends⟩ := amp_resized_linked hz s old
  obtain ⟨x, -, -, -, -, hidled⟩ := zoneToIdle_local.foldl_at s (nodup_gone s old) h
  have hidle : (u.amp z).commanded = .idle := by rw [hamp, hidled, commanded_zoneToIdle hz]
  have hinstalled : u.installed z = false := by rw [State.installed, hmap]; exact hout
  simp only [hends, linkZone, hin, hinstalled, Bool.not_false, Bool.and_self, if_true, amp_modAmp, hz, and_self, hidle]
  rfl

/-- The amplifier of a zone that joins starts with its delivery pending (R131, R146). -/
theorem amp_resized_joins (hz : z < 64) (hout : zoneIn old z = false) (hin : s.installed z = true) :
    (s.resized old).amp z = AmpState.atReset true := by
  obtain ⟨u, hmap, -, hends⟩ := amp_resized_linked hz s old
  have hinstalled : u.installed z = true := by rw [State.installed, hmap]; exact hin
  simp [hends, linkZone, hout, hinstalled, amp_modAmp, hz]

/-- The amplifier of a zone that neither leaves nor joins stays. -/
theorem amp_resized_stays (hz : z < 64) (h : zoneIn old z = s.installed z) : (s.resized old).amp z = s.amp z := by
  obtain ⟨u, hmap, hamp, hends⟩ := amp_resized_linked hz s old
  have hinstalled : u.installed z = zoneIn old z := by rw [State.installed, hmap]; exact h.symm
  have hstays : z ∉ s.gone old := fun hgone => by
    obtain ⟨hin, hout⟩ := mem_gone.1 hgone
    simp [hin, hout] at h
  rw [hends, linkZone, hinstalled]
  simp only [Bool.and_not_self, Bool.not_and_self, Bool.false_eq_true, if_false, hamp]
  exact (zoneToIdle_local.foldl_other s hstays).2

theorem resized_idle (h : ∀ y, y ∉ s.gone old → (s.zone y).state = .idle) (y : Nat) :
    ((s.resized old).zone y).state = .idle := by
  rw [zone_resized]
  split
  · rfl
  · rename_i hy
    exact h y hy

/-- The state after a pass over idle zones without a page. -/
theorem quiet_signalCoverage (h : ∀ y, (s.zone y).state = .idle) : (signalCoverage s).ZonesQuiet :=
  ⟨fun y => by simpa using h y, covers_none h⟩

theorem installedSetChange_noPages (h : s.pages = []) :
    installedSetChange old s = signalCoverage (s.resized old) := by
  have hpages : (s.resized old).pages = [] := (resized_moved s old).pages.trans (by simp [h])
  have hnone : ((s.resized old).pagesInOrder fun _ => true) = [] := by simp [State.pagesInOrder, hpages, sortBy]
  rw [installedSetChange_eq, hnone]
  exact schedule_noPages hpages

/-- What the end of the only page leaves once its zones have left the set (R128, R131). -/
structure Uninstalled (r : PageRecord) (s t : State) : Prop where
  pages : t.pages = []
  quiet : t.ZonesQuiet
  map : t.map = s.map
  amp : ∀ y, t.amp y = s.amp y
  link : t.link = s.link.putAll (r.audioOff ++ [.directive (.pageState r.id .closing (some .uninstalled)),
    .directive (.pageState r.id .freed (some .uninstalled))])

/-- The only page holds no zone any more: it ends and is freed in the same event (R131). -/
theorem uninstallFrom_ends (h : s.pages = [r]) (ha : r.alarm = none) (hr : r.requester = .host) (hs : r.state = .live)
    (hidle : ∀ y, (s.zone y).state = .idle) : Uninstalled r s (schedule (uninstallFrom r.id s)) := by
  have hholds : s.holdsSomething r.id = false := by
    rw [State.holdsSomething, zonesWith_none fun y => by simp [hidle, ZoneState.sounds, ZoneState.reservation]]
    rfl
  have hends : uninstallFrom r.id s = closePage r.id .uninstalled s := by
    simp [uninstallFrom, page?_sole h, hs, hholds]
  have hpages : ((closedState r .uninstalled s s).dropPage r.id).pages = [] := by
    simp [pages_closedState, PageRecord.closed]
  rw [hends, closePage_zoneless h hr ha hidle, schedule_noPages (by exact hpages)]
  exact {
    pages := hpages
    quiet := quiet_signalCoverage fun y => by simp [zone_closedState, hidle]
    map := (kept_closedState (Kept.refl s)).map
    amp := fun y => by simp [amp_closedState]
    link := by simp [link_closedState] }

/-- The only page sounds in zones that all leave the set: it meets the change without a zone (R128, R131). -/
theorem installedSetChange_ends (h : s.pages = [r]) (ha : r.alarm = none) (hr : r.requester = .host)
    (hs : r.state = .live) (hzones : ∀ y, y ∉ s.gone old → (s.zone y).state = .idle) :
    ∃ target, Uninstalled { r with target := target } (s.resized old) (installedSetChange old s) := by
  have hpages := (resized_moved s old).pages
  simp only [h, List.map_cons, List.map_nil] at hpages
  refine ⟨(s.gone old).foldl zoneRemove r.target, ?_⟩
  rw [installedSetChange_eq, pagesInOrder_sole hpages rfl]
  exact uninstallFrom_ends hpages ha hr hs (resized_idle hzones)

/-! ## The completion -/

/-- A write with a new installed set, by what the change leaves. -/
theorem exec_mapWriteComplete_resizes (hrun : s.running = true) (hw : s.map.writing = some w) (hd : w.due ≤ s.clock)
    (hcov : s.covered = 0) (hnew : w.contents.installed ≠ s.map.copy.installed)
    (hv : installedSetChange s.map.copy.installed (s.stored w) = v) (hpages : v.pages = []) (hq : v.ZonesQuiet)
    (hmap : v.map = (s.stored w).map) :
    ∃ t, exec (.mapWriteComplete true) s = .next t ∧ t.map = s.writtenMap w ∧ t.pages = [] ∧ t.link = v.link ∧
      (∀ y, (t.zone y).state = .idle) ∧ ∀ y, t.amp y = v.amp y := by
  have hset : meetSet s.map.copy.installed w (s.stored w) = v := by rw [meetSet, if_neg hnew.symm, hv]
  obtain ⟨e, rotation, hstarts⟩ := startExchange_eq { v with map := s.writtenMap w }
  rw [exec_mapWriteComplete_quiet hrun hw hd hcov hset hpages hq hmap, hstarts]
  exact ⟨_, rfl, rfl, hpages, rfl, hq.idle, fun y => rfl⟩

/-- Settles O57: the failed write, and the verified one by its installed set and the only page. -/
theorem mapWriteCompletes : Obligations.MapWriteCompletes := by
  intro w s hrun hw hd
  refine ⟨exec_mapWriteComplete_due hrun hw hd false, fun hsame h hq => ?_, fun hnew h hq => ?_,
    fun z ch r _ hin hout h ha hr _ hs hch haudio hlive hidle hcov hroom hu => ?_⟩
  · exact exec_mapWriteComplete_quiet hrun hw hd hq.uncovered (if_pos hsame.symm) h ⟨hq.idle, hq.uncovered⟩ rfl
  · have hmoved := resized_moved (s.stored w) s.map.copy.installed
    have hzones := resized_idle (s := s.stored w) (old := s.map.copy.installed) fun y _ => hq.idle y
    obtain ⟨t, hexec, hmap, hpages, hlink, hzone, hamp⟩ := exec_mapWriteComplete_resizes hrun hw hd hq.uncovered hnew
      (installedSetChange_noPages h) (hmoved.pages.trans (by exact congrArg _ h)) (quiet_signalCoverage hzones)
      hmoved.map
    refine ⟨t, hexec, hmap, hpages, hlink.trans hmoved.link, fun z hz => ⟨(hamp z).trans ?_, hzone z⟩⟩
    have hlt : z < 64 := by omega
    rw [amp_of_signalCoverage]
    split
    · rename_i hold hnew
      exact amp_resized_leaves (mem_gone.2 ⟨hold, hnew⟩)
    · rename_i hold hnew
      exact amp_resized_joins hlt hold hnew
    · rename_i hold hnew
      exact amp_resized_stays hlt (hold.trans hnew.symm)
    · rename_i hold hnew
      exact amp_resized_stays hlt (hold.trans hnew.symm)
  · have hgone : z ∈ (s.stored w).gone s.map.copy.installed := mem_gone.2 ⟨hin, hout⟩
    have hnew : w.contents.installed ≠ s.map.copy.installed := fun hsame => by
      rw [hsame] at hout
      exact absurd (hout.symm.trans hin) Bool.false_ne_true
    have hmoved := resized_moved (s.stored w) s.map.copy.installed
    obtain ⟨target, hends⟩ := installedSetChange_ends (s := s.stored w) (old := s.map.copy.installed) h ha hr hs
      fun y hy => hidle y fun hyz => hy (hyz ▸ hgone)
    obtain ⟨t, hexec, hmap, hpages, hlink, hzone, hamp⟩ := exec_mapWriteComplete_resizes hrun hw hd hcov hnew rfl
      hends.pages hends.quiet (hends.map.trans hmoved.map)
    refine ⟨t, hexec, hmap, hpages, hzone, (hamp z).trans ((hends.amp z).trans (amp_resized_leaves hgone)), ?_⟩
    have hframes : t.link = s.link.putAll [.notice (.mapDone true), .directive (.pageAudio r.id ch r.source false),
        .directive (.pageState r.id .closing (some .uninstalled)),
        .directive (.pageState r.id .freed (some .uninstalled))] := by
      rw [hlink, hends.link, hmoved.link]
      simp only [PageRecord.audioOff, haudio, hch, if_true]
      rfl
    rw [hframes, putAll_output (by simp [OutFrame.unsolicited]) (by simp; omega) (by simp; omega)]

end Sys2Proof.Machine
end

section
/-! PROOF. What the servicing of groups leaves alone: pages, zones, inputs and the frozen trace (R49, R57, R132,
R179). -/

namespace Sys2Proof.Machine

variable {s t u : State} {g c x : Nat}

/-- A record that is kept moves no switch of the trace (R173, R179). -/
theorem switches_offerRecord (record : TraceRecord) (s : State) : (offerRecord record s).trace.frozen = s.trace.frozen ∧
    (offerRecord record s).trace.freezeOnAlarm = s.trace.freezeOnAlarm := by
  unfold offerRecord offerThrough
  split <;> exact ⟨rfl, rfl⟩

/-- What no offer to an extension changes. -/
structure Hunted (s t : State) : Prop where
  pages : t.pages = s.pages
  zones : t.zones = s.zones
  inputs : t.inputs = s.inputs
  frozen : t.trace.frozen = s.trace.frozen

theorem Hunted.refl (s : State) : Hunted s s := ⟨rfl, rfl, rfl, rfl⟩

theorem Hunted.trans (h : Hunted s t) (g : Hunted t u) : Hunted s u :=
  ⟨g.pages.trans h.pages, g.zones.trans h.zones, g.inputs.trans h.inputs, g.frozen.trans h.frozen⟩

theorem Hunted.foldl {α : Type} {f : State → α → State} (hf : ∀ s a, Hunted s (f s a)) :
    ∀ (l : List α) (s : State), Hunted s (l.foldl f s)
  | [], s => Hunted.refl s
  | a :: l, s => (hf s a).trans (Hunted.foldl hf l (f s a))

theorem modCall_hunted (c : Nat) (f : CallContext → CallContext) (s : State) : Hunted s (s.modCall c f) :=
  ⟨rfl, rfl, rfl, rfl⟩

theorem modGroup_hunted (g : Nat) (f : GroupRecord → GroupRecord) (s : State) : Hunted s (s.modGroup g f) :=
  ⟨rfl, rfl, rfl, rfl⟩

theorem offerRecord_hunted (record : TraceRecord) (s : State) : Hunted s (offerRecord record s) :=
  ⟨pages_of_offerRecord record s, by rw [offerRecord_eq], (offerRecord_kept record s).inputs,
    (switches_offerRecord record s).1⟩

theorem placeMark_hunted (x c : Nat) (cadence : Cadence) (s : State) : Hunted s (placeMark x c cadence s) := by
  unfold placeMark
  split
  · exact Hunted.refl s
  · exact ⟨rfl, rfl, rfl, rfl⟩

theorem ringForOffer_hunted (g c x : Nat) (s : State) : Hunted s (ringForOffer g c x s) := by
  have hmarked := placeMark_hunted x c .hunt s
  unfold ringForOffer
  dsimp only
  split
  · exact hmarked.trans (modCall_hunted _ _ _)
  · exact (hmarked.trans (modCall_hunted _ _ _)).trans (offerRecord_hunted _ _)

theorem makeOffer_hunted (g c : Nat) (xs : List Nat) (s : State) : Hunted s (makeOffer g c xs s) :=
  (Hunted.foldl (fun s x => ringForOffer_hunted g c x s) xs s).trans (modCall_hunted _ _ _)

theorem offerCall_hunted (g c : Nat) (s : State) : Hunted s (offerCall g c s) := by
  unfold offerCall
  split
  · exact Hunted.refl s
  · dsimp only
    split
    · exact Hunted.refl s
    · exact (modGroup_hunted _ _ _).trans (makeOffer_hunted _ _ _ _)

theorem service_hunted (g : Nat) (s : State) : Hunted s (service g s) := by
  unfold service
  split
  · refine Hunted.foldl (fun s c => ?_) _ s
    split
    · exact offerCall_hunted g c s
    · exact Hunted.refl s
  · exact Hunted.refl s

/-- A change of one event, with the servicing of the groups it releases (R69, R132). -/
theorem releasingHolds_hunted (f : State → State) (s : State) : Hunted (f s) (releasingHolds f s) :=
  Hunted.foldl (fun s g => service_hunted g s) _ _

end Sys2Proof.Machine
end

section
/-! PROOF. The start of an evacuation: every zone of its target opens in the same event, whatever sounds there, and goes
LIVE at once when EMERGENCY has no chime (R114, R115, R120 to R124, R179). -/

namespace Sys2Proof.Machine

variable {s t u w : State} {q r : PageRecord} {z y ch : Nat} {zs : List Nat} {old : List PageRecord}

/-! ## The newest page -/

theorem modPage_last (h : s.pages = old ++ [r]) (hnew : ∀ p ∈ old, p.id ≠ r.id) (f : PageRecord → PageRecord) :
    s.modPage r.id f = { s with pages := old ++ [f r] } := by
  have hold : old.map (fun p => if p.id == r.id then f p else p) = old := by
    conv_rhs => rw [← List.map_id old]
    exact List.map_congr_left fun p hp => by simp [hnew p hp]
  simp only [State.modPage, h, List.map_append, hold, List.map_cons, List.map_nil, BEq.rfl, if_true]

theorem page?_last (h : s.pages = old ++ [r]) (hnew : ∀ p ∈ old, p.id ≠ r.id) : s.page? r.id = some r := by
  have hnone : old.find? (fun p => p.id == r.id) = none := List.find?_eq_none.2 fun p hp => by simpa using hnew p hp
  simp [State.page?, h, hnone]

/-! ## LIVE at once (R114, R115) -/

/-- Zones of the newest page have gone LIVE, and the page with the first of them. -/
structure MadeLive (old : List PageRecord) (r : PageRecord) (zs : List Nat) (s t : State) : Prop where
  pages : t.pages = old ++ [{ r with state := if zs.isEmpty then r.state else .live }]
  zone : ∀ z ∈ zs, (t.zone z).state = .live r.id
  others : ∀ y, y ∉ zs → t.zone y = s.zone y
  inputs : t.inputs = s.inputs
  paging : t.paging = s.paging
  trace : t.trace = s.trace

/-- A page without PAGE-AUDIO and without a duration goes LIVE, or is LIVE already. -/
theorem pageGoesLive_silent (h : s.pages = old ++ [r]) (hnew : ∀ p ∈ old, p.id ≠ r.id)
    (hs : r.state = .opening ∨ r.state = .live) (hsilent : r.silent = true) (hmax : r.maxDuration = 0) :
    ∃ link, pageGoesLive r.id s = { s with pages := old ++ [{ r with state := .live }], link := link } := by
  rcases hs with hs | hs
  · refine ⟨s.link.put (.directive (.pageState r.id .live none)), ?_⟩
    simp only [pageGoesLive, page?_last h hnew, hs, if_true, modPage_last h hnew, audioOn_eq, hsilent, hmax, pageState,
      direct, emit]
    simp
  · have hsame : { r with state := .live } = r := by rw [← hs]
    refine ⟨s.link, ?_⟩
    rw [hsame, ← h]
    simp [pageGoesLive, page?_last h hnew, hs]

theorem zoneToLive_silent (h : s.pages = old ++ [r]) (hnew : ∀ p ∈ old, p.id ≠ r.id)
    (hs : r.state = .opening ∨ r.state = .live) (hsilent : r.silent = true) (hmax : r.maxDuration = 0)
    (hz : (s.zone z).state = .opening r.id) : MadeLive old r [z] s (zoneToLive z s) := by
  have hlt : z < 64 := zone_lt (s := s) (by simp [hz])
  have hmoved := putZone_moved z { state := .live r.id, chimeDue := none, hangDue := none }
    { (s.amp z).commanded with ramp := 0, chime := false } s
  have hzone := zone_putZone (z := z) (pz := { state := .live r.id, chimeDue := none, hangDue := none })
    (c := { (s.amp z).commanded with ramp := 0, chime := false }) (s := s)
  rw [zoneToLive_opening hz]
  generalize putZone z _ _ s = v at hmoved hzone
  obtain ⟨link, hlive⟩ := pageGoesLive_silent (hmoved.pages.trans h) hnew hs hsilent hmax
  rw [hlive]
  exact {
    pages := rfl
    zone := fun x hx => by
      rw [List.mem_singleton.1 hx]
      exact congrArg PageZone.state ((hzone z).trans (if_pos ⟨rfl, hlt⟩))
    others := fun x hx => (hzone x).trans (if_neg fun hzx => hx (by simp [hzx.1]))
    inputs := hmoved.inputs
    paging := hmoved.paging
    trace := hmoved.trace }

/-- Without a chime all zones just opened go LIVE in the same event (R114). -/
theorem liveAtOnce_all {cls : PageClass} (hsilent : r.silent = true) (hmax : r.maxDuration = 0)
    (hnew : ∀ p ∈ old, p.id ≠ r.id) : ∀ {zs : List Nat} {s : State} {state : PageState}, zs.Nodup →
      s.pages = old ++ [{ r with state := state }] → state = .opening ∨ state = .live →
      s.paging.chime.of cls = 0 → (∀ z ∈ zs, (s.zone z).state = .opening r.id) →
      MadeLive old { r with state := state } zs s (zs.foldl (fun s z => liveAtOnce z cls s) s)
  | [], _, _, _, h, _, _, _ => ⟨h, by simp, fun _ _ => rfl, rfl, rfl, rfl⟩
  | z :: zs, s, state, hnd, h, hs, hchime, hopen => by
    obtain ⟨hz, hnd⟩ := List.nodup_cons.1 hnd
    have hstep := zoneToLive_silent h hnew hs hsilent hmax (hopen z (by simp))
    have hlive : liveAtOnce z cls s = zoneToLive z s := if_pos hchime
    rw [List.foldl_cons, hlive]
    generalize zoneToLive z s = v at hstep
    have hrest := liveAtOnce_all (cls := cls) (zs := zs) (s := v) (state := .live) hsilent hmax hnew hnd hstep.pages
      (.inr rfl) (by rw [hstep.paging]; exact hchime) fun x hx => by
        rw [hstep.others x fun hxz => hz (List.mem_singleton.1 hxz ▸ hx)]
        exact hopen x (by simp [hx])
    exact {
      pages := by simpa using hrest.pages
      zone := fun x hx => by
        by_cases hxzs : x ∈ zs
        · exact hrest.zone x hxzs
        · rw [hrest.others x hxzs]
          exact hstep.zone x (by simpa [hxzs] using hx)
      others := fun x hx => by
        obtain ⟨hxz, hxzs⟩ : x ≠ z ∧ x ∉ zs := by simpa using hx
        exact (hrest.others x hxzs).trans (hstep.others x (by simpa using hxz))
      inputs := hrest.inputs.trans hstep.inputs
      paging := hrest.paging.trans hstep.paging
      trace := hrest.trace.trans hstep.trace }

/-! ## The end of the start -/

/-- The record of an EMERGENCY page that has started on EC (R115, R121, R122). -/
def State.evacuating (s : State) (r : PageRecord) : PageRecord :=
  { r with
    channel := some 6, suspensionDue := none, state := if s.paging.chime.emergency = 0 then .live else .opening }

/-- The state of its zones (R114, R115). -/
def State.evacuated (s : State) (r : PageRecord) : ZoneState :=
  if s.paging.chime.emergency = 0 then .live r.id else .opening r.id

/-- The start of an EMERGENCY page freezes the trace when freeze-on-alarm is set (R179). -/
theorem offerPageStart_emergency (hcls : r.cls = .emergency) (b : Bool) (s : State) :
    ∃ link trace, offerPageStart r b s = { s with link := link, trace := trace } ∧
      trace.frozen = (s.trace.frozen || s.trace.freezeOnAlarm) := by
  cases hfreeze : s.trace.freezeOnAlarm with
  | false =>
    have hoffers : offerPageStart r b s = offerRecord (r.traceRecord .pageStart (if b then 1 else 0)) s := by
      simp [offerPageStart, hfreeze]
    rw [hoffers, offerRecord_eq]
    exact ⟨s.link, _, rfl, by rw [(switches_offerRecord _ s).1, Bool.or_false]⟩
  | true =>
    have hfreezes : offerPageStart r b s = freeze .emergencyPage s := by simp [offerPageStart, hcls, hfreeze]
    rw [hfreezes]
    unfold freeze
    split
    · rename_i hfrozen
      exact ⟨s.link, s.trace, rfl, by simp [hfrozen]⟩
    · exact ⟨_, _, rfl, by simp⟩

/-- What the start of an evacuation leaves of the pages, the zones, the inputs and the trace, from the state in which
its zones are open and its victims handled. -/
structure Evacuated (old : List PageRecord) (r : PageRecord) (s t : State) : Prop where
  pages : t.pages = old ++ [s.evacuating r]
  zone : ∀ z, zoneIn r.target z = true → (t.zone z).state = s.evacuated r
  others : ∀ y, zoneIn r.target y = false → t.zone y = s.zone y
  inputs : t.inputs = s.inputs
  frozen : t.trace.frozen = (s.trace.frozen || s.trace.freezeOnAlarm)

theorem finishStart_evacuates {i : Nat} (h : s.pages = old ++ [{ r with channel := some 6 }])
    (hnew : ∀ p ∈ old, p.id ≠ r.id) (hcls : r.cls = .emergency) (hsource : r.source = .alarm i)
    (hmax : r.maxDuration = 0) (htarget : zonesOf r.target ≠ [])
    (hopen : ∀ z, zoneIn r.target z = true → (s.zone z).state = .opening r.id) :
    Evacuated old r s (finishStart r (zonesOf r.target) s) := by
  have hmod := modPage_last (r := { r with channel := some 6 }) h hnew fun r =>
    { r with state := .opening, suspensionDue := none }
  obtain ⟨link, trace, hoffers, hfrozen⟩ := offerPageStart_emergency hcls (decide (r.state = .suspended))
    (pageState r.id .opening none (s.modPage r.id fun r => { r with state := .opening, suspensionDue := none }))
  have hzones : ∀ v : State, (∀ y, v.zone y = s.zone y) →
      (zonesOf r.target).filter (fun z => (v.zone z).state = .opening r.id) = zonesOf r.target := fun v hv =>
    List.filter_eq_self.2 fun z hz => by simpa [hv] using hopen z (zonesOf_iff.1 hz)
  simp only [finishStart]
  rw [hoffers]
  generalize hu : ({ pageState r.id .opening none
    (s.modPage r.id fun r => { r with state := .opening, suspensionDue := none }) with
      link := link, trace := trace } : State) = u
  have hzone : ∀ y, u.zone y = s.zone y := fun y => hu ▸ rfl
  have hinputs : u.inputs = s.inputs := hu ▸ rfl
  have hpaging : u.paging = s.paging := hu ▸ rfl
  have htrace : u.trace.frozen = (s.trace.frozen || s.trace.freezeOnAlarm) := hu ▸ hfrozen
  have hpages : u.pages = old ++ [{ r with channel := some 6, suspensionDue := none, state := .opening }] := by
    rw [← hu]
    exact congrArg State.pages hmod
  rw [hzones u hzone]
  by_cases hchime : s.paging.chime.emergency = 0
  · have hlive := liveAtOnce_all (r := { r with channel := some 6, suspensionDue := none }) (cls := r.cls)
      (by simp [PageRecord.silent, hsource, PageSource.isAlarm]) hmax hnew (nodup_zonesOf r.target) hpages (.inl rfl)
      (by rw [hpaging, hcls]; exact hchime) fun z hz => by rw [hzone]; exact hopen z (zonesOf_iff.1 hz)
    exact {
      pages := by simp [hlive.pages, htarget, State.evacuating, hchime]
      zone := fun z hz => by simp [hlive.zone z (zonesOf_iff.2 hz), State.evacuated, hchime]
      others := fun y hy => (hlive.others y (by simp [zonesOf_iff, hy])).trans (hzone y)
      inputs := hlive.inputs.trans hinputs
      frozen := by rw [hlive.trace, htrace] }
  · have hstays : ∀ z, liveAtOnce z r.cls u = u := fun z => if_neg (by rw [hpaging, hcls]; exact hchime)
    rw [List.foldl_fixed' hstays]
    exact {
      pages := by simp [hpages, State.evacuating, hchime]
      zone := fun z hz => by rw [hzone, hopen z hz, State.evacuated, if_neg hchime]
      others := fun y _ => hzone y
      inputs := hinputs
      frozen := htrace }

end Sys2Proof.Machine
end

section
/-! PROOF. The pass that starts an evacuation, with no other page, or over the evacuation of a higher-numbered input
(R103, R117, R120 to R124). -/

namespace Sys2Proof.Machine

variable {s t w : State} {q r : PageRecord} {z y i j : Nat} {before after : List PageRecord}

/-- The page is an evacuation that waits, and all its zones are installed (R111, R159). -/
structure Evacuates (i : Nat) (r : PageRecord) (s : State) : Prop where
  waits : r.state = .queued
  cls : r.cls = .emergency
  alarm : r.alarm = some i
  source : r.source = .alarm i
  mode : r.mode = .partially
  unlimited : r.maxDuration = 0
  silent : r.channel = none
  target : zonesOf r.target ≠ []
  base : ∀ z, zoneIn r.target z = true → s.usableBase r z = true

theorem usableZones_all (h : ∀ z, zoneIn r.target z = true → s.usable r z = true) :
    s.usableZones r = zonesOf r.target := List.filter_eq_self.2 fun z hz => h z (zonesOf_iff.1 hz)

/-- Every zone of the page opens for it, and no other zone changes (R114, R122). -/
theorem taken_all (h : ∀ z, zoneIn r.target z = true → s.usable r z = true) :
    Moved (s.modPage r.id fun r => { r with channel := some 6 }) (s.taken r 6) ∧
      (∀ z, zoneIn r.target z = true → ((s.taken r 6).zone z).state = .opening r.id) ∧
      ∀ y, zoneIn r.target y = false → (s.taken r 6).zone y = s.zone y := by
  have hlocal := zoneToOpening_local { r with channel := some 6 }
  rw [State.taken, usableZones_all h]
  refine ⟨hlocal.foldl_moved _ _, fun z hz => ?_, fun y hy => ?_⟩
  · obtain ⟨u, -, -, -, hzone, -⟩ := hlocal.foldl_at (s.modPage r.id fun r => { r with channel := some 6 })
      (nodup_zonesOf r.target) (zonesOf_iff.2 hz)
    rw [hzone, zone_zoneToOpening (zoneIn_lt hz)]
    rfl
  · exact (hlocal.foldl_other _ (by simp [zonesOf_iff, hy])).1

namespace Evacuates

theorem canStart (h : Evacuates i r s) (hch : (s.channelFor r).isSome = true)
    (huse : ∀ z, zoneIn r.target z = true → s.usable r z = true) : s.canStart r = true := by
  obtain ⟨z, hz⟩ := List.exists_mem_of_ne_nil _ h.target
  have hany : (zonesOf r.target).any (s.usable r) = true := List.any_eq_true.2 ⟨z, hz, huse z (zonesOf_iff.1 hz)⟩
  simp [State.canStart, hch, h.mode, hany, h.target]

/-- The pass around the start: no page that gave way starts again, and no page joins a zone. -/
theorem schedule (h : Evacuates i r s) (hpages : s.pages = before ++ [r]) (hch : (s.channelFor r).isSome = true)
    (huse : ∀ z, zoneIn r.target z = true → s.usable r z = true)
    (hbefore : ∀ p ∈ before, p.state ≠ .queued ∧ p.state ≠ .suspended)
    (hstart : startPage r.id s = finishStart r (zonesOf r.target) w)
    (hw : w.pages = after ++ [{ r with channel := some 6 }])
    (hopen : ∀ z, zoneIn r.target z = true → (w.zone z).state = .opening r.id)
    (hafter : ∀ p ∈ after, p.id ≠ r.id ∧ p.state ≠ .live)
    (hstop : ∀ t : State, t.pages = after ++ [w.evacuating r] → ∀ p ∈ after, t.canStart p = false) :
    ∃ t, schedule s = signalCoverage t ∧ Evacuated after r w t := by
  have hdone := finishStart_evacuates hw (fun p hp => (hafter p hp).1) h.cls h.source h.unlimited h.target hopen
  rw [← hstart] at hdone
  generalize ht : startPage r.id s = t at hdone
  have hsounds : ∀ z, zoneIn r.target z = true → (t.zone z).state ≠ .idle := fun z hz => by
    rw [hdone.zone z hz, State.evacuated]
    split <;> simp
  have hstarted : (w.evacuating r).state ≠ .queued ∧ (w.evacuating r).state ≠ .suspended := by
    simp only [State.evacuating]
    split <;> simp
  have hcandidates : s.candidates = [r] := by
    have hnone : before.filter (fun p => p.state = .queued || p.state = .suspended) = [] :=
      List.filter_eq_nil_iff.2 fun p hp => by simp [hbefore p hp]
    simp [State.candidates, State.pagesInOrder, hpages, List.filter_append, hnone, h.waits, sortBy, insertBefore]
  refine ⟨t, schedule_starts hcandidates (h.canStart hch huse) ht (fun p hp hwaits => ?_)
    (lateJoins_unjoined fun z => ?_), hdone⟩
  · rw [hdone.pages, List.mem_append, List.mem_singleton] at hp
    rcases hp with hp | rfl
    · exact hstop t hdone.pages p hp
    · exact absurd hwaits (not_or.2 hstarted)
  · by_cases hz : zoneIn r.target z = true
    · exact .inl (hsounds z hz)
    · refine .inr fun p hp hlive _ hin => ?_
      rw [hdone.pages, List.mem_append, List.mem_singleton] at hp
      rcases hp with hp | rfl
      · exact absurd hlive (hafter p hp).2
      · exact absurd hin hz

/-- The only page starts over idle zones (R121, R122). -/
theorem scheduleAlone (h : Evacuates i r s) (hpages : s.pages = [r]) (hidle : ∀ z, (s.zone z).state = .idle) :
    ∃ t, Machine.schedule s = signalCoverage t ∧ Evacuated [] r s t := by
  have huse : ∀ z, zoneIn r.target z = true → s.usable r z = true := fun z hz => usable_idle (h.base z hz) (hidle z)
  have hchannel : s.channelFor r = some (6, none) :=
    channelFor_emergency_free h.cls (by simp [State.holder, hpages, h.silent])
  obtain ⟨hmoved, hopen, hothers⟩ := taken_all huse
  have hstart := startPage_unopposed (page?_sole hpages) hchannel fun z _ => hidle z
  rw [usableZones_all huse] at hstart
  generalize s.taken r 6 = v at hmoved hopen hothers hstart
  have hpaging : v.paging = s.paging := hmoved.paging
  obtain ⟨t, hpass, hdone⟩ := h.schedule (before := []) (after := []) hpages (by simp [hchannel]) huse (by simp) hstart
    (hmoved.pages.trans (congrArg State.pages (modPage_sole hpages _))) hopen (by simp) (by simp)
  refine ⟨t, hpass, ?_⟩
  exact {
    pages := by simpa only [State.evacuating, hpaging] using hdone.pages
    zone := by simpa only [State.evacuated, hpaging] using hdone.zone
    others := fun y hy => (hdone.others y hy).trans (hothers y hy)
    inputs := hdone.inputs.trans hmoved.inputs
    frozen := by
      rw [hdone.frozen, hmoved.trace]
      rfl }

end Evacuates

/-! ## Over another evacuation (R103, R124) -/

/-- The table holds the LIVE evacuation `q` of input `j` and that of a lower-numbered input, which waits (R103). -/
structure Evicts (i j : Nat) (q r : PageRecord) (s : State) : Prop extends Evacuates i r s where
  pages : s.pages = [q, r]
  distinct : q.id ≠ r.id
  ranks : i < j
  peer : q.cls = .emergency
  input : q.alarm = some j
  live : q.state = .live
  holds : q.channel = some 6
  zones : ∀ z, (s.zone z).state = .idle ∨ (s.zone z).state = .live q.id

theorem withoutRepeats_same {a : Nat} : ∀ {l : List Nat}, (∀ x ∈ l, x = a) → withoutRepeats (a :: l) = [a]
  | [], _ => rfl
  | x :: l, h => by
    have hx : x = a := h x (by simp)
    have hrest := withoutRepeats_same fun y hy => h y (List.mem_cons_of_mem x hy)
    rw [withoutRepeats, hx, hrest]
    simp

theorem rank_alarm {p : PageRecord} {k : Nat} (hcls : p.cls = .emergency) (ha : p.alarm = some k) : p.rank = k := by
  simp [PageRecord.rank, hcls, ha]

namespace Evicts

theorem outranks (h : Evicts i j q r s) : outranks r q = true := by
  refine outranks_iff.2 (.inr ⟨h.cls, h.peer, ?_⟩)
  rw [rank_alarm h.cls h.alarm, rank_alarm h.peer h.input]
  exact h.ranks

theorem usable (h : Evicts i j q r s) (hz : zoneIn r.target z = true) : s.usable r z = true := by
  rcases h.zones z with hidle | hlive
  · exact usable_idle (h.base z hz) hidle
  · rw [usable_sounding (page?_first h.pages) (.inr hlive), h.base z hz, h.outranks]
    rfl

theorem channelFor (h : Evicts i j q r s) : s.channelFor r = some (6, some q.id) := by
  rw [channelFor_emergency_held h.cls (q := q) (by simp [State.holder, h.pages, h.holds]), if_pos h.outranks]

theorem losers (h : Evicts i j q r s) : s.losers r (some q.id) = [q.id] := by
  refine withoutRepeats_same fun x hx => ?_
  obtain ⟨z, -, hz⟩ := List.mem_filterMap.1 hx
  rcases h.zones z with hidle | hlive
  · simp [hidle, ZoneState.owner] at hz
  · simpa [hlive, ZoneState.owner] using hz.symm

/-- The page that gave way waits, without a channel and without a timer, and its zones are idle (R123, R124). -/
theorem victim (h : Evicts i j q r s) : ∃ w, startPage r.id s = finishStart r (zonesOf r.target) w ∧ Kept s w ∧
    w.pages = [q.suspended none, { r with channel := some 6 }] ∧
    (∀ z, zoneIn r.target z = true → (w.zone z).state = .opening r.id) ∧
    ∀ y, zoneIn r.target y = false → (w.zone y).state = .idle := by
  obtain ⟨hmoved, hopen, hothers⟩ := taken_all fun z hz => h.usable hz
  have hstart := startPage_eq (page?_second h.pages h.distinct) h.channelFor fun z _ p x => by
    rcases h.zones z with hz | hz <;> simp [hz]
  rw [h.losers, usableZones_all fun z hz => h.usable hz] at hstart
  simp only [decide_true, Bool.true_or, List.filter_cons_of_pos, List.filter_nil, List.foldl_cons, List.foldl_nil]
    at hstart
  generalize s.taken r 6 = v at hmoved hopen hothers hstart
  have hpages : v.pages = [q, { r with channel := some 6 }] :=
    hmoved.pages.trans (congrArg State.pages (modPage_second h.pages h.distinct _))
  have hstate : ∀ y, (v.zone y).state = .opening r.id ∨ (v.zone y).state = .idle ∨ (v.zone y).state = .live q.id :=
    fun y => by
      by_cases hy : zoneIn r.target y = true
      · exact .inl (hopen y hy)
      · rw [hothers y (by simpa using hy)]
        exact .inr (h.zones y)
  have hsuspends : handleVictim q.id v = suspendPage q.id none v := by
    simp [handleVictim, page?_first hpages, h.peer, h.input]
  rw [suspendPage_eq hpages h.distinct fun y => by
    rcases hstate y with hy | hy | hy <;> simp [hy, ZoneState.reservation]] at hsuspends
  have hreleased := releasedFrom_moved q.id v
  have hzone : ∀ y, ((handleVictim q.id v).zone y) = (releasedFrom q.id v).zone y := fun y => by
    rw [hsuspends, zone_of_offerRecord]
    rfl
  refine ⟨handleVictim q.id v, hstart, ?_, by rw [hsuspends, pages_of_offerRecord], fun z hz => ?_, fun y hy => ?_⟩
  · rw [hsuspends]
    exact ((Kept.of_pages s _ s.link s.trace s.covered).trans hmoved.toKept).trans (hreleased.toKept.trans
      ((Kept.of_pages _ _ _ (releasedFrom q.id v).trace (releasedFrom q.id v).covered).trans (offerRecord_kept _ _)))
  · rw [hzone, zone_releasedFrom, hopen z hz, if_neg (by simpa [ZoneState.owner] using h.distinct.symm)]
    exact hopen z hz
  · rw [hzone, zone_releasedFrom, hothers y hy]
    rcases h.zones y with hidle | hlive
    · rw [hidle, if_neg (by simp [ZoneState.owner])]
      exact hidle
    · rw [hlive, if_pos (by rfl)]
      rfl

/-- While the other evacuation holds EC, the page that gave way cannot start (R121). -/
theorem stays (h : Evicts i j q r s) (ht : t.pages = [q.suspended none, w.evacuating r]) :
    t.canStart (q.suspended none) = false := by
  have hheld : t.holder 6 = some (w.evacuating r) := by
    simp [State.holder, ht, PageRecord.suspended, State.evacuating]
  have hpeer : Machine.outranks (q.suspended none) (w.evacuating r) = false := by
    have hq : (q.suspended none).rank = j := rank_alarm h.peer h.input
    have hr : (w.evacuating r).rank = i := rank_alarm h.cls h.alarm
    have hcls : (w.evacuating r).cls.order = 0 := by rw [State.evacuating, h.cls]; rfl
    rw [Bool.eq_false_iff, Ne, outranks_iff, hq, hr, hcls]
    have := h.ranks
    omega
  have hchannel := channelFor_emergency_held (p := q.suspended none) h.peer hheld
  simp [State.canStart, hchannel, hpeer]

/-- The evacuation of the lower-numbered input takes EC and its zones, and the other one is SUSPENDED (R103, R121 to
R124). -/
theorem schedule (h : Evicts i j q r s) : ∃ t, Machine.schedule s = signalCoverage t ∧
    t.pages = [q.suspended none, s.evacuating r] ∧ t.inputs = s.inputs ∧
    (∀ z, zoneIn r.target z = true → (t.zone z).state = s.evacuated r) ∧
    ∀ y, zoneIn r.target y = false → (t.zone y).state = .idle := by
  obtain ⟨w, hstart, hkept, hpages, hopen, hothers⟩ := h.victim
  obtain ⟨t, hpass, hdone⟩ := h.toEvacuates.schedule (before := [q]) (after := [q.suspended none]) h.pages
    (by simp [h.channelFor]) (fun z hz => h.usable hz) (by simp [h.live]) hstart hpages hopen
    (by simp [PageRecord.suspended, h.distinct]) fun t ht p hp => by
      rw [List.mem_singleton.1 hp]
      exact h.stays ht
  refine ⟨t, hpass, ?_, hdone.inputs.trans hkept.inputs, ?_, fun y hy => ?_⟩
  · simpa only [State.evacuating, hkept.paging, List.cons_append, List.nil_append] using hdone.pages
  · simpa only [State.evacuated, hkept.paging] using hdone.zone
  · rw [hdone.others y hy]
    exact hothers y hy

end Evicts

end Sys2Proof.Machine
end

section
/-! PROOF. An alarm input that settles closed in mode EVACUATE: its page is placed, and starts in the same event (R106,
R111, R157 to R159). -/

namespace Sys2Proof.Machine

variable {s t u : State} {q : PageRecord} {z i j d : Nat}

/-! ## The activation (R157, R158) -/

/-- The input is ACTIVE with the meaning EVACUATE latched, and the host is told; its page is not placed yet (R158). -/
def State.alarmed (s : State) (i : Nat) : State :=
  notify (.alarmChange i true .evacuate) (s.modInput i fun r =>
    { r with debounceDue := none, active := true, latchedMode := .evacuate, latchedSet := (s.meaning i).zones })

theorem activate_evacuate (hm : (s.meaning i).mode = .evacuate) : activate i s =
    releasingHolds (placeAlarmPage i) (notify (.alarmChange i true .evacuate)
      (s.modInput i fun r =>
        { r with active := true, latchedMode := .evacuate, latchedSet := (s.meaning i).zones })) := by
  simp only [activate, hm]

theorem settle_evacuate (hc : (s.input i).closed = true) (hm : (s.meaning i).mode = .evacuate) :
    settle i s = releasingHolds (placeAlarmPage i) (s.alarmed i) := by
  have hclosed : ((s.modInput i fun r => { r with debounceDue := none }).input i).closed = true := by
    rw [input_modInput]
    split <;> exact hc
  have hmeaning : (s.modInput i fun r => { r with debounceDue := none }).meaning i = s.meaning i := rfl
  rw [settle]
  simp only [hclosed, if_true]
  rw [activate_evacuate (by rw [hmeaning, hm]), modInput_modInput, hmeaning]
  rfl

theorem input_alarmed (hi : i ≤ 3) : (s.alarmed i).input i =
    { s.input i with
      debounceDue := none, active := true, latchedMode := .evacuate, latchedSet := (s.meaning i).zones } :=
  (input_modInput s i i _).trans (if_pos ⟨rfl, by omega⟩)

/-! ## The placing (R106, R111, R159) -/

/-- The request for the page of an evacuation (R159). -/
def evacuationRequest (i : Nat) (zones : ZoneSet) : PageRequest :=
  { cls := .emergency, source := .alarm i, requester := .alarm i, alarm := some i, zones := zones, mode := .partially
    suspendAllowed := true, maxDuration := 0 }

theorem alarmRequest_evacuate {r : AlarmInput} (h : r.latchedMode = .evacuate) :
    alarmRequest i r = evacuationRequest i r.latchedSet := by simp [alarmRequest, evacuationRequest, h]

/-- The page that a request becomes (R106, R111). -/
def State.newPage (s : State) (q : PageRequest) : PageRecord :=
  { id := s.nextPageId, alarm := q.alarm, cls := q.cls, source := q.source, requester := q.requester
    target := s.targetOf q.cls q.zones, mode := q.mode, suspendAllowed := q.suspendAllowed
    maxDuration := q.maxDuration, arrival := s.nextArrival, state := .queued, channel := none, audioSent := false
    durationStarted := false, durationDue := none, suspensionDue := none, endReason := none }

/-- The page of a request stands in the table, and no pass has run yet (R111). -/
def State.joined (s : State) (q : PageRequest) : State :=
  pageState s.nextPageId .queued none (linkRequester q.requester s.nextPageId
    { s with pages := s.pages ++ [s.newPage q], lastPageId := s.nextPageId, nextArrival := s.nextArrival + 1 })

theorem requestPage_admits {q : PageRequest} (h : s.admissionRefusal q = none) :
    requestPage q s = schedule (s.joined q) := by
  rw [requestPage, h]
  rfl

/-- One page leaves an id for the next one (R106). -/
theorem nextPageId_ne (h : s.pages = [q]) : s.nextPageId ≠ q.id := by
  have hfree : ∀ k, (s.page? k).isNone = true ↔ q.id ≠ k := fun k => by simp [State.page?, h]
  rw [State.nextPageId]
  generalize hids : (List.range 255).map (fun k => (s.lastPageId + k) % 255 + 1) = ids
  cases hfind : ids.find? fun k => (s.page? k).isNone with
  | some k =>
    have hk := List.find?_some hfind
    exact fun hkq => (hfree k).1 hk hkq.symm
  | none =>
    have hheld : ∀ k, k < 255 → q.id = (s.lastPageId + k) % 255 + 1 := fun k hk => by
      have hmem : (s.lastPageId + k) % 255 + 1 ∈ ids := hids ▸ List.mem_map.2 ⟨k, List.mem_range.2 hk, rfl⟩
      by_contra hne
      exact List.find?_eq_none.1 hfind _ hmem ((hfree _).2 hne)
    have h0 := hheld 0 (by omega)
    have h1 := hheld 1 (by omega)
    omega

/-- The page of the input's evacuation. -/
def State.evacuation (s : State) (i : Nat) : PageRecord :=
  (s.alarmed i).newPage (evacuationRequest i (s.meaning i).zones)

/-- The state in which the input's evacuation is QUEUED, and no pass has run yet. -/
def State.evacuationQueued (s : State) (i : Nat) : State :=
  (s.alarmed i).joined (evacuationRequest i (s.meaning i).zones)

theorem pages_evacuationQueued (s : State) (i : Nat) :
    (s.evacuationQueued i).pages = s.pages ++ [s.evacuation i] := rfl

theorem input_evacuationQueued (hi : i ≤ 3) : (s.evacuationQueued i).input i =
    { s.input i with
      debounceDue := none, active := true, latchedMode := .evacuate, latchedSet := (s.meaning i).zones
      page := some (s.evacuation i).id } := by
  have hlinked : (s.evacuationQueued i).input i = { (s.alarmed i).input i with page := some (s.evacuation i).id } :=
    (input_modInput _ i i _).trans (if_pos ⟨rfl, by omega⟩)
  rw [hlinked, input_alarmed hi]

/-- The evacuation's target is every installed zone of the input's set (R111, R120). -/
theorem target_evacuation : zoneIn (s.evacuation i).target z = true ↔
    zoneIn (s.meaning i).zones z = true ∧ s.installed z = true :=
  mem_targetOf.trans ⟨fun h => ⟨h.1, h.2.1⟩, fun h => ⟨h.1, h.2, .inl rfl⟩⟩

theorem target_evacuation_false : zoneIn (s.evacuation i).target z = false ↔
    zoneIn (s.meaning i).zones z = false ∨ s.installed z = false := by
  rw [Bool.eq_false_iff, Ne, target_evacuation, not_and_or, Bool.not_eq_true, Bool.not_eq_true]

theorem evacuates_evacuation
    (h : ∃ z, z ≤ 63 ∧ zoneIn (s.meaning i).zones z = true ∧ s.installed z = true) :
    Evacuates i (s.evacuation i) (s.evacuationQueued i) where
  waits := rfl
  cls := rfl
  alarm := rfl
  source := rfl
  mode := rfl
  unlimited := rfl
  silent := rfl
  target := by
    obtain ⟨z, -, hin, hinstalled⟩ := h
    exact List.ne_nil_of_mem (zonesOf_iff.2 (target_evacuation.2 ⟨hin, hinstalled⟩))
  base z hz := by
    have hinstalled : (s.evacuationQueued i).installed z = true := (target_evacuation.1 hz).2
    have hcls : (s.evacuation i).cls = .emergency := rfl
    simp [State.usableBase, hinstalled, hcls, PageClass.ignoresRange]

/-- The input settles: its evacuation joins the table, the pass runs, and released groups are serviced (R132, R159). -/
theorem exec_debounceExpiry_evacuates (hrun : s.running = true) (hi : i ≤ 3) (hd : (s.input i).debounceDue = some d)
    (hdue : d ≤ s.clock) (hc : (s.input i).closed = true) (hm : (s.meaning i).mode = .evacuate)
    (hfree : ∀ p ∈ s.pages, p.alarm ≠ some i)
    (hzone : ∃ z, z ≤ 63 ∧ zoneIn (s.meaning i).zones z = true ∧ s.installed z = true)
    (hpass : schedule (s.evacuationQueued i) = signalCoverage u) :
    ∃ t, exec (.debounceExpiry i) s = .next t ∧ Hunted u t := by
  have hnone : (s.alarmed i).alarmPage i = none := List.find?_eq_none.2 fun p hp => by simpa using hfree p hp
  have hrequest : alarmRequest i ((s.alarmed i).input i) = evacuationRequest i (s.meaning i).zones := by
    rw [input_alarmed hi]
    exact alarmRequest_evacuate rfl
  have htarget : (s.alarmed i).targetOf .emergency (s.meaning i).zones ≠ 0 := by
    obtain ⟨z, -, hin, hinstalled⟩ := hzone
    have hz : zoneIn (s.evacuation i).target z = true := target_evacuation.2 ⟨hin, hinstalled⟩
    intro hempty
    simp only [State.evacuation, State.newPage, evacuationRequest, hempty] at hz
    simp [zoneIn] at hz
  have hplaces : placeAlarmPage i (s.alarmed i) = signalCoverage u := by
    have hrefusal := admissionRefusal_none (q := evacuationRequest i (s.meaning i).zones) htarget (.inl rfl)
    simp only [placeAlarmPage, hnone, hrequest]
    exact (requestPage_admits hrefusal).trans hpass
  have hserviced := releasingHolds_hunted (placeAlarmPage i) (s.alarmed i)
  rw [hplaces] at hserviced
  refine ⟨_, congrArg Host.Outcome.next ((whenRunning_running hrun _).trans ?_),
    ⟨hserviced.pages, hserviced.zones, hserviced.inputs, hserviced.frozen⟩⟩
  rw [hd, atExpiry_due hdue, settle_evacuate hc hm]

theorem Hunted.zone (h : Hunted s t) (z : Nat) : t.zone z = s.zone z := by rw [State.zone, State.zone, h.zones]

theorem input_congr (h : t.inputs = s.inputs) (i : Nat) : t.input i = s.input i := by rw [State.input, State.input, h]

/-- Settles O54: the evacuation over idle zones, and over the evacuation of a higher-numbered input. -/
theorem evacuationTakesItsZones : Obligations.EvacuationTakesItsZones := by
  refine ⟨fun i d s hrun hi hd hdue hc hm h hidle hzone => ?_,
    fun i j d q s hrun hij hj hd hdue hc hm h hcls ha hs hch haudio hstate hzone => ?_⟩
  · obtain ⟨u, hpass, hdone⟩ := (evacuates_evacuation hzone).scheduleAlone
      (by rw [pages_evacuationQueued, h]; rfl) hidle
    obtain ⟨t, hexec, hkept⟩ := exec_debounceExpiry_evacuates hrun hi hd hdue hc hm (by simp [h]) hzone hpass
    have hinput : t.input i = (s.evacuationQueued i).input i := input_congr (hkept.inputs.trans hdone.inputs) i
    rw [input_evacuationQueued hi] at hinput
    refine ⟨t, _, hexec, hkept.pages.trans hdone.pages, rfl, rfl, rfl, by rw [hinput], by rw [hinput],
      hkept.frozen.trans hdone.frozen, by rw [hinput]; rfl, rfl, fun z _ => ⟨fun hz => ?_, fun hz => ?_⟩⟩
    · rw [hkept.zone, hdone.zone z (target_evacuation.2 hz)]
      rfl
    · exact (hkept.zone z).trans (hdone.others z (target_evacuation_false.2 hz))
  · have hevicts : Evicts i j q (s.evacuation i) (s.evacuationQueued i) := {
      toEvacuates := evacuates_evacuation hzone
      pages := by rw [pages_evacuationQueued, h]; rfl
      distinct := (nextPageId_ne (s := s.alarmed i) h).symm
      ranks := hij
      peer := hcls
      input := ha
      live := hs
      holds := hch
      zones := hstate }
    obtain ⟨u, hpass, hpages, hinputs, htaken, hothers⟩ := hevicts.schedule
    obtain ⟨t, hexec, hkept⟩ := exec_debounceExpiry_evacuates hrun (by omega) hd hdue hc hm
      (by simp [h, ha]; omega) hzone hpass
    have hinput : t.input i = (s.evacuationQueued i).input i := input_congr (hkept.inputs.trans hinputs) i
    rw [input_evacuationQueued (by omega)] at hinput
    have hsuspended : q.suspended none = { q with state := .suspended, channel := none, suspensionDue := none } := by
      simp [PageRecord.suspended, haudio]
    refine ⟨t, (s.evacuationQueued i).evacuating (s.evacuation i), hexec, hsuspended ▸ hkept.pages.trans hpages, rfl,
      rfl, rfl, by rw [hinput]; rfl, hevicts.distinct.symm, rfl, fun z _ => ?_⟩
    rw [hkept.zone]
    split
    · rename_i hz
      exact hothers z (target_evacuation_false.2 hz)
    · rename_i hz
      rw [htaken z (by simpa [target_evacuation_false.symm] using hz)]
      rfl

end Sys2Proof.Machine
end

section
/-! PROOF. The state frame and the choice of the next exchange (R135, R136, R139). -/

namespace Sys2Proof.Machine

variable {s : State} {y z : Nat}

/-! ## The state frame (R136) -/

/-- The check byte brings the sum of any body to 0. -/
theorem byteSum_checked (body : List Byte) : byteSum (body ++ [0 - byteSum body]) = 0 := by
  have hsum : byteSum (body ++ [0 - byteSum body]) = byteSum body + (0 - byteSum body) := List.foldl_append ..
  rw [hsum]
  bv_omega

theorem stateFrame_fields {c : Commanded} (hz : z ≤ 63) (hch : c.channel ≤ 7) (hgain : c.gain ≤ 255)
    (hramp : c.ramp ≤ 255) : ((stateFrame z c).take 5).map BitVec.toNat =
      [z + 1, c.channel, c.gain, c.ramp, if c.chime then 1 else 0] := by
  have hfits : ∀ n, n ≤ 255 → (BitVec.ofNat 8 n).toNat = n := fun n hn => by
    rw [BitVec.toNat_ofNat]; omega
  have hchime : (if c.chime then 1 else 0 : Byte).toNat = if c.chime then 1 else 0 := by split <;> rfl
  change [(BitVec.ofNat 8 (z + 1)).toNat, (BitVec.ofNat 8 c.channel).toNat, (BitVec.ofNat 8 c.gain).toNat,
    (BitVec.ofNat 8 c.ramp).toNat, (if c.chime then 1 else 0 : Byte).toNat] = _
  rw [hfits _ (by omega), hfits _ (by omega), hfits _ hgain, hfits _ hramp, hchime]

/-! ## The choice of a zone (R139) -/

/-- A change of an installed zone's commanded state has not been delivered to it. -/
def State.Waits (s : State) (z : Nat) : Prop := z ≤ 63 ∧ s.installed z = true ∧ (s.amp z).deliveryPending = true

/-- The first zone that meets a condition, among those that meet another. -/
theorem find?_zones_eq_some {p q : Nat → Bool} (hz : z ≤ 63) (hp : p z = true) (hq : q z = true)
    (hlow : ∀ y, y < z → p y = true → q y = false) : ((List.range 64).filter p).find? q = some z := by
  rw [List.find?_filter]
  refine List.find?_range_eq_some.2 ⟨by simp [hp, hq], List.mem_range.2 (by omega), fun y hy => ?_⟩
  cases hpy : p y with
  | false => rfl
  | true => simp [hlow y hy hpy]

theorem find?_zones_eq_none {p q : Nat → Bool} (h : ∀ y, y ≤ 63 → p y = true → q y = false) :
    ((List.range 64).filter p).find? q = none :=
  List.find?_eq_none.2 fun y hy => by
    obtain ⟨hmem, hpy⟩ := List.mem_filter.1 hy
    simp [h y (Nat.lt_succ_iff.1 (List.mem_range.1 hmem)) hpy]

theorem head?_zones_eq_some {p : Nat → Bool} (hz : z ≤ 63) (hp : p z = true) (hlow : ∀ y, y < z → p y = false) :
    ((List.range 64).filter p).head? = some z := by
  rw [List.head?_filter]
  exact List.find?_range_eq_some.2 ⟨hp, List.mem_range.2 (by omega), fun y hy => by simp [hlow y hy]⟩

theorem waits_iff : s.Waits z ↔ z ≤ 63 ∧ (s.installed z && (s.amp z).deliveryPending) = true := by
  simp [State.Waits]

theorem nextChange_emergency (hw : s.Waits z) (hm : (s.amp z).emergencyMark = true)
    (hlow : ∀ y, y < z → s.Waits y → (s.amp y).emergencyMark = false) : s.nextChange = some z := by
  obtain ⟨hz, hwaits⟩ := waits_iff.1 hw
  have hfirst := find?_zones_eq_some (q := fun y => (s.amp y).emergencyMark) hz hwaits hm
    fun y hy hp => hlow y hy (waits_iff.2 ⟨by omega, hp⟩)
  simp [State.nextChange, hfirst]

theorem nextChange_lowest (hw : s.Waits z) (h : ∀ y, s.Waits y → (s.amp y).emergencyMark = false ∧ z ≤ y) :
    s.nextChange = some z := by
  obtain ⟨hz, hwaits⟩ := waits_iff.1 hw
  have hunmarked := find?_zones_eq_none (p := fun y => s.installed y && (s.amp y).deliveryPending)
    (q := fun y => (s.amp y).emergencyMark) fun y hy hp => (h y (waits_iff.2 ⟨hy, hp⟩)).1
  have hhead := head?_zones_eq_some (p := fun y => s.installed y && (s.amp y).deliveryPending) hz hwaits fun y hy =>
    Bool.eq_false_iff.2 fun hp => by
      have := (h y (waits_iff.2 ⟨by omega, hp⟩)).2
      omega
  simp only [State.nextChange, hunmarked, hhead, Option.none_or]

theorem nextChange_none (h : ∀ y, ¬s.Waits y) : s.nextChange = none := by
  have hnone : (List.range 64).filter (fun y => s.installed y && (s.amp y).deliveryPending) = [] :=
    List.filter_eq_nil_iff.2 fun y hy hp => h y (waits_iff.2 ⟨Nat.lt_succ_iff.1 (List.mem_range.1 hy), hp⟩)
  simp only [State.nextChange, hnone, List.find?_nil, List.head?_nil, Option.none_or]

theorem nextPoll_ahead (hz : z ≤ 63) (hi : s.installed z = true) (hr : s.rotation < z)
    (hbetween : ∀ y, s.rotation < y → y < z → s.installed y = false) : s.nextPoll = some z := by
  have hfirst := find?_zones_eq_some (p := s.installed) (q := fun y => decide (s.rotation < y)) hz hi
    (decide_eq_true hr) fun y hy hin => decide_eq_false fun hry => by simp [hbetween y hry hy] at hin
  simp only [State.nextPoll, hfirst, Option.some_or]

theorem nextPoll_around (hz : z ≤ 63) (hi : s.installed z = true)
    (habove : ∀ y, s.rotation < y → y ≤ 63 → s.installed y = false) (hbelow : ∀ y, y < z → s.installed y = false) :
    s.nextPoll = some z := by
  have hnone := find?_zones_eq_none (p := s.installed) (q := fun y => decide (s.rotation < y)) fun y hy hin =>
    decide_eq_false fun hry => by simp [habove y hry hy] at hin
  simp only [State.nextPoll, hnone, head?_zones_eq_some hz hi hbelow, Option.none_or]

theorem startExchange_poll (he : s.exchange = none) (hc : s.nextChange = none) (h : s.nextPoll = some z) :
    startExchange s = beginExchange z { s with rotation := z } := by simp [startExchange, he, hc, h]

/-- Settles O49: the choice first, then the exchange that begins with the chosen zone. -/
theorem nextExchangeIsChosen : Obligations.NextExchangeIsChosen := by
  refine ⟨fun z c => ⟨rfl, byteSum_checked _, stateFrame_fields⟩, fun s he => ⟨fun z hw hm hlow => ?_,
    fun z hw h => ?_, fun hnone z hz hi hturn => ?_⟩⟩
  · exact startExchange_change he (nextChange_emergency hw hm hlow)
  · exact startExchange_change he (nextChange_lowest hw h)
  · have hpoll : s.nextPoll = some z := by
      obtain ⟨hr, hbetween⟩ | ⟨habove, hbelow⟩ := hturn
      · exact nextPoll_ahead hz hi hr hbetween
      · exact nextPoll_around hz hi habove hbelow
    exact startExchange_poll he (nextChange_none hnone) hpoll

end Sys2Proof.Machine
end

section
/-! PROOF. How an exchange with a zone ends (R140 to R145). -/

namespace Sys2Proof.Machine

variable {s t : State} {e : Exchange} {z : Nat} {c : FaultCause} {a r st ap ck : Byte}

/-! ## The outcome of a reply (R140) -/

theorem byteSum_five (a r st ap ck : Byte) : byteSum [a, r, st, ap, ck] = a + r + st + ap + ck := by
  simp [byteSum]

theorem statusCause_none (h : 3 < st.toNat ∨ st = 0) : statusCause st = none := by
  have h1 : st ≠ 1 := by rintro rfl; simp at h
  have h2 : st ≠ 2 := by rintro rfl; simp at h
  have h3 : st ≠ 3 := by rintro rfl; simp at h
  rw [statusCause, if_neg h1, if_neg h2, if_neg h3]

/-- A reply whose sum and address are right, and whose status names no fault, is judged by the channel it applied. -/
theorem classifyReply_addressed (hsum : a + r + st + ap + ck = 0) (ha : a.toNat = e.zone + 1)
    (hst : statusCause st = none) : classifyReply e a r st ap ck =
      if st = 0 ∧ ap.toNat = e.sent.channel then .good else .bad := by
  simp only [classifyReply, byteSum_five, hsum, ha, hst, ne_eq, not_true_eq_false, if_false]

theorem classifyReply_bad (h : a + r + st + ap + ck ≠ 0 ∨ a.toNat ≠ e.zone + 1 ∨ 3 < st.toNat ∨
    (st = 0 ∧ ap.toNat ≠ e.sent.channel)) : classifyReply e a r st ap ck = .bad := by
  by_cases hsum : a + r + st + ap + ck = 0
  · by_cases ha : a.toNat = e.zone + 1
    · have hstatus : 3 < st.toNat ∨ (st = 0 ∧ ap.toNat ≠ e.sent.channel) := by tauto
      rw [classifyReply_addressed hsum ha (statusCause_none (hstatus.imp_right And.left))]
      refine if_neg ?_
      rintro ⟨rfl, hap⟩
      simp [hap] at hstatus
    · simp [classifyReply, byteSum_five, hsum, ha]
  · exact if_pos (by rwa [byteSum_five])

theorem classifyReply_fault (hsum : a + r + st + ap + ck = 0) (ha : a.toNat = e.zone + 1)
    (h : (st = 1 ∧ c = .amplifier) ∨ (st = 2 ∧ c = .lineOpen) ∨ (st = 3 ∧ c = .overtemperature)) :
    classifyReply e a r st ap ck = .faultReply c := by
  have hcause : statusCause st = some c := by
    obtain ⟨rfl, rfl⟩ | ⟨rfl, rfl⟩ | ⟨rfl, rfl⟩ := h <;> rfl
  simp only [classifyReply, byteSum_five, hsum, ha, hcause, ne_eq, not_true_eq_false, if_false]

theorem classifyReply_good (hsum : a + r + st + ap + ck = 0) (ha : a.toNat = e.zone + 1) (hst : st = 0)
    (hap : ap.toNat = e.sent.channel) : classifyReply e a r st ap ck = .good :=
  (classifyReply_addressed hsum ha (statusCause_none (.inr hst))).trans (if_pos ⟨hst, hap⟩)

/-! ## The effect of an outcome (R141 to R145) -/

/-- A zone that has become faulted with a cause, its delivery settled, and ZONE-FAULT queued. -/
def State.zoneFaulted (s : State) (z : Nat) (c : FaultCause) : State :=
  notify (.zoneFault z c) (s.modAmp z fun a =>
    { a with fault := some c, missCount := 0, deliveryPending := false, emergencyMark := false })

/-- A zone whose fault has been cleared by a good reply, its delivery pending anew, and ZONE-RESTORED queued. -/
def State.zoneRestored (s : State) (z : Nat) : State :=
  notify (.zoneRestored z) (s.modAmp z fun a =>
    { a with fault := none, missCount := 0, deliveryPending := true, emergencyMark := false })

theorem confirmDelivery_setFault (z : Nat) (c : FaultCause) (s : State) :
    confirmDelivery z (setFault z c s) = s.zoneFaulted z c :=
  congrArg (notify (.zoneFault z c)) (modAmp_modAmp s z (fun a => { a with fault := some c, missCount := 0 })
    fun a => { a with deliveryPending := false, emergencyMark := false })

theorem missedReply_counts (hf : (s.amp z).fault = none) (hm : (s.amp z).missCount < 2) :
    missedReply z s = s.modAmp z fun a => { a with missCount := a.missCount + 1 } := by
  simp [missedReply, hf, hm]

theorem missedReply_faults (hf : (s.amp z).fault = none) (hm : 2 ≤ (s.amp z).missCount) :
    missedReply z s = s.zoneFaulted z .noReply := by
  have hthird : ¬(s.amp z).missCount + 1 < 3 := by omega
  rw [missedReply, hf, if_neg (by decide), if_neg hthird, confirmDelivery_setFault]

theorem missedReply_troubled (hf : (s.amp z).fault ≠ none) : missedReply z s = confirmDelivery z s :=
  if_pos (Option.isSome_iff_ne_none.2 hf)

theorem faultReply_eq (z : Nat) (c : FaultCause) (s : State) :
    faultReply z c s = if (s.amp z).fault = some c then confirmDelivery z s else s.zoneFaulted z c := by
  rw [faultReply]
  split
  · rfl
  · exact confirmDelivery_setFault z c s

theorem guardReading_eq (e : Exchange) (r : Byte) (s : State) : guardReading e r s =
    if e.sent.channel = 7 ∧ e.sent.gain = 255 then takeReading e.zone r.toNat s else s := by
  simp only [guardReading, Bool.and_eq_true, decide_eq_true_eq]

/-- A reading reaches the Level Unit alike whether the exchange that brought it still stands or not. -/
theorem guardReading_exchange (e : Exchange) (r : Byte) (s : State) (x : Option Exchange) :
    guardReading e r { s with exchange := x } = { guardReading e r s with exchange := x } := by
  rw [guardReading_eq, guardReading_eq]
  split
  · unfold takeReading
    split <;> rfl
  · rfl

theorem goodReply_confirms (hf : (s.amp e.zone).fault = none) : goodReply e r s =
    guardReading e r (s.modAmp e.zone fun a => if e.superseded = true then { a with missCount := 0 }
      else { a with missCount := 0, deliveryPending := false, emergencyMark := false }) := by
  simp only [goodReply, hf]
  split
  · rfl
  · rw [confirmDelivery, modAmp_modAmp]

theorem guardReading_pages (e : Exchange) (r : Byte) (s : State) : (guardReading e r s).pages = s.pages := by
  rw [guardReading_eq, takeReading]
  split_ifs <;> rfl

theorem guardReading_zonesQuiet (e : Exchange) (r : Byte) (h : s.ZonesQuiet) : (guardReading e r s).ZonesQuiet := by
  rw [guardReading_eq, takeReading]
  split_ifs <;> exact ⟨h.idle, h.uncovered⟩

/-- Without a page and with quiet zones the pass that follows a restored zone has nothing to do (R144). -/
theorem goodReply_restores (hf : (s.amp e.zone).fault ≠ none) (hp : s.pages = []) (hq : s.ZonesQuiet) :
    goodReply e r s = guardReading e r (s.zoneRestored e.zone) := by
  obtain ⟨c, hc⟩ := Option.ne_none_iff_exists'.1 hf
  have hmark : s.emergencyOwned e.zone = false := by simp [State.emergencyOwned, hq.idle, ZoneState.owner]
  have hpages : (guardReading e r (s.zoneRestored e.zone)).pages = [] := (guardReading_pages ..).trans hp
  have hquiet : (guardReading e r (s.zoneRestored e.zone)).ZonesQuiet :=
    guardReading_zonesQuiet e r ⟨hq.idle, hq.uncovered⟩
  simp only [goodReply, hc, hmark]
  exact (releasingHolds_uncovered hquiet.uncovered).trans (schedule_quiet hpages hquiet)

/-! ## The end of an exchange -/

theorem exec_zoneReplyTimeout_ends (hrun : s.running = true) (he : s.exchange = some e) (hd : e.deadline ≤ s.clock)
    (h : endExchange e .missed 0 s = t) : exec .zoneReplyTimeout s = .next t :=
  congrArg Host.Outcome.next ((whenRunning_running hrun _).trans (by simp only [he, elapseTo_past hd, h]))

theorem exec_zoneReply_ends (hrun : s.running = true) (he : s.exchange = some e) (hd : s.clock ≤ e.deadline)
    (h : endExchange e (classifyReply e a r st ap ck) r s = t) : exec (.zoneReply a r st ap ck) s = .next t :=
  congrArg Host.Outcome.next ((whenRunning_running hrun _).trans (by simp only [he, Nat.not_lt.2 hd, if_false, h]))

/-- The exchange is over, and the next one begins (R139). -/
def exchangeOver (s : State) : State := startExchange { s with exchange := none }

theorem endExchange_left {o : ExchangeOutcome} (h : s.installed e.zone = false) :
    endExchange e o r s = exchangeOver s :=
  congrArg startExchange (if_pos (c := (!s.installed e.zone) = true) (by rw [h]; rfl))

/-- A missed reply and a bad one have the same effect: they count, up to the third in a row (R142). -/
theorem endExchange_unanswered {o : ExchangeOutcome} (ho : o = .missed ∨ o = .bad) (h : s.installed e.zone = true) :
    endExchange e o r s = startExchange (missedReply e.zone { s with exchange := none }) := by
  obtain rfl | rfl := ho <;>
    exact congrArg startExchange (if_neg (c := (!s.installed e.zone) = true) (by simp [h]))

theorem endExchange_counts {o : ExchangeOutcome} (ho : o = .missed ∨ o = .bad) (h : s.installed e.zone = true)
    (hf : (s.amp e.zone).fault = none) (hm : (s.amp e.zone).missCount < 2) : endExchange e o r s =
      exchangeOver (s.modAmp e.zone fun a => { a with missCount := a.missCount + 1 }) :=
  (endExchange_unanswered ho h).trans
    (congrArg startExchange (missedReply_counts (s := { s with exchange := none }) hf hm))

theorem endExchange_faults {o : ExchangeOutcome} (ho : o = .missed ∨ o = .bad) (h : s.installed e.zone = true)
    (hf : (s.amp e.zone).fault = none) (hm : 2 ≤ (s.amp e.zone).missCount) :
    endExchange e o r s = exchangeOver (s.zoneFaulted e.zone .noReply) :=
  (endExchange_unanswered ho h).trans
    (congrArg startExchange (missedReply_faults (s := { s with exchange := none }) hf hm))

theorem endExchange_troubled {o : ExchangeOutcome} (ho : o = .missed ∨ o = .bad) (h : s.installed e.zone = true)
    (hf : (s.amp e.zone).fault ≠ none) : endExchange e o r s = exchangeOver (confirmDelivery e.zone s) :=
  (endExchange_unanswered ho h).trans
    (congrArg startExchange (missedReply_troubled (s := { s with exchange := none }) hf))

theorem endExchange_faultReply (h : s.installed e.zone = true) : endExchange e (.faultReply c) r s =
    if (s.amp e.zone).fault = some c then exchangeOver (confirmDelivery e.zone s)
    else exchangeOver (s.zoneFaulted e.zone c) := by
  have heffect : endExchange e (.faultReply c) r s = startExchange (faultReply e.zone c { s with exchange := none }) :=
    congrArg startExchange (if_neg (c := (!s.installed e.zone) = true) (by simp [h]))
  rw [heffect, faultReply_eq, apply_ite startExchange]
  rfl

theorem endExchange_good (h : s.installed e.zone = true) :
    endExchange e .good r s = startExchange (goodReply e r { s with exchange := none }) :=
  congrArg startExchange (if_neg (c := (!s.installed e.zone) = true) (by simp [h]))

theorem exchangeOver_guardReading (e : Exchange) (r : Byte) (s : State) :
    startExchange (guardReading e r { s with exchange := none }) =
      exchangeOver (if e.sent.channel = 7 ∧ e.sent.gain = 255 then takeReading e.zone r.toNat s else s) := by
  rw [guardReading_exchange, guardReading_eq]
  rfl

theorem endExchange_confirms (h : s.installed e.zone = true) (hf : (s.amp e.zone).fault = none) :
    endExchange e .good r s = startExchange (guardReading e r { s.modAmp e.zone fun a =>
      if e.superseded = true then { a with missCount := 0 }
      else { a with missCount := 0, deliveryPending := false, emergencyMark := false } with exchange := none }) :=
  (endExchange_good h).trans
    (congrArg startExchange (goodReply_confirms (s := { s with exchange := none }) hf))

theorem endExchange_restores (h : s.installed e.zone = true) (hf : (s.amp e.zone).fault ≠ none) (hp : s.pages = [])
    (hq : s.ZonesQuiet) : endExchange e .good r s =
      startExchange (guardReading e r { s.zoneRestored e.zone with exchange := none }) :=
  (endExchange_good h).trans
    (congrArg startExchange (goodReply_restores (s := { s with exchange := none }) hf hp ⟨hq.idle, hq.uncovered⟩))

/-- Settles O48: the end by time, then the end by a reply of each outcome. -/
theorem exchangesEnd : Obligations.ExchangesEnd := by
  intro e s hrun he hz
  refine ⟨fun hd => ?_, fun a r st ap ck hd => ?_⟩
  · have hends {t : State} := exec_zoneReplyTimeout_ends (t := t) hrun he hd
    exact ⟨fun hleft => hends (endExchange_left hleft),
      fun ⟨hi, hf⟩ hm => hends (endExchange_counts (.inl rfl) hi hf hm),
      fun ⟨hi, hf⟩ hm => hends (endExchange_faults (.inl rfl) hi hf hm),
      fun ⟨hi, hf⟩ => hends (endExchange_troubled (.inl rfl) hi hf)⟩
  · have hends {t : State} := exec_zoneReply_ends (a := a) (r := r) (st := st) (ap := ap) (ck := ck) (t := t) hrun he hd
    refine ⟨fun hleft => hends (endExchange_left hleft),
      fun hbad ⟨hi, hf⟩ hm => hends (endExchange_counts (.inr (classifyReply_bad hbad)) hi hf hm),
      fun hbad ⟨hi, hf⟩ hm => hends (endExchange_faults (.inr (classifyReply_bad hbad)) hi hf hm),
      fun hbad ⟨hi, hf⟩ => hends (endExchange_troubled (.inr (classifyReply_bad hbad)) hi hf),
      fun c ⟨hsum, ha, hst⟩ hi => hends ?_, fun ⟨hsum, ha, hst, hap⟩ ⟨hi, hf⟩ => hends ?_,
      fun ⟨hsum, ha, hst, hap⟩ ⟨hi, hf⟩ hp hq => hends ?_⟩
    · rw [classifyReply_fault hsum ha hst]
      exact endExchange_faultReply hi
    · rw [classifyReply_good hsum ha hst hap, endExchange_confirms hi hf]
      exact exchangeOver_guardReading e r _
    · rw [classifyReply_good hsum ha hst hap, endExchange_restores hi hf hp hq]
      exact exchangeOver_guardReading e r _

end Sys2Proof.Machine
end

section
/-! PROOF. The noise estimate and the gain code (R149, R150, R152, R153). -/

namespace Sys2Proof.Machine

variable {s : State} {q z : Nat} {l : LevelState} {d k : Int}

/-! ## The noise estimate (R149, R150) -/

theorem readingLevel_range (h1 : 1 ≤ q) : 480 ≤ readingLevel q ∧ readingLevel q ≤ 2080 := by
  unfold readingLevel
  split <;> omega

/-- The factor that a reading of level `r` moves the estimate by (R150). -/
def LevelState.factor (l : LevelState) (r : Int) : Int := if 0 < r - l.noise then l.riseFactor else l.fallFactor

/-- The step of a reading of level `r`: the truncated product, or one step where that is 0 and the levels differ
(R150). -/
theorem noiseStep_eq (l : LevelState) (r : Int) : noiseStep l.riseFactor l.fallFactor l.noise r =
    if Int.tdiv ((r - l.noise) * l.factor r) 64 ≠ 0 then Int.tdiv ((r - l.noise) * l.factor r) 64
    else if 0 < r - l.noise then 1 else if r - l.noise < 0 then -1 else 0 := by
  change (if (Int.tdiv ((r - l.noise) * l.factor r) 64 = 0 && r - l.noise ≠ 0 : Bool) = true then
    if 0 < r - l.noise then 1 else -1 else Int.tdiv ((r - l.noise) * l.factor r) 64) = _
  generalize Int.tdiv ((r - l.noise) * l.factor r) 64 = step
  simp only [Bool.and_eq_true, decide_eq_true_eq]
  split_ifs <;> omega

/-- A factor of 1 to 64 never carries the truncated product past the difference, nor away from it. -/
theorem tdiv_between (h1 : 1 ≤ k) (h2 : k ≤ 64) :
    (0 ≤ d → 0 ≤ Int.tdiv (d * k) 64 ∧ Int.tdiv (d * k) 64 ≤ d) ∧
      (d ≤ 0 → d ≤ Int.tdiv (d * k) 64 ∧ Int.tdiv (d * k) 64 ≤ 0) := by
  have hup : ∀ x : Int, 0 ≤ x → 0 ≤ Int.tdiv (x * k) 64 ∧ Int.tdiv (x * k) 64 ≤ x := fun x hx => by
    have hlow : 0 ≤ x * k := by positivity
    have hhigh : x * k ≤ x * 64 := by gcongr
    rw [Int.tdiv_eq_ediv_of_nonneg hlow]
    omega
  refine ⟨hup d, fun hd => ?_⟩
  have hneg := hup (-d) (by omega)
  rw [neg_mul, Int.neg_tdiv] at hneg
  omega

/-- A step goes toward the reading and not past it, and it goes somewhere unless the estimate is there. -/
theorem noiseStep_toward {r : Int} (h1 : 1 ≤ l.factor r) (h2 : l.factor r ≤ 64) :
    (l.noise < r → 0 < noiseStep l.riseFactor l.fallFactor l.noise r ∧
      noiseStep l.riseFactor l.fallFactor l.noise r ≤ r - l.noise) ∧
    (r < l.noise → r - l.noise ≤ noiseStep l.riseFactor l.fallFactor l.noise r ∧
      noiseStep l.riseFactor l.fallFactor l.noise r < 0) := by
  obtain ⟨hup, hdown⟩ := tdiv_between (d := r - l.noise) h1 h2
  rw [noiseStep_eq]
  generalize Int.tdiv ((r - l.noise) * l.factor r) 64 = step at *
  split_ifs <;> omega

/-- The record of a zone that a reading of level `r` has been noted at (R149). -/
def State.heard (s : State) (z : Nat) : LevelState := { s.level z with lastReading := some s.now, stale := false }

theorem level_takeReading (hz : z ≤ 63) (hq : 1 ≤ q) :
    (takeReading z q s).level z = (s.heard z).learn (readingLevel q) := by
  rw [takeReading, if_neg (by omega)]
  exact (level_modLevel s z z _).trans (if_pos ⟨rfl, by omega⟩)

theorem learn_unseeded (h : l.seeded = false) (r : Int) : l.learn r = { l with noise := r, seeded := true } := by
  simp [LevelState.learn, h]

theorem learn_seeded (h : l.seeded = true) (r : Int) : l.learn r =
    { l with noise := max 480 (min (l.noise + noiseStep l.riseFactor l.fallFactor l.noise r) 2080) } := by
  rw [LevelState.learn, if_pos h, clampInt_eq (by decide)]

/-- Settles O50: the two equations of an update, and the step that goes toward the reading without passing it. -/
theorem noiseFollowsReadings : Obligations.NoiseFollowsReadings := by
  intro z q s hz hq
  have hlevel : (if q ≤ 201 then 480 + 8 * ((q : Int) - 1) else 2080) = readingLevel q := by
    rw [readingLevel, mul_comm]
  rw [hlevel]
  refine ⟨fun h0 => if_pos h0, fun h1 hseed => ?_, fun h1 hseed => ?_, fun h1 hseed hbound hne hr1 hr2 hf1 hf2 => ?_⟩
  · exact (level_takeReading hz h1).trans (learn_unseeded (l := s.heard z) hseed _)
  · rw [level_takeReading hz h1, learn_seeded (l := s.heard z) hseed, noiseStep_eq]
    rfl
  · rw [level_takeReading hz h1, learn_seeded (l := s.heard z) hseed]
    have hfactor : 1 ≤ (s.heard z).factor (readingLevel q) ∧ (s.heard z).factor (readingLevel q) ≤ 64 := by
      unfold LevelState.factor
      split <;> simp only [State.heard] <;> omega
    have htoward := noiseStep_toward hfactor.1 hfactor.2
    have hrange := readingLevel_range h1
    obtain ⟨hlow, hhigh⟩ := hbound
    simp only [State.heard] at htoward ⊢
    obtain hbelow | habove := lt_or_gt_of_ne hne
    · rw [abs_of_neg (sub_neg.2 hbelow), abs_lt]
      omega
    · rw [abs_of_pos (sub_pos.2 habove), abs_lt]
      omega

/-! ## The gain code (R152, R153) -/

theorem rawGainCode_eq (gain : Int) : rawGainCode gain = (max 0 (min ((gain + 960 + 4) / 8) 144)).toNat := by
  rw [rawGainCode, clampInt_eq (by decide), Int.fdiv_eq_ediv_of_nonneg _ (by decide)]

/-- The maximum governs where the limits cross (R153). -/
theorem limitCode_eq (low high code : Nat) : limitCode low high code =
    if high < low then high else if code < low then low else if high < code then high else code := by
  unfold limitCode
  split_ifs <;> omega

/-- Settles O51: the code before the zone's limits, then the limits. -/
theorem gainCodeFollowsTarget : Obligations.GainCodeFollowsTarget := by
  intro z cls s hz l margin ceiling target gain code limited
  have hcode : s.unlimitedCode z cls = code := by
    rw [State.unlimitedCode, rawGainCode_eq]
    cases cls <;> rfl
  have hlimited : limitCode l.minCode l.maxCode code = limited := limitCode_eq _ _ _
  have hgain : s.gainCode z cls = if cls = .emergency then code else limited := by
    rw [State.gainCode, hcode, hlimited]
  refine ⟨hgain, ?_⟩
  rw [noteLimited, hgain, hcode]
  by_cases he : cls = .emergency
  · simp [he]
  · by_cases hkept : limited = code <;> simp [he, hkept]

end Sys2Proof.Machine
end

section
/-! PROOF. The commands of the Level Unit: STALE_TIME_EXPIRY, ZONE-SET and LEVEL-QUERY (R138, R141, R148, R151,
R155). -/

namespace Sys2Proof.Machine

variable {s : State} {z q : Nat} {o : ZoneSetOp} {p : PageRecord}

/-! ## The stale time (R151) -/

/-- A zone whose point on the time base has come turns STALE without time passing. -/
theorem exec_staleTimeExpiry_due (hrun : s.running = true) (hstale : (s.level z).stale = false)
    (hdue : 100 * ((s.level z).lastReading.getD 0 + (s.level z).staleTime) ≤ s.clock)
    (hbase : s.clock / 100 ≤ Config.timeBaseEnd) :
    exec (.staleTimeExpiry z) s = .next (s.modLevel z fun l => { l with stale := true }) := by
  have hcomes : ¬Config.timeBaseEnd < (s.level z).lastReading.getD 0 + (s.level z).staleTime := by omega
  have hpoint : (s.level z).stalePoint = some ((s.level z).lastReading.getD 0 + (s.level z).staleTime) := by
    simp only [LevelState.stalePoint, hstale, decide_eq_false hcomes, Bool.or_self, Bool.false_eq_true, if_false]
  refine congrArg Host.Outcome.next ((whenRunning_running hrun _).trans ?_)
  simp only [hpoint, elapseTo_past hdue]

/-! ## ZONE-SET (R148) -/

/-- The record that a taken ZONE-SET leaves. -/
def ZoneSetOp.record (o : ZoneSetOp) (now : Nat) (l : LevelState) : LevelState :=
  { l with
    initialNoise := max 60 (min o.initialNoise 260), floor := max 80 (min o.floor 200)
    ceiling := max 140 (min o.ceiling 250), minCode := min o.minCode 144, maxCode := min o.maxCode 144
    riseFactor := max 1 (min o.riseFactor 64), fallFactor := max 1 (min o.fallFactor 64)
    staleTime := max 50 (min o.staleTime 3000)
    noise := if o.reseed = 1 ∨ l.seeded = false then 8 * ((max 60 (min o.initialNoise 260) : Nat) : Int) else l.noise
    seeded := l.seeded && o.reseed = 0
    stale := l.stale || l.lastReading.getD 0 + max 50 (min o.staleTime 3000) ≤ now }

theorem ZoneSetOp.write_eq (h : o.reseed ≤ 1) (now : Nat) (l : LevelState) :
    o.write (decide (o.reseed = 1)) now l = o.record now l := by
  have hseeds : (decide (o.reseed = 1) || !l.seeded) = true ↔ o.reseed = 1 ∨ l.seeded = false := by simp
  have hflag : decide (o.reseed = 0) = !decide (o.reseed = 1) := by
    rw [← decide_not, decide_eq_decide]; omega
  simp only [ZoneSetOp.write, ZoneSetOp.record, LevelState.staleAt, hseeds, hflag,
    clamp_eq (show 60 ≤ 260 by decide), clamp_eq (show 80 ≤ 200 by decide), clamp_eq (show 140 ≤ 250 by decide),
    clamp_eq (show 0 ≤ 144 by decide), clamp_eq (show 1 ≤ 64 by decide), clamp_eq (show 50 ≤ 3000 by decide),
    Nat.zero_max]
  by_cases hnew : o.reseed = 1 ∨ l.seeded = false
  · have hunseeded : (l.seeded && !decide (o.reseed = 1)) = false := by
      obtain h1 | h1 := hnew <;> simp [h1]
    simp only [hnew, if_true, hunseeded]
  · obtain ⟨hkeep, hseeded⟩ := not_or.1 hnew
    simp only [hkeep, hseeded, reduceCtorEq, or_self, if_false, decide_false, Bool.not_false, Bool.and_true]

/-- The zone's record as a taken ZONE-SET leaves it, and everything else as it was. -/
def State.zoneWritten (s : State) (o : ZoneSetOp) : State := s.modLevel o.zone (o.record s.now)

theorem zoneSet_answers (o : ZoneSetOp) (s : State) :
    zoneSet o s = if 63 < o.zone ∨ 1 < o.reseed then (s, .refused .outOfRange)
      else (reclamp o.zone (s.zoneWritten o), .ok) := by
  by_cases hreseed : 1 < o.reseed
  · simp only [zoneSet, readFlag_eq, hreseed, or_true, if_true]
  · have hwrite : o.write (decide (o.reseed = 1)) s.now = o.record s.now :=
      funext (ZoneSetOp.write_eq (Nat.not_lt.1 hreseed) s.now)
    simp only [zoneSet, readFlag_eq, hreseed, or_false, if_false, hwrite]
    rfl

theorem routine_silent (h : (s.zone z).state = .idle ∨ ∃ q r, (s.zone z).state = .closing q r) :
    s.routine z = false := by
  obtain h | ⟨q, r, h⟩ := h <;> simp only [State.routine, h]

/-- A zone that sounds for a page is routine unless the page is of class EMERGENCY. -/
theorem routine_sounding (h : (s.zone z).state = .opening q ∨ (s.zone z).state = .live q)
    (hp : s.page? q = some p) : s.routine z = !decide (p.cls = .emergency) := by
  obtain h | h := h <;> simp [State.routine, State.emergencyOwned, h, ZoneState.owner, hp]

theorem reclamp_keeps (h : s.routine z = false ∨
    limitCode (s.level z).minCode (s.level z).maxCode (s.amp z).commanded.gain = (s.amp z).commanded.gain) :
    reclamp z s = s := by
  obtain h | h := h <;> simp [reclamp, h]

/-- The clamped code is handed over: its delivery is pending, and an exchange in flight no longer confirms it. -/
def State.codeHandedOver (s : State) (z code : Nat) : State :=
  { s.modAmp z fun a => { a with commanded := { a.commanded with gain := code }, deliveryPending := true } with
    exchange := s.exchange.map fun e => if e.zone = z then { e with superseded := true } else e }

theorem handOver_code {code : Nat} (h : code ≠ (s.amp z).commanded.gain) :
    handOver z { (s.amp z).commanded with gain := code } false s = s.codeHandedOver z code := by
  have hchanged : ({ (s.amp z).commanded with gain := code } : Commanded) ≠ (s.amp z).commanded :=
    fun heq => h (congrArg Commanded.gain heq)
  have hmark : (s.modAmp z fun a => { a with
        commanded := { (s.amp z).commanded with gain := code }, deliveryPending := true
        emergencyMark := a.emergencyMark || false }) =
      s.modAmp z fun a => { a with commanded := { a.commanded with gain := code }, deliveryPending := true } :=
    modAmp_congr (by simp only [Bool.or_false])
  simp only [handOver, hchanged, if_false, hmark]
  rfl

theorem reclamp_clamps {code : Nat} (hroutine : s.routine z = true)
    (hcode : limitCode (s.level z).minCode (s.level z).maxCode (s.amp z).commanded.gain = code)
    (h : code ≠ (s.amp z).commanded.gain) :
    reclamp z s = (s.modLevel z fun l => { l with limited := true }).codeHandedOver z code := by
  have hclamps : (s.routine z && limitCode (s.level z).minCode (s.level z).maxCode (s.amp z).commanded.gain ≠
      (s.amp z).commanded.gain) = true := by simp [hroutine, hcode, h]
  rw [reclamp, if_pos hclamps, hcode]
  exact handOver_code (s := s.modLevel z fun l => { l with limited := true }) h

/-- The code that the new limits allow for the commanded one (R148). -/
theorem limitCode_zoneWritten (hz : o.zone ≤ 63) (gain : Nat) :
    limitCode ((s.zoneWritten o).level o.zone).minCode ((s.zoneWritten o).level o.zone).maxCode gain =
      limitCode (min o.minCode 144) (min o.maxCode 144) gain := by
  rw [State.zoneWritten, level_modLevel, if_pos ⟨rfl, by omega⟩]
  rfl

theorem exec_zoneSet_answers {tag : Byte} {payload : List Byte} (hr : ZoneSetOp.read payload = some o)
    (ht : s.Takes ⟨0x15, tag, payload⟩) : exec (.zoneSet tag payload) s = .next
      (if 63 < o.zone ∨ 1 < o.reseed then refusedWith ⟨0x15, tag, payload⟩ .outOfRange s
        else answered ⟨0x15, tag, payload⟩ .ok .nothing (reclamp o.zone (s.zoneWritten o))) := by
  refine congrArg Host.Outcome.next ((takeKind_takes ht hr _).trans ?_)
  rw [zoneSet_answers, answered_ite]
  rfl

/-! ## LEVEL-QUERY (R155) -/

theorem exec_levelQuery_answers {tag : Byte} {payload : List Byte} (hr : readNumber1 payload = some z)
    (ht : s.Takes ⟨0x17, tag, payload⟩) : exec (.levelQuery tag payload) s = .next
      (if 63 < z then refusedWith ⟨0x17, tag, payload⟩ .outOfRange s
        else answered ⟨0x17, tag, payload⟩ .ok (.level (s.levelReport z))
          (s.modLevel z fun l => { l with limited := false })) := by
  refine congrArg Host.Outcome.next ((takeKind_takes ht hr _).trans ?_)
  rw [levelQuery, answered_ite]
  rfl

/-- Settles O52: the stale time, then the two requests, each by what it answers. -/
theorem levelUnitCommands : Obligations.LevelUnitCommands := by
  refine ⟨fun z s hrun _ hstale hdue hbase => exec_staleTimeExpiry_due hrun hstale hdue hbase,
    fun tag p o s hr ht => ⟨fun hrange => ?_, fun hz hreseed => ?_⟩,
    fun tag p z s hr ht => ⟨fun hrange => ?_, fun hz => ?_⟩⟩
  · rw [exec_zoneSet_answers hr ht, if_pos hrange]
  · intro initial staleTime written done low high gain code
    have hunlimited : written false = s.zoneWritten o := by
      simp only [written, Bool.or_false]
      rfl
    have hlimited : written true = (s.zoneWritten o).modLevel o.zone fun l => { l with limited := true } := by
      rw [State.zoneWritten, modLevel_modLevel]
      simp only [written, Bool.or_true]
      rfl
    have hcode : limitCode ((s.zoneWritten o).level o.zone).minCode ((s.zoneWritten o).level o.zone).maxCode gain =
        code := (limitCode_zoneWritten hz gain).trans (limitCode_eq low high gain)
    have hdone : ∀ t, reclamp o.zone (s.zoneWritten o) = t → done t := fun t h => by
      simp only [done]
      rw [exec_zoneSet_answers hr ht, if_neg (by omega), h]
    have hkeeps : ∀ h, done (written false) := fun h => hdone _ ((reclamp_keeps h).trans hunlimited.symm)
    refine ⟨fun hsilent => hkeeps (.inl (routine_silent hsilent)), fun q r hsounds hpage => ?_⟩
    have hroutine : (s.zoneWritten o).routine o.zone = !decide (r.cls = .emergency) := routine_sounding hsounds hpage
    refine ⟨fun hcls => hkeeps (.inl (by simp [hroutine, hcls])), fun _ hsame => hkeeps (.inr (hcode.trans hsame)),
      fun hcls hmoved => hdone _ ?_⟩
    rw [hlimited]
    exact reclamp_clamps (by simp [hroutine, hcls]) hcode hmoved
  · rw [exec_levelQuery_answers hr ht, if_pos hrange]
  · rw [exec_levelQuery_answers hr ht, if_neg (by omega)]
    rfl

end Sys2Proof.Machine
end

section
/-! PROOF. Which commands leave the map unit alone: every one but the start-ups, the losses of power and reset, and the
requests and the expiry that are about the map changes the arm latch at most (R165). -/

namespace Sys2Proof.Machine

variable {s : State} {m : MapUnit}

/-- The state has this map unit. -/
def HasMap (m : MapUnit) (s : State) : Prop := s.map = m

/-- No primitive change of the blocks touches the map unit. -/
theorem hasMap_steady (m : MapUnit) : Steady (HasMap m) where
  modExt _ _ _ h := h
  modGroup _ _ _ h := h
  modOrbit _ _ _ h := h
  modCall _ _ _ h := h
  freeCall _ _ h := h
  setPages _ _ h := h
  setIds _ _ _ h := h
  modZone _ _ _ h := h
  modAmp _ _ _ h := h
  limit _ _ h := h
  modInput _ _ _ h := h
  emit _ _ h := h
  keep _ _ h := h
  freezeTrace _ h := h
  setOverride _ _ h := h
  setCovered _ _ h := h
  setExchange _ _ _ h := h

/-! ## Lines, calls, groups and rosters -/

theorem applyLine_hasMap (x : Nat) (st : LineState) (h : HasMap m s) : HasMap m (applyLine x st s) := by
  have hS := hasMap_steady m
  have hline := hS.modExt s x (fun r => { r with line := st }) h
  have hring : HasMap m (match (s.ext x).ringing with
      | none => s.modExt x fun r => { r with line := st }
      | some c => if st = .idle then s.modExt x fun r => { r with line := st }
        else withdrawRing x c (s.modExt x fun r => { r with line := st })) := by
    split
    · exact hline
    · exact ite_steady hline (withdrawRing_steady hS _ _ hline)
  refine ite_steady (arbitrate_steady hS _ (releasingHolds_steady hS ?_)) (releasingHolds_steady hS ?_)
  all_goals exact ite_steady hring (endPagesOf_steady hS _ hring)

theorem lineReport_hasMap (o : LineReportOp) (h : HasMap m s) : HasMap m (lineReport o s).1 := by
  unfold lineReport
  repeat' split
  · exact h
  · exact h
  · exact applyLine_hasMap _ _ h

theorem directRing_hasMap (o : DirectRingOp) (h : HasMap m s) : HasMap m (directRing o s).1 := by
  unfold directRing
  dsimp only
  repeat' split
  iterate 4 exact h
  exact placeMark_steady (hasMap_steady m) _ _ _ h

theorem callAnswer_hasMap (o : CallAnswerOp) (h : HasMap m s) : HasMap m (callAnswer o s).1 := by
  unfold callAnswer
  repeat' split
  iterate 3 exact h
  exact connectCall_steady (hasMap_steady m) _ _ _ _ h

theorem callGone_hasMap (c : Nat) (h : HasMap m s) : HasMap m (callGone c s).1 := by
  unfold callGone
  repeat' split
  iterate 2 exact h
  exact endCall_steady (hasMap_steady m) _ h

theorem groupSet_hasMap (o : GroupSetOp) (h : HasMap m s) : HasMap m (groupSet o s).1 := by
  have hS := hasMap_steady m
  unfold groupSet
  dsimp only
  repeat' split
  iterate 3 exact h
  have hflag := fun f (a b : Bool) =>
    have hwritten := hS.modGroup s o.group (o.write f) h
    ite_steady (c := a) (forceGroup_steady hS o.group hwritten)
      (ite_steady (c := b) (recomputeGroup_steady hS o.group hwritten) hwritten)
  exact ite_steady (service_steady hS _ (hflag _ _ _)) (hflag _ _ _)

theorem applyMembers_hasMap (o : MembersSetOp) (h : HasMap m s) : HasMap m (applyMembers o s) := by
  have hS := hasMap_steady m
  have hreplaced (gone added : List Nat) : HasMap m (replaceMembers o gone added s) :=
    foldl_steady (fun _ _ h => hS.modCall _ _ _ h) _ _ (foldl_steady (fun _ _ h => hS.modExt _ _ _ h) _ _
      (foldl_steady (fun _ _ h => hS.modExt _ _ _ h) _ _ (hS.modGroup _ _ _ h)))
  have hlost (l : List Nat) {s : State} (h : HasMap m s) :
      HasMap m (l.foldl (fun s x => loseOffer o.group x s) s) :=
    foldl_steady (fun s x h => by
      unfold loseOffer
      split
      · exact h
      · exact clearMark_steady hS _ _ _ h) l s h
  have hadvanced (l : List Nat) {s : State} (h : HasMap m s) :
      HasMap m (l.foldl (fun s c => advanceUnrung o.group c s) s) :=
    foldl_steady (fun _ _ h => ite_steady (advance_steady hS _ _ (hS.modCall _ _ _ h)) h) l s h
  unfold applyMembers
  dsimp only
  refine arbitrateAll_steady hS _ ?_
  refine ite_steady (service_steady hS _ (ite_steady (notify_steady hS _ ?_) ?_))
    (ite_steady (notify_steady hS _ ?_) ?_)
  all_goals exact hadvanced _ (hlost _ (hreplaced _ _))

theorem membersSet_hasMap (o : MembersSetOp) (h : HasMap m s) : HasMap m (membersSet o s).1 := by
  unfold membersSet
  dsimp only
  repeat' split
  iterate 4 exact h
  exact applyMembers_hasMap o h

theorem presenceStage_hasMap (o : PresenceStageOp) (h : HasMap m s) : HasMap m (presenceStage o s).1 := by
  unfold presenceStage
  dsimp only
  repeat' split
  iterate 5 exact h
  exact foldl_steady (fun _ _ h => modMember_steady (hasMap_steady m) _ _ _ h) _ _ h

theorem rosterCommit_hasMap (g : Nat) (h : HasMap m s) : HasMap m (rosterCommit g s).1 := by
  have hS := hasMap_steady m
  have hmember {s : State} (x : Nat) (h : HasMap m s) : HasMap m (commitMember g x s) := by
    unfold commitMember
    split
    · exact h
    · exact ite_steady (modMember_steady hS _ _ _ h) (applyStaged_steady hS _ _ h)
  have hmembers (l : List Membership) : HasMap m (l.foldl (fun s m => commitMember g m.ext s) s) :=
    foldl_steady (fun _ _ h => hmember _ h) _ _ h
  unfold rosterCommit
  repeat' split
  iterate 2 exact h
  exact ite_steady (service_steady hS _ (ite_steady (hS.modGroup _ _ _ (hmembers _)) (hmembers _)))
    (ite_steady (hS.modGroup _ _ _ (hmembers _)) (hmembers _))

theorem rosterQuery_hasMap (o : RosterQueryOp) (h : HasMap m s) : HasMap m (rosterQuery o s).1 := by
  unfold rosterQuery
  split <;> exact h

/-! ## Call distribution, pickup and orbits -/

theorem callArrive_hasMap (o : CallArriveOp) (h : HasMap m s) : HasMap m (callArrive o s).1 := by
  have hS := hasMap_steady m
  have hplaced {s : State} (c g : Nat) (h : HasMap m s) : HasMap m (placeArrival c g s) :=
    ite_steady (divertCall_steady hS _ _ _ _ h) (ite_steady (enterGroup_steady hS _ _ h) (overflowFrom_steady hS _ _ h))
  unfold callArrive
  repeat' split
  iterate 3 exact h
  exact hplaced _ _ h

theorem endUnanswered_hasMap (k : CallContext) (h : HasMap m s) : HasMap m (endUnanswered k s) := by
  have hS := hasMap_steady m
  exact arbitrateAll_steady hS _ (advance_steady hS _ _ (hS.modCall _ _ _
    (foldl_steady (fun _ _ h => offerRecord_steady hS _ h) _ _ (clearOffer_steady hS _ _ h))))

theorem endWait_hasMap (k : CallContext) (h : HasMap m s) : HasMap m (endWait k s) := by
  have hS := hasMap_steady m
  have hcleared := hS.modCall _ k.ref (fun k => { k with noAnswerDue := none, maxWaitDue := none })
    (clearOffer_steady hS k .overflowed h)
  exact arbitrateAll_steady hS _ (ite_steady (overflowFrom_steady hS _ _ hcleared)
    (divertCall_steady hS _ _ _ _ (leaveForOverflow_steady hS _ hcleared)))

theorem placeAutoPage_hasMap (g n : Nat) (h : HasMap m s) : HasMap m (placeAutoPage g n s) := by
  unfold placeAutoPage
  dsimp only
  split
  · exact releasingHolds_steady (hasMap_steady m) (admitPage_steady (hasMap_steady m) _ h)
  · exact h

theorem pickupAsk_hasMap (o : PickupAskOp) (h : HasMap m s) : HasMap m (pickupAsk o s).1 := by
  have hpicked (k : CallContext) (x y : Nat) (b : Bool) : HasMap m (pickUp k x y b s).1 :=
    connectCall_steady (hasMap_steady m) _ _ _ _ h
  have hdirected (x y : Nat) (c : Option Nat) : HasMap m (directedPickup x y c s).1 := by
    unfold directedPickup
    repeat' split
    iterate 3 exact h
    exact hpicked _ _ _ _
  have hgroup (x : Nat) : HasMap m (groupPickup x s).1 := by
    unfold groupPickup
    repeat' split
    iterate 2 exact h
    exact hpicked _ _ _ _
  unfold pickupAsk
  dsimp only
  repeat' split
  · exact h
  · exact h
  · exact hdirected _ _ _
  · exact hgroup _

theorem extSet_hasMap (o : ExtSetOp) (h : HasMap m s) : HasMap m (extSet o s).1 := by
  unfold extSet
  split <;> exact h

theorem park_hasMap (k : CallContext) (p o : Nat) (asked : Bool) (h : HasMap m s) :
    HasMap m (park k p o asked s).1 := by
  have hS := hasMap_steady m
  have hannounced {s : State} (h : HasMap m s) : HasMap m (announce o p asked s).1 := by
    unfold announce
    dsimp only
    repeat' split
    iterate 3 exact h
    exact releasingHolds_steady hS (admitPage_steady hS _ h)
  exact offerRecord_steady hS _ (hannounced (hS.modOrbit _ _ _ (direct_steady hS _ (hS.modExt _ _ _
    (hS.modCall _ _ _ (hS.modOrbit _ _ _ h))))))

theorem parkAsk_hasMap (o : ParkAskOp) (h : HasMap m s) : HasMap m (parkAsk o s).1 := by
  unfold parkAsk
  repeat' split
  iterate 5 exact h
  · exact park_hasMap _ _ _ _ h
  · exact h
  · exact park_hasMap _ _ _ _ h

theorem orbitSet_hasMap (o : OrbitSetOp) (h : HasMap m s) : HasMap m (orbitSet o s).1 := by
  unfold orbitSet
  repeat' split
  all_goals exact h

theorem endPark_hasMap (o : Nat) (h : HasMap m s) : HasMap m (endPark o s) := by
  have hS := hasMap_steady m
  unfold endPark
  split
  · exact ite_steady (hS.modOrbit _ _ _ (placeMark_steady hS _ _ _ (hS.modCall _ _ _ (hS.modOrbit _ _ _ h))))
      (releasingHolds_steady hS (sendToRecallGroup_steady hS _ h))
  · exact h

theorem endRecall_hasMap (o : Nat) (h : HasMap m s) : HasMap m (endRecall o s) := by
  have hS := hasMap_steady m
  unfold endRecall
  split
  · exact arbitrate_steady hS _
      (releasingHolds_steady hS (sendToRecallGroup_steady hS _ (clearMark_steady hS _ _ _ h)))
  · exact h

theorem retrieveAsk_hasMap (o : RetrieveAskOp) (h : HasMap m s) : HasMap m (retrieveAsk o s).1 := by
  unfold retrieveAsk
  repeat' split
  iterate 4 exact h
  exact connectCall_steady (hasMap_steady m) _ _ _ _ h

/-! ## Pages, zones and levels -/

theorem pageAsk_hasMap (o : PageAskOp) (h : HasMap m s) : HasMap m (pageAsk o s).1 := by
  unfold pageAsk
  dsimp only
  repeat' split
  iterate 2 exact h
  · exact releasingHolds_steady (hasMap_steady m) (admitPage_steady (hasMap_steady m) _ h)
  · exact h

theorem pageStop_hasMap (p : Nat) (h : HasMap m s) : HasMap m (pageStop p s).1 := by
  unfold pageStop
  repeat' split
  iterate 3 exact h
  exact releasingHolds_steady (hasMap_steady m) (endPage_steady (hasMap_steady m) _ _ h)

theorem guardReading_hasMap (e : Exchange) (r : Byte) (h : HasMap m s) : HasMap m (guardReading e r s) :=
  ite_steady (ite_steady h h) h

theorem goodReply_hasMap (e : Exchange) (r : Byte) (h : HasMap m s) : HasMap m (goodReply e r s) := by
  have hS := hasMap_steady m
  unfold goodReply
  split
  · exact guardReading_hasMap _ _ (ite_steady h h)
  · exact releasingHolds_steady hS (schedule_steady hS (guardReading_hasMap _ _ h))

theorem missedReply_hasMap (z : Nat) (h : HasMap m s) : HasMap m (missedReply z s) :=
  ite_steady h (ite_steady h h)

theorem faultReply_hasMap (z : Nat) (c : FaultCause) (h : HasMap m s) : HasMap m (faultReply z c s) :=
  (hasMap_steady m).modAmp _ _ _ (ite_steady h h)

theorem endExchange_hasMap (e : Exchange) (o : ExchangeOutcome) (r : Byte) (h : HasMap m s) :
    HasMap m (endExchange e o r s) := by
  refine startExchange_steady (hasMap_steady m) (ite_steady h ?_)
  split
  · exact missedReply_hasMap _ h
  · exact missedReply_hasMap _ h
  · exact faultReply_hasMap _ _ h
  · exact goodReply_hasMap _ _ h

theorem zoneSet_hasMap (o : ZoneSetOp) (h : HasMap m s) : HasMap m (zoneSet o s).1 := by
  unfold zoneSet
  repeat' split
  iterate 2 exact h
  exact ite_steady (handOver_steady (hasMap_steady m) _ _ _ h) h

theorem levelQuery_hasMap (z : Nat) (h : HasMap m s) : HasMap m (levelQuery z s).1 := by
  unfold levelQuery
  split <;> exact h

/-! ## Alarm inputs and the trace -/

theorem activate_hasMap (i : Nat) (h : HasMap m s) : HasMap m (activate i s) := by
  have hS := hasMap_steady m
  have hplaced {s : State} (h : HasMap m s) := releasingHolds_steady hS (placeAlarmPage_steady hS i h)
  have hmuster := musterActivation_steady hS (s := notify (.alarmChange i true (s.meaning i).mode) (s.modInput i
    fun r => { r with active := true, latchedMode := (s.meaning i).mode, latchedSet := (s.meaning i).zones })) h
  unfold activate
  dsimp only
  split
  · exact h
  · exact hplaced h
  · exact hplaced h
  · exact hplaced (ite_steady hmuster (startOverride_steady hS hmuster))

theorem clearAlarm_hasMap (i : Nat) (h : HasMap m s) : HasMap m (clearAlarm i s) := by
  have hS := hasMap_steady m
  unfold clearAlarm
  dsimp only
  cases (s.input i).page with
  | none => exact ite_steady (endOverride_steady hS h) h
  | some p =>
    have hended := hS.modInput _ i (fun r => { r with page := none }) (releasingHolds_steady hS
      (endPage_steady hS p .alarmCleared (s := notify (.alarmChange i false (s.input i).latchedMode)
        (s.modInput i fun r => { r with active := false, placementPending := false })) h))
    exact ite_steady (endOverride_steady hS hended) hended

theorem settle_hasMap (i : Nat) (h : HasMap m s) : HasMap m (settle i s) :=
  ite_steady (activate_hasMap _ h) (clearAlarm_hasMap _ h)

theorem traceSet_hasMap (o : TraceSetOp) (h : HasMap m s) : HasMap m (traceSet o s).1 := by
  have hdepth (n : Nat) : HasMap m (selectDepth n s) := ite_steady h h
  have hcontrol {s : State} (c : Option Nat) (h : HasMap m s) : HasMap m (freezeControl c s) := by
    unfold freezeControl
    split
    · exact h
    · exact ite_steady (freeze_steady (hasMap_steady m) _ h) h
  unfold traceSet
  dsimp only
  repeat' split
  · exact h
  · exact hcontrol _ (hdepth _)
  · exact h

/-! ## The setting requests -/

theorem fallbackSet_hasMap (code : Option Nat) (h : HasMap m s) : HasMap m (fallbackSet code s).1 := by
  unfold fallbackSet
  split <;> exact h

theorem pickgroupSet_hasMap (o : PickgroupSetOp) (h : HasMap m s) : HasMap m (pickgroupSet o s).1 := by
  unfold pickgroupSet
  repeat' split
  all_goals exact h

theorem zonesetSet_hasMap (o : ZoneSetSetOp) (h : HasMap m s) : HasMap m (zonesetSet o s).1 := by
  unfold zonesetSet
  split
  · exact h
  · exact releasingHolds_steady (hasMap_steady m) h

/-! ## Frames and time -/

theorem receiveByte_hasMap (b : Byte) (h : HasMap m s) : HasMap m (receiveByte b s) := by
  have hrejected {s : State} (b : Bool) (h : HasMap m s) : HasMap m (rejectFrame b s) := ite_steady h h
  have hsought : HasMap m (seekStart b s) := ite_steady h h
  have hjudged {s : State} (bytes : List Byte) (h : HasMap m s) : HasMap m (judgeFrame bytes s) := by
    unfold judgeFrame
    dsimp only
    repeat' split
    · exact ite_steady h (ite_steady h h)
    · exact hrejected _ h
    · exact hrejected _ h
  unfold receiveByte
  dsimp only
  repeat' split
  · exact h
  · exact hsought
  · exact hsought
  · exact hrejected _ h
  · exact hjudged _ h
  · exact h

theorem elapse_hasMap (ms : Nat) (h : HasMap m s) : HasMap m (elapse ms s) := by
  unfold elapse
  dsimp only
  split <;> exact h

theorem atExpiry_hasMap (due : Option Nat) {k : State → State} (hk : ∀ s, HasMap m s → HasMap m (k s))
    (h : HasMap m s) : HasMap m (atExpiry due k s) := by
  cases due with
  | none => exact h
  | some t => exact hk _ (elapse_hasMap _ h)

end Sys2Proof.Machine
end

section
/-! PROOF. What guards the active map, the lock latch and the range hold against every command (R165, R167, R169,
R171). -/

namespace Sys2Proof.Machine

variable {s t : State} {c : Instr}

/-- The commands that are about the map unit, start the part up or stop it. -/
def Instr.touchesMap : Instr → Bool
  | .powerOn _ | .pinReset _ | .linkReset _ | .resetLineAsserted | .powerLoss => true
  | .mapRead _ _ _ | .mapWrite _ _ _ | .mapProtect _ _ _ | .mapWriteComplete _ => true
  | .excludeSet _ _ | .rangeHold _ _ => true
  | _ => false

/-! ## The arm latch (R165) -/

/-- What a taken request says of the map unit, answering it keeps, for all that answering moves is the arm latch. -/
theorem takeRequest_map {Q : MapUnit → Prop} (hQ : ∀ m b, Q m → Q { m with armed := b }) (f : Frame)
    {owner : State → State × Answer} (ho : ∀ s, Q s.map → Q (owner s).1.map) (h : Q s.map) :
    Q (takeRequest f owner s).map := by
  have hstands : Q (standInQueue f s).map := ite_steady (P := fun t => Q t.map) h h
  unfold takeRequest
  refine ite_steady (P := fun t => Q t.map) h (ite_steady (P := fun t => Q t.map) ?_ hstands)
  exact hQ _ _ (ho _ hstands)

theorem takeKind_map {Q : MapUnit → Prop} (hQ : ∀ m b, Q m → Q { m with armed := b }) {α : Type}
    (kind tag : Byte) (payload : List Byte) (read : List Byte → Option α) {owner : α → State → State × Answer}
    (ho : ∀ o s, Q s.map → Q (owner o s).1.map) (h : Q s.map) : Q (takeKind kind tag payload read owner s).map := by
  refine takeRequest_map hQ _ (fun s h => ?_) h
  split
  · exact h
  · exact ho _ _ h

/-- The map unit differs in the arm latch at most (R165). -/
def MapUnit.ArmedFrom (m n : MapUnit) : Prop := ∃ b, n = { m with armed := b }

theorem armedFrom_setArmed (m n : MapUnit) (b : Bool) (h : m.ArmedFrom n) : m.ArmedFrom { n with armed := b } := by
  obtain ⟨_, rfl⟩ := h
  exact ⟨b, rfl⟩

/-- A request whose owner leaves the map unit alone. -/
theorem takeKind_armedFrom {α : Type} (kind tag : Byte) (payload : List Byte) (read : List Byte → Option α)
    {owner : α → State → State × Answer} (ho : ∀ o s m, HasMap m s → HasMap m (owner o s).1) :
    s.map.ArmedFrom (takeKind kind tag payload read owner s).map :=
  takeKind_map (armedFrom_setArmed s.map) _ _ _ _ (fun o u h => (ho o u _ rfl : _ = _) ▸ h) ⟨s.map.armed, rfl⟩

/-- A command that is not about the map unit changes the arm latch at most. -/
theorem exec_armedFrom (he : exec c s = .next t) (hc : Instr.touchesMap c = false) : s.map.ArmedFrom t.map := by
  have hasked {u : State} (hu : s.map.ArmedFrom u.map)
      (hut : (Host.Outcome.next u : Host.Outcome State Fault Refusal) = .next t) : s.map.ArmedFrom t.map := by
    injection hut with hut
    exact hut ▸ hu
  have hmet {k : State → State} (hk : ∀ u m, HasMap m u → HasMap m (k u))
      (hut : (Host.Outcome.next (whenRunning k s) : Host.Outcome State Fault Refusal) = .next t) :
      s.map.ArmedFrom t.map :=
    hasked ⟨s.map.armed, whenRunning_loose (fun u => hk u s.map) (rfl : HasMap s.map s)⟩ hut
  have hexpired {due : State → Option Nat} {k : State → State} (hk : ∀ u m, HasMap m u → HasMap m (k u)) :
      ∀ u m, HasMap m u → HasMap m (atExpiry (due u) k u) :=
    fun u m => atExpiry_hasMap _ fun u => hk u m
  cases c with
  | powerOn _ | pinReset _ | linkReset _ | resetLineAsserted | powerLoss => cases hc
  | mapRead _ _ _ | mapWrite _ _ _ | mapProtect _ _ _ | mapWriteComplete _ => cases hc
  | excludeSet _ _ | rangeHold _ _ => cases hc
  | frameReceive k tag p => exact hmet (fun _ _ h => foldl_steady (fun _ _ h => receiveByte_hasMap _ h) _ _ h) he
  | frameError l => exact hmet (fun _ _ h => foldl_steady (fun _ _ h => receiveByte_hasMap _ h) _ _ h) he
  | receiveGapTimeout =>
    refine hmet (fun u m h => ?_) he
    split
    · exact h
    · exact h
    · exact elapse_hasMap _ h
  | outputDepart => exact hmet (k := fun u => { u with link := u.link.depart }) (fun _ _ h => h) he
  | unknownKind k tag p =>
    refine hasked (ite_steady (P := fun u => s.map.ArmedFrom u.map) ⟨s.map.armed, rfl⟩ ?_) he
    exact takeRequest_map (armedFrom_setArmed s.map) _ (fun _ h => h) ⟨s.map.armed, rfl⟩
  | lineReport tag p => exact hasked (takeKind_armedFrom _ _ _ _ fun _ _ _ => lineReport_hasMap _) he
  | directRing tag p => exact hasked (takeKind_armedFrom _ _ _ _ fun _ _ _ => directRing_hasMap _) he
  | callAnswer tag p => exact hasked (takeKind_armedFrom _ _ _ _ fun _ _ _ => callAnswer_hasMap _) he
  | callGone tag p => exact hasked (takeKind_armedFrom _ _ _ _ fun _ _ _ => callGone_hasMap _) he
  | callQuery tag p => exact hasked (takeKind_armedFrom _ _ _ _ fun _ _ _ => callQuery_loose _) he
  | groupSet tag p => exact hasked (takeKind_armedFrom _ _ _ _ fun _ _ _ => groupSet_hasMap _) he
  | membersSet tag p => exact hasked (takeKind_armedFrom _ _ _ _ fun _ _ _ => membersSet_hasMap _) he
  | presenceStage tag p => exact hasked (takeKind_armedFrom _ _ _ _ fun _ _ _ => presenceStage_hasMap _) he
  | rosterCommit tag p => exact hasked (takeKind_armedFrom _ _ _ _ fun _ _ _ => rosterCommit_hasMap _) he
  | rosterQuery tag p => exact hasked (takeKind_armedFrom _ _ _ _ fun _ _ _ => rosterQuery_hasMap _) he
  | callArrive tag p => exact hasked (takeKind_armedFrom _ _ _ _ fun _ _ _ => callArrive_hasMap _) he
  | noAnswerExpiry k =>
    refine hmet (fun u m h => ?_) he
    split
    · exact h
    · exact atExpiry_hasMap _ (fun _ => endUnanswered_hasMap _) h
  | maximumWaitExpiry k =>
    refine hmet (fun u m h => ?_) he
    split
    · exact h
    · exact atExpiry_hasMap _ (fun _ => endWait_hasMap _) h
  | fallbackSet tag p => exact hasked (takeKind_armedFrom _ _ _ _ fun _ _ _ => fallbackSet_hasMap _) he
  | autoPageDue g =>
    refine hmet (fun u m h => ?_) he
    split
    · exact h
    · exact placeAutoPage_hasMap _ _ (elapse_hasMap _ h)
  | pickupAsk tag p => exact hasked (takeKind_armedFrom _ _ _ _ fun _ _ _ => pickupAsk_hasMap _) he
  | pickgroupSet tag p => exact hasked (takeKind_armedFrom _ _ _ _ fun _ _ _ => pickgroupSet_hasMap _) he
  | extSet tag p => exact hasked (takeKind_armedFrom _ _ _ _ fun _ _ _ => extSet_hasMap _) he
  | parkAsk tag p => exact hasked (takeKind_armedFrom _ _ _ _ fun _ _ _ => parkAsk_hasMap _) he
  | orbitSet tag p => exact hasked (takeKind_armedFrom _ _ _ _ fun _ _ _ => orbitSet_hasMap _) he
  | parkTimerExpiry o => exact hmet (hexpired fun _ _ => endPark_hasMap _) he
  | recallRingExpiry o => exact hmet (hexpired fun _ _ => endRecall_hasMap _) he
  | retrieveAsk tag p => exact hasked (takeKind_armedFrom _ _ _ _ fun _ _ _ => retrieveAsk_hasMap _) he
  | pageAsk tag p => exact hasked (takeKind_armedFrom _ _ _ _ fun _ _ _ => pageAsk_hasMap _) he
  | pageStop tag p => exact hasked (takeKind_armedFrom _ _ _ _ fun _ _ _ => pageStop_hasMap _) he
  | zonesetSet tag p => exact hasked (takeKind_armedFrom _ _ _ _ fun _ _ _ => zonesetSet_hasMap _) he
  | chimeTimerExpiry z => exact hmet (hexpired fun _ m => zoneToLive_steady (hasMap_steady m) _) he
  | hangTimerExpiry z =>
    exact hmet (hexpired fun _ m h =>
      releasingHolds_steady (hasMap_steady m) (endHang_steady (hasMap_steady m) _ h)) he
  | suspensionTimerExpiry p =>
    exact hmet (hexpired fun _ m h =>
      releasingHolds_steady (hasMap_steady m) (endPage_steady (hasMap_steady m) _ _ h)) he
  | durationExpiry p =>
    exact hmet (hexpired fun _ m h =>
      releasingHolds_steady (hasMap_steady m) (endPage_steady (hasMap_steady m) _ _ h)) he
  | zoneReply a r st ap ck =>
    refine hmet (fun u m h => ?_) he
    split
    · exact h
    · split
      · exact h
      · exact endExchange_hasMap _ _ _ h
  | zoneReplyTimeout =>
    refine hmet (fun u m h => ?_) he
    split
    · exact h
    · exact endExchange_hasMap _ _ _ (elapse_hasMap _ h)
  | staleTimeExpiry z =>
    refine hmet (fun u m h => ?_) he
    split
    · exact h
    · exact elapse_hasMap _ h
  | zoneSet tag p => exact hasked (takeKind_armedFrom _ _ _ _ fun _ _ _ => zoneSet_hasMap _) he
  | levelQuery tag p => exact hasked (takeKind_armedFrom _ _ _ _ fun _ _ _ => levelQuery_hasMap _) he
  | alarmLevelChange i b => exact hmet (fun _ m h => (hasMap_steady m).modInput _ _ _ h) he
  | debounceExpiry i => exact hmet (hexpired fun _ _ => settle_hasMap _) he
  | traceSet tag p => exact hasked (takeKind_armedFrom _ _ _ _ fun _ _ _ => traceSet_hasMap _) he
  | traceRead tag p => exact hasked (takeKind_armedFrom _ _ _ _ fun _ _ _ => traceRead_loose _) he
  | pagingSet tag p | mapArm tag p | traceClear tag p | statusQuery tag p | resetPrepare tag p =>
    exact hasked (takeKind_armedFrom _ _ _ _ fun _ _ _ h => h) he
  | resetNow tag p =>
    exact hasked (takeKind_armedFrom _ _ _ _ fun _ _ _ h => by unfold resetNow; split <;> exact h) he

/-! ## The completion of a write (R169) -/

/-- A write that verified leaves the map unit with its contents (R169, R171). -/
theorem map_verified (w : MapWriting) (s : State) : (verified w s).map = s.writtenMap w := by
  have hS := hasMap_steady
  have hmeets : HasMap (s.stored w).map (meetSet s.map.copy.installed w (s.stored w)) :=
    ite_steady rfl (installedSetChange_steady (hS _) _ rfl)
  have hranged : HasMap (s.writtenMap w) (meetRange w (meetSet s.map.copy.installed w (s.stored w))) := by
    generalize meetSet s.map.copy.installed w (s.stored w) = u at hmeets
    have hmap : u.map = (s.stored w).map := hmeets
    have hheld : u.map.rangeHeld = s.map.rangeHeld := by rw [hmap]; rfl
    by_cases hrange : w.byMapWrite = true ∧ s.map.rangeHeld = false
    · rw [meetRange, if_pos (by simpa [hheld] using hrange)]
      refine applyExclusion_steady (hS _) ?_
      simp only [HasMap, State.ranged, hmap, State.writtenMap, if_pos hrange]
      rfl
    · rw [meetRange, if_neg (by simpa [hheld] using hrange)]
      simp only [HasMap, hmap, State.writtenMap, if_neg hrange]
      rfl
  exact startExchange_steady (hS _) (releasingHolds_steady (hS _) (f := fun u =>
    meetRange w (meetSet s.map.copy.installed w u)) hranged)

/-- The end of a write: nothing, the contents in the active copy, or a damaged store (R169). -/
theorem map_mapWriteComplete {verifies : Bool} (he : exec (.mapWriteComplete verifies) s = .next t) :
    t.map = s.map ∨ (verifies = true ∧ ∃ w, t.map = s.writtenMap w) ∨
      t.map = { s.map with store := .damaged, status := .storeInvalid, writing := none } := by
  injection he with he
  rw [← he]
  cases hrun : s.running with
  | false => exact .inl (congrArg State.map (whenRunning_held hrun _))
  | true =>
    rw [whenRunning_running hrun]
    cases hw : s.map.writing with
    | none => exact .inl rfl
    | some w =>
      have hmap : (elapseTo w.due s).map = s.map := elapse_hasMap _ rfl
      cases verifies with
      | true =>
        have hwritten : (elapseTo w.due s).writtenMap w = s.writtenMap w := by simp only [State.writtenMap, hmap]
        exact .inr (.inl ⟨rfl, w, (map_verified w _).trans hwritten⟩)
      | false => exact .inr (.inr (by rw [← hmap]; rfl))

/-! ## What is kept -/

theorem kept_loose (m : MapUnit) : Loose fun t => m.Kept t.map where
  modExt _ _ _ h := h
  modGroup _ _ _ h := h
  modOrbit _ _ _ h := h
  modCall _ _ _ h := h
  freeCall _ _ h := h
  setPages _ _ h := h
  setIds _ _ _ h := h
  modZone _ _ _ h := h
  modAmp _ _ _ h := h
  limit _ _ h := h
  modInput _ _ _ h := h
  emit _ _ h := h
  keep _ _ h := h
  freezeTrace _ h := h
  setOverride _ _ h := h
  setCovered _ _ h := h
  setExchange _ _ _ h := h
  setLink _ _ _ h := h
  setMap _ _ hn h := ⟨hn.copy.trans h.copy, fun hl => hn.locked (h.locked hl), fun hh =>
    have hkept := h.held hh
    have hnow := hn.held hkept.1
    ⟨hnow.1, hnow.2.trans hkept.2⟩⟩
  setTrace _ _ _ h := h
  setLevel _ _ _ _ h := h
  addCall _ _ _ h := h
  setSupply _ _ h := h
  elapse _ s h := (elapse_hasMap _ rfl : (elapse _ s).map = s.map) ▸ h

/-- Every command but a start-up and a write that verifies keeps the active copy, a set lock and a held range. -/
theorem exec_kept (he : exec c s = .next t) (hstart : c.startsUp = false) (hc : c ≠ .mapWriteComplete true) :
    s.map.Kept t.map := by
  cases hmap : Instr.touchesMap c with
  | false =>
    obtain ⟨b, hb⟩ := exec_armedFrom he hmap
    rw [hb]
    exact ⟨rfl, fun h => h, fun h => ⟨h, rfl⟩⟩
  | true =>
    have hkeeps : Instr.keepsLoose c := by
      cases c
      case mapWriteComplete v =>
        cases v
        · trivial
        · exact absurd rfl hc
      all_goals trivial
    exact exec_loose (kept_loose s.map) c hkeeps he ⟨rfl, fun h => h, fun h => ⟨h, rfl⟩⟩

/-- The lock latch and the range hold (R167, R171). -/
def MapUnit.latches (m : MapUnit) : Bool × Bool := (m.locked, m.rangeHeld)

theorem latches_mapWrite (level : Bool) (o : MapWriteOp) (s : State) :
    (mapWrite level o s).1.map.latches = s.map.latches := by
  unfold mapWrite
  dsimp only
  repeat' split
  all_goals rfl

theorem latches_excludeSet (o : ExcludeSetOp) (s : State) : (excludeSet o s).1.map.latches = s.map.latches := by
  have happlied (range : ExclusionRange) :
      (releasingHolds applyExclusion (s.ranged range)).map.latches = s.map.latches := by
    have hmap : HasMap (s.ranged range).map (releasingHolds applyExclusion (s.ranged range)) :=
      releasingHolds_steady (hasMap_steady _) (applyExclusion_steady (hasMap_steady _) rfl)
    rw [hmap]
    rfl
  unfold excludeSet
  dsimp only
  repeat' split
  iterate 3 rfl
  · exact happlied _
  · rfl

theorem rangeHeld_mapProtect (level : Bool) (n : Nat) (s : State) :
    (mapProtect level n s).1.map.rangeHeld = s.map.rangeHeld := by
  unfold mapProtect
  dsimp only
  repeat' split
  all_goals rfl

theorem locked_rangeHold (u : Unit) (s : State) : (rangeHold u s).1.map.locked = s.map.locked := by
  unfold rangeHold
  split <;> rfl

/-- Neither latch is moved but by the request that is there for it, and by a start-up. -/
theorem exec_latches (he : exec c s = .next t) (hstart : c.startsUp = false)
    (hprotect : ∀ e tag p, c ≠ .mapProtect e tag p) (hhold : ∀ tag p, c ≠ .rangeHold tag p) :
    t.map.latches = s.map.latches := by
  cases hmap : Instr.touchesMap c with
  | false =>
    obtain ⟨b, hb⟩ := exec_armedFrom he hmap
    rw [hb]
    rfl
  | true =>
    have hasked {α : Type} {kind tag : Byte} {p : List Byte} {read : List Byte → Option α}
        {owner : α → State → State × Answer} (ho : ∀ o s, (owner o s).1.map.latches = s.map.latches)
        (hut : (Host.Outcome.next (takeKind kind tag p read owner s) : Host.Outcome State Fault Refusal) = .next t) :
        t.map.latches = s.map.latches := by
      injection hut with hut
      exact hut ▸ takeKind_map (Q := fun m => m.latches = s.map.latches) (fun _ _ h => h) _ _ _ _
        (fun o u h => (ho o u).trans h) rfl
    cases c
    case mapRead => exact hasked (fun _ _ => rfl) he
    case mapWrite => exact hasked (latches_mapWrite _) he
    case excludeSet => exact hasked latches_excludeSet he
    case mapWriteComplete =>
      rcases map_mapWriteComplete he with h | ⟨-, w, h⟩ | h <;> rw [h] <;> rfl
    case resetLineAsserted => injection he with he; exact he ▸ rfl
    case powerLoss => injection he with he; exact he ▸ rfl
    case mapProtect => exact absurd rfl (hprotect _ _ _)
    case rangeHold => exact absurd rfl (hhold _ _)
    all_goals contradiction

/-- Settles O7: every command keeps the copy and what is held, and a latch moves by its own request alone. -/
theorem mapIsGuarded : Obligations.MapIsGuarded := by
  intro c s t he hstart
  by_cases hw : c = .mapWriteComplete true
  · have hlatches := exec_latches he hstart (by simp [hw]) (by simp [hw])
    obtain ⟨hlocked, hheld⟩ := Prod.mk.inj hlatches
    refine ⟨fun h => absurd hw h, fun h => hlocked.trans h, fun _ => hlocked, fun h => ⟨hheld.trans h, ?_⟩,
      fun _ => hheld⟩
    rcases map_mapWriteComplete (hw ▸ he) with hmap | ⟨-, w, hmap⟩ | hmap <;> rw [hmap]
    simp [State.writtenMap, h]
  · have hkept := exec_kept he hstart hw
    refine ⟨fun _ => hkept.copy, hkept.locked, fun hprotect => ?_, hkept.held, fun hhold => ?_⟩
    · by_cases hhold : ∃ tag p, c = .rangeHold tag p
      · obtain ⟨tag, p, rfl⟩ := hhold
        injection he with he
        exact he ▸ takeKind_map (Q := fun m => m.locked = s.map.locked) (fun _ _ h => h) _ _ _ _
          (fun o u h => (locked_rangeHold o u).trans h) rfl
      · exact congrArg Prod.fst (exec_latches he hstart hprotect fun tag p h => hhold ⟨tag, p, h⟩)
    · by_cases hprotect : ∃ e tag p, c = .mapProtect e tag p
      · obtain ⟨e, tag, p, rfl⟩ := hprotect
        injection he with he
        exact he ▸ takeKind_map (Q := fun m => m.rangeHeld = s.map.rangeHeld) (fun _ _ h => h) _ _ _ _
          (fun o u h => (rangeHeld_mapProtect e o u).trans h) rfl
      · exact congrArg Prod.snd (exec_latches he hstart (fun e tag p h => hprotect ⟨e, tag, p, h⟩) hhold)

end Sys2Proof.Machine
end

section
/-! PROOF. A part that is stopped, and a part that starts up by link or pin (R156, R163, R168, R193, R194). -/

namespace Sys2Proof.Machine

variable {s t : State} {m : EmergencyMap} {unit : MapUnit} {sample : StartSample} {cause : ResetCause}

/-! ## A part that does not run (log entry 11) -/

theorem takeRequest_held (h : s.running = false) (f : Frame) (owner : State → State × Answer) :
    takeRequest f owner s = s := by simp [takeRequest, State.takesNone, h]

theorem takeKind_held (h : s.running = false) {α : Type} (kind tag : Byte) (payload : List Byte)
    (read : List Byte → Option α) (owner : α → State → State × Answer) :
    takeKind kind tag payload read owner s = s := takeRequest_held h _ _

/-- A part that does not run takes no request and no event, but a reset or a loss of power. -/
theorem exec_held {i : Instr} (h : s.running = false) (hi : i.actsAlways = false) : exec i s = .next s := by
  cases i
  case powerOn | pinReset | resetLineAsserted | powerLoss => cases hi
  case unknownKind kind tag payload =>
    have hheld := takeRequest_held h ⟨kind, tag, payload⟩ fun s => (s, .refused .unknownKind)
    exact congrArg Host.Outcome.next ((congrArg (ite _ s) hheld).trans (ite_self s))
  case linkReset | frameReceive | frameError | receiveGapTimeout | outputDepart | noAnswerExpiry | maximumWaitExpiry
      | autoPageDue | parkTimerExpiry | recallRingExpiry | chimeTimerExpiry | hangTimerExpiry | suspensionTimerExpiry
      | durationExpiry | zoneReply | zoneReplyTimeout | staleTimeExpiry | alarmLevelChange | debounceExpiry
      | mapWriteComplete => exact congrArg Host.Outcome.next (whenRunning_held h _)
  all_goals exact congrArg Host.Outcome.next (takeKind_held h _ _ _ _ _)

theorem abandoned_true (unit : MapUnit) :
    unit.abandoned true = if unit.writing.isSome then .damaged else unit.store := by simp [MapUnit.abandoned]

/-- Settles O18: the reset line and the loss of power stop the part, and a stopped part stays as it is. -/
theorem heldPartDoesNothing : Obligations.HeldPartDoesNothing :=
  ⟨fun s =>
    ⟨⟨_, rfl, Bool.and_false _, rfl, rfl, rfl, rfl, rfl, abandoned_true s.map⟩,
      ⟨_, rfl, Bool.false_and _, rfl, rfl, rfl, rfl, rfl, abandoned_true s.map⟩⟩,
    fun _ _ => exec_held⟩

/-! ## The map unit at a start-up (R163, R168) -/

theorem abandoned_damaged {holds : Bool} (h : unit.store = .damaged ∨ unit.writing ≠ none ∨ holds = false) :
    unit.abandoned holds = .damaged := by
  unfold MapUnit.abandoned
  rcases h with h | h | h
  · simp [h]
  · simp [Option.isSome_iff_ne_none.2 h]
  · simp [h]

theorem abandoned_holds (hw : unit.writing = none) : unit.abandoned true = unit.store := by
  simp [MapUnit.abandoned, hw]

/-- A stop before the start-up changes nothing of what the store still holds. -/
theorem abandoned_stopActivity (s : State) (holds : Bool) :
    (stopActivity s).map.abandoned holds = s.map.abandoned holds := by
  simp only [stopActivity, MapUnit.abandoned]
  cases s.map.writing <;> cases holds <;> rfl

theorem mapStartUp_good {link holds : Bool} (hs : unit.abandoned holds = .copy m (crc16 m.bytes))
    (hr : m.inRange = true) :
    (unit.startUp link holds).copy = m ∧ (unit.startUp link holds).status = .valid := by
  have hgood : (unit.abandoned holds).good = some m := by simp [hs, StoredCopy.good, hr]
  simp [MapUnit.startUp, hgood]

theorem mapStartUp_damaged {link holds : Bool} (hs : unit.abandoned holds = .damaged) :
    (unit.startUp link holds).copy = EmergencyMap.default ∧ (unit.startUp link holds).status = .default := by
  simp [MapUnit.startUp, hs, StoredCopy.good]

/-! ## The start-up (R156, R194) -/

/-- What a start-up finds at the contacts and in the map store of `s`. -/
def FoundBy (sample : StartSample) (s t : State) : Prop :=
  (∀ i < 4, (t.input i).closed = sample.closed.getLsbD i ∧ (t.input i).active = false) ∧
  (∀ m, s.map.store = .copy m (crc16 m.bytes) → m.inRange = true → s.map.writing = none →
    sample.storeHolds = true → t.map.copy = m ∧ t.map.status = .valid) ∧
  (s.map.store = .damaged ∨ s.map.writing ≠ none ∨ sample.storeHolds = false →
    t.map.copy = EmergencyMap.default ∧ t.map.status = .default) ∧
  t.map.writing = none ∧ t.map.armed = false

/-- The reset state with what a start-up samples and keeps, before its first exchange is chosen. -/
structure StartedUp (cause : ResetCause) (sample : StartSample) (s t : State) : Prop where
  pending : t.pending = s.pending
  supply : t.supply = { powered := true, resetLow := false, freshPower := false }
  map : t.map = s.map.startUp (cause = .link) sample.storeHolds
  link : t.link = LinkUnit.startUp cause sample.straps t.map
  inputs : t.inputs = tabBuild 4 fun i => AlarmInput.sampled (sample.closed.getLsbD i) 0
  clock : t.clock = 0
  calls : t.calls = []
  pages : t.pages = []
  trace : t.trace = State.reset.trace
  groups : t.groups = State.reset.groups
  exts : t.exts = State.reset.exts
  orbits : t.orbits = State.reset.orbits
  pickups : t.pickups = State.reset.pickups
  levels : t.levels = State.reset.levels

theorem startUp_startedUp (cause : ResetCause) (sample : StartSample) (s : State) :
    StartedUp cause sample s (startUp cause sample s) := by
  obtain ⟨e, r, h⟩ := startUp_eq cause sample s
  rw [h]
  exact ⟨rfl, rfl, rfl, rfl, rfl, rfl, rfl, rfl, rfl, rfl, rfl, rfl, rfl, rfl⟩

theorem StartedUp.found {u : State} (h : StartedUp cause sample u t)
    (hs : u.map.abandoned sample.storeHolds = s.map.abandoned sample.storeHolds) : FoundBy sample s t := by
  refine ⟨fun i hi => ?_, fun m hstore hr hw hholds => ?_, fun hlost => ?_, by rw [h.map]; rfl, by rw [h.map]; rfl⟩
  · have hinput : t.input i = AlarmInput.sampled (sample.closed.getLsbD i) 0 := by
      rw [State.input, h.inputs, tabGet_tabBuild, if_pos hi]
    rw [hinput]
    exact ⟨rfl, rfl⟩
  · rw [h.map]
    refine mapStartUp_good ?_ hr
    rw [hs, hholds, abandoned_holds hw, hstore]
  · rw [h.map]
    exact mapStartUp_damaged (hs.trans (abandoned_damaged hlost))

/-- The only frame after a start-up is its notice (R194). -/
theorem StartedUp.output (h : StartedUp cause sample s t) : t.link.output =
    [.notice (.startUp cause t.map.status t.map.copy.protection t.map.locked t.map.rangeHeld sample.straps)] := by
  rw [h.link]
  rfl

theorem exec_linkReset (hrun : s.running = true) : exec (.linkReset sample) s =
    .next (if s.link.resetAfter = some 0 then startUp .link sample s else s) :=
  congrArg Host.Outcome.next (whenRunning_running hrun _)

theorem exec_pinReset (sample : StartSample) (s : State) : exec (.pinReset sample) s =
    .next (if s.supply.powered then
        startUp (if s.supply.freshPower then .powerOn else .pin) sample (stopActivity s)
      else { s with supply := { s.supply with resetLow := false } }) := rfl

/-- Settles O17: the link reset keeps the lock and a held range, the pin reset neither. -/
theorem startUpSequence : Obligations.StartUpSequence := by
  intro sample s found
  refine ⟨fun hrun hafter => ?_, fun hrun hafter => ?_, fun hpowered => ?_, fun hpowered => ?_⟩
  · rw [exec_linkReset hrun, if_neg hafter]
  · have h := startUp_startedUp .link sample s
    rw [exec_linkReset hrun, if_pos hafter]
    generalize startUp .link sample s = t at h
    have hlocked : t.map.locked = s.map.locked := by simp [h.map, MapUnit.startUp]
    have hheld : t.map.rangeHeld = s.map.rangeHeld := by simp [h.map, MapUnit.startUp]
    refine ⟨t, rfl, h.pending, by rw [State.running, h.supply]; rfl, h.clock, h.calls, h.pages, h.trace, h.groups,
      h.exts, h.orbits, h.pickups, h.levels, h.found rfl, hlocked, hheld, fun hrange => ?_, fun hrange => ?_, ?_⟩
    · simp [h.map, MapUnit.startUp, hrange]
    · simp [h.map, MapUnit.startUp, hrange]
    · rw [h.output, hlocked, hheld]
  · have h := startUp_startedUp (if s.supply.freshPower then .powerOn else .pin) sample (stopActivity s)
    rw [exec_pinReset, if_pos hpowered]
    generalize hcause : (if s.supply.freshPower then ResetCause.powerOn else .pin) = cause at h
    generalize startUp cause sample (stopActivity s) = t at h
    have hpin : decide (cause = .link) = false := by rw [← hcause]; split <;> rfl
    have hlocked : t.map.locked = false := by simp [h.map, MapUnit.startUp, hpin]
    have hheld : t.map.rangeHeld = false := by simp [h.map, MapUnit.startUp, hpin]
    refine ⟨t, rfl, h.pending, h.supply, h.clock, h.calls, h.pages, h.found (abandoned_stopActivity s _), hlocked,
      hheld, ?_, ?_⟩
    · simp [h.map, MapUnit.startUp, hpin]
    · rw [h.output, hlocked, hheld]
  · rw [exec_pinReset, if_neg (by simp [hpowered])]

end Sys2Proof.Machine
end

section
/-! PROOF. MAP-WRITE and MAP-PROTECT: their common checks, the contents that a MAP-WRITE carries, and the writes that
they start (R166 to R168). -/

namespace Sys2Proof.Machine

variable {s : State} {line : Bool} {tag : Byte} {p : List Byte} {o : MapWriteOp} {m : EmergencyMap} {f : Frame}
  {n : Nat}

/-! ## The common checks (R166) -/

/-- What a request of the map is answered: by the first check that fails, or, when they pass, as `passed` says. -/
def State.guardedBy (s : State) (line : Bool) (f : Frame) (passed : State) : State :=
  if s.map.writing ≠ none then answered f .busy .nothing (sampleEnable line s)
  else if s.map.armed = false then refusedWith f .notArmed (sampleEnable line s)
  else if s.map.copy.protection = .permanent ∨ s.map.locked = true ∨
    (s.map.copy.protection = .line ∧ line = false) then refusedWith f .protectedMap (sampleEnable line s)
  else passed

/-- The checks in their order, with the enable line as it is sampled. -/
theorem mapCheck_sampled (line : Bool) (s : State) : (sampleEnable line s).mapCheck =
    if s.map.writing ≠ none then some .busy
    else if s.map.armed = false then some (.refused .notArmed)
    else if s.map.copy.protection = .permanent ∨ s.map.locked = true ∨
      (s.map.copy.protection = .line ∧ line = false) then some (.refused .protectedMap)
    else none := by
  by_cases hw : s.map.writing = none
  · by_cases ha : s.map.armed = false
    · simp [State.mapCheck, sampleEnable, hw, ha]
    · by_cases hp : s.map.copy.protection = .permanent
      · simp [State.mapCheck, sampleEnable, hw, ha, hp]
      · by_cases hl : s.map.locked = true
        · simp [State.mapCheck, sampleEnable, hw, ha, hp, hl]
        · simp [State.mapCheck, sampleEnable, hw, ha, hp, hl]
  · simp [State.mapCheck, sampleEnable, hw, Option.isSome_iff_ne_none]

/-- An owner that checks first, and goes on with `passed`, is answered as the checks say. -/
theorem answered_guardedBy {owner passed : State × Answer}
    (hstop : ∀ a, (sampleEnable line s).mapCheck = some a → owner = (sampleEnable line s, a))
    (hpass : (sampleEnable line s).mapCheck = none → owner = passed) :
    answered f owner.2.verdict owner.2.body owner.1 =
      s.guardedBy line f (answered f passed.2.verdict passed.2.body passed.1) := by
  rw [mapCheck_sampled] at hstop hpass
  rw [State.guardedBy]
  split
  · rename_i hw
    rw [hstop .busy (if_pos hw)]
    rfl
  · rename_i hw
    rw [if_neg hw] at hstop hpass
    split
    · rename_i ha
      rw [hstop (.refused .notArmed) (if_pos ha)]
      rfl
    · rename_i ha
      rw [if_neg ha] at hstop hpass
      split
      · rename_i hp
        rw [hstop (.refused .protectedMap) (if_pos hp)]
        rfl
      · rename_i hp
        rw [hpass (if_neg hp)]

/-! ## The contents of a MAP-WRITE (R166) -/

theorem length_readMapInputs : ∀ (n : Nat) (l : List Byte), 9 * n ≤ l.length → (readMapInputs n l).length = n
  | 0, _, _ => rfl
  | n + 1, [], h => by simp at h
  | n + 1, b :: l, h => by
    have hrest := length_readMapInputs n (l.drop 8) (by simp only [List.length_drop, List.length_cons] at h ⊢; omega)
    simp [readMapInputs, hrest]

/-- A MAP-WRITE names the meanings of four inputs. -/
theorem length_inputs (h : MapWriteOp.read p = some o) : o.inputs.length = 4 := by
  unfold MapWriteOp.read at h
  split at h
  · rename_i hp
    split at h
    · injection h with h
      rw [← h]
      exact length_readMapInputs 4 _ (by rw [List.length_drop, hp]; decide)
    · cases h
  · cases h

theorem readAlarmMode_none {n : Nat} : readAlarmMode n = none ↔ 3 < n := by
  constructor
  · intro h
    by_contra hn
    interval_cases n <;> cases h
  · intro h
    obtain ⟨k, rfl⟩ : ∃ k, n = k + 4 := ⟨n - 4, by omega⟩
    rfl

theorem readProtection_none {n : Nat} : readProtection n = none ↔ 2 < n := by
  constructor
  · intro h
    by_contra hn
    interval_cases n <;> cases h
  · intro h
    obtain ⟨k, rfl⟩ : ∃ k, n = k + 3 := ⟨n - 3, by omega⟩
    rfl

theorem meaning_none {i : MapInputOp} : i.meaning = none ↔ 3 < i.mode := by
  rw [MapInputOp.meaning, Option.map_eq_none_iff, readAlarmMode_none]

theorem mapM_none {α β : Type} {f : α → Option β} : ∀ {l : List α}, l.mapM f = none ↔ ∃ x ∈ l, f x = none
  | [] => by simp
  | x :: l => by
    have ih := mapM_none (f := f) (l := l)
    cases hx : f x with
    | none => simp [List.mapM_cons, hx]
    | some y => cases hl : l.mapM f <;> simp [List.mapM_cons, hx, hl, ← ih]

theorem getElem?_mapM {α β : Type} {f : α → Option β} : ∀ {l : List α} {l' : List β}, l.mapM f = some l' →
    ∀ i : Nat, l'[i]? = l[i]?.bind f
  | [], _, h, i => by
    obtain rfl : [] = _ := by simpa using h
    simp
  | x :: l, l', h, i => by
    cases hx : f x with
    | none => simp [List.mapM_cons, hx] at h
    | some y =>
      cases hl : l.mapM f with
      | none => simp [List.mapM_cons, hx, hl] at h
      | some l'' =>
        obtain rfl : y :: l'' = l' := by simpa [List.mapM_cons, hx, hl] using h
        cases i with
        | zero => simp [hx]
        | succ i => simpa using getElem?_mapM hl i

/-- A field of the MAP-WRITE is out of its range (R166). -/
def MapWriteOp.Bad (o : MapWriteOp) : Prop :=
  (∃ i ∈ o.inputs, 3 < i.mode) ∨ 2 < o.protection ∨ 63 < o.upper ∨ o.upper < o.lower

theorem contents_bad (h : o.Bad) : o.contents = none := by
  unfold MapWriteOp.contents
  split
  · rename_i inputs mode hinputs hmode
    have hmodes : ¬∃ i ∈ o.inputs, 3 < i.mode := fun ⟨i, hi, hbad⟩ => by
      rw [mapM_none.2 ⟨i, hi, meaning_none.2 hbad⟩] at hinputs
      cases hinputs
    have hprotection : ¬2 < o.protection := fun hbad => by
      rw [readProtection_none.2 hbad] at hmode
      cases hmode
    have hrange := (h.resolve_left hmodes).resolve_left hprotection
    rw [if_pos]
    simp only [Bool.or_eq_true, decide_eq_true_eq]
    omega
  · rfl

/-- The map that a MAP-WRITE carries, its levels clamped (R162, R166). -/
structure MapWriteOp.Carries (o : MapWriteOp) (m : EmergencyMap) : Prop where
  installed : m.installed = o.installed
  sensitivity : ∀ z, z ≤ 63 → tabGet m.sensitivity z 0 = 140 + min (o.sensitivity.getD z 0) 90
  inputs : ∀ i, i ≤ 3 → ∃ e mode, o.inputs[i]? = some e ∧ readAlarmMode e.mode = some mode ∧
    tabGet m.inputs i { mode := .unused, zones := 0 } = { mode := mode, zones := e.zones }
  ceiling : m.ceiling = 160 + min o.ceiling 90
  range : m.range = { enabled := o.enabled ≠ 0, lower := o.lower, upper := o.upper, invert := o.invert ≠ 0 }
  protection : readProtection o.protection = some m.protection

theorem clamp_zero (n k : Nat) : clamp 0 n k = min k n := by simp [clamp]

theorem contents_good (hlen : o.inputs.length = 4) (h : ¬o.Bad) : ∃ m, o.contents = some m ∧ o.Carries m := by
  simp only [MapWriteOp.Bad, not_or] at h
  obtain ⟨hmodes, hprotection, hupper, hlower⟩ := h
  obtain ⟨inputs, hinputs⟩ : ∃ l, o.inputs.mapM MapInputOp.meaning = some l := by
    rw [← Option.ne_none_iff_exists', Ne, mapM_none]
    exact fun ⟨i, hi, hbad⟩ => hmodes ⟨i, hi, meaning_none.1 hbad⟩
  obtain ⟨mode, hmode⟩ : ∃ mode, readProtection o.protection = some mode := by
    rw [← Option.ne_none_iff_exists', Ne, readProtection_none]
    exact hprotection
  have hrange : (decide (63 < o.lower) || decide (63 < o.upper) || decide (o.upper < o.lower)) = false := by
    simp only [Bool.or_eq_false_iff, decide_eq_false_iff_not]
    omega
  simp only [MapWriteOp.contents, hinputs, hmode, hrange, Bool.false_eq_true, if_false, clamp_zero]
  refine ⟨_, rfl, rfl, fun z hz => ?_, fun i hi => ?_, rfl, rfl, hmode⟩
  · rw [tabGet_tabBuild, if_pos (by omega)]
  · obtain ⟨e, he⟩ : ∃ e, o.inputs[i]? = some e := ⟨_, List.getElem?_eq_getElem (by omega)⟩
    obtain ⟨meaning, hmeaning⟩ : ∃ mode, readAlarmMode e.mode = some mode := by
      rw [← Option.ne_none_iff_exists', Ne, readAlarmMode_none]
      exact fun hbad => hmodes ⟨e, List.mem_of_getElem? he, hbad⟩
    refine ⟨e, meaning, he, hmeaning, ?_⟩
    rw [tabGet_tabBuild, if_pos (by omega), List.getD_eq_getElem?_getD, getElem?_mapM hinputs, he]
    simp [MapInputOp.meaning, hmeaning]

/-! ## The requests -/

theorem mapWrite_stops {a : Answer} (h : (sampleEnable line s).mapCheck = some a) :
    mapWrite line o s = (sampleEnable line s, a) := by simp only [mapWrite, h]

theorem mapWrite_outOfRange (h : (sampleEnable line s).mapCheck = none) (hbad : o.Bad) :
    mapWrite line o s = (sampleEnable line s, .refused .outOfRange) := by simp only [mapWrite, h, contents_bad hbad]

theorem mapWrite_starts (h : (sampleEnable line s).mapCheck = none) (hm : o.contents = some m) :
    mapWrite line o s = (startWrite m true (sampleEnable line s), .pending) := by simp only [mapWrite, h, hm]

theorem mapProtect_stops {a : Answer} (h : (sampleEnable line s).mapCheck = some a) :
    mapProtect line n s = (sampleEnable line s, a) := by simp only [mapProtect, h]

theorem mapProtect_starts {mode : Protection} (h : (sampleEnable line s).mapCheck = none)
    (hm : readProtection n = some mode) : mapProtect line n s =
      (startWrite { s.map.copy with protection := mode } false (sampleEnable line s), .pending) := by
  simp only [mapProtect, h, hm]
  rfl

theorem mapProtect_locks (h : (sampleEnable line s).mapCheck = none) : mapProtect line 3 s =
    ({ sampleEnable line s with map := { (sampleEnable line s).map with locked := true } }, .ok) := by
  simp only [mapProtect, h, readProtection_none.2 (Nat.lt_succ_self 2), if_true]

theorem mapProtect_outOfRange (h : (sampleEnable line s).mapCheck = none) (hn : 3 < n) :
    mapProtect line n s = (sampleEnable line s, .refused .outOfRange) := by
  simp only [mapProtect, h, readProtection_none.2 (Nat.lt_of_succ_lt hn), Nat.ne_of_gt hn, if_false]

/-- A taken MAP-WRITE: the checks, and what it does when they pass (R166, R168). -/
theorem exec_mapWrite_guarded {passed : State × Answer} (hr : MapWriteOp.read p = some o)
    (ht : s.Takes ⟨0x1B, tag, p⟩)
    (hpass : (sampleEnable line s).mapCheck = none → mapWrite line o s = passed) :
    exec (.mapWrite line tag p) s = .next (s.guardedBy line ⟨0x1B, tag, p⟩
      (answered ⟨0x1B, tag, p⟩ passed.2.verdict passed.2.body passed.1)) :=
  congrArg Host.Outcome.next ((takeKind_takes ht hr _).trans (answered_guardedBy (fun _ => mapWrite_stops) hpass))

/-- A taken MAP-PROTECT: the checks, and what it does when they pass (R166, R167). -/
theorem exec_mapProtect_guarded {passed : State × Answer} (hr : readNumber1 p = some n)
    (ht : s.Takes ⟨0x1C, tag, p⟩)
    (hpass : (sampleEnable line s).mapCheck = none → mapProtect line n s = passed) :
    exec (.mapProtect line tag p) s = .next (s.guardedBy line ⟨0x1C, tag, p⟩
      (answered ⟨0x1C, tag, p⟩ passed.2.verdict passed.2.body passed.1)) :=
  congrArg Host.Outcome.next ((takeKind_takes ht hr _).trans (answered_guardedBy (fun _ => mapProtect_stops) hpass))

/-- Settles O56: the checks in their order, then the write or the lock. -/
theorem mapWriteIsGuarded : Obligations.MapWriteIsGuarded := by
  intro line tag p s sampled guarded started
  refine ⟨fun o hr ht => ⟨fun hbad => ?_, fun hgood => ?_⟩, fun action hr ht => ?_⟩
  · exact exec_mapWrite_guarded hr ht fun hpass => mapWrite_outOfRange hpass hbad
  · obtain ⟨m, hm, hcarries⟩ := contents_good (length_inputs hr) hgood
    exact ⟨m, exec_mapWrite_guarded hr ht fun hpass => mapWrite_starts hpass hm, hcarries.installed,
      hcarries.sensitivity, hcarries.inputs, hcarries.ceiling, hcarries.range, hcarries.protection⟩
  · match action with
    | 0 => exact exec_mapProtect_guarded hr ht fun hpass => mapProtect_starts hpass rfl
    | 1 => exact exec_mapProtect_guarded hr ht fun hpass => mapProtect_starts hpass rfl
    | 2 => exact exec_mapProtect_guarded hr ht fun hpass => mapProtect_starts hpass rfl
    | 3 => exact exec_mapProtect_guarded hr ht mapProtect_locks
    | n + 4 => exact exec_mapProtect_guarded hr ht fun hpass => mapProtect_outOfRange hpass (by omega)

end Sys2Proof.Machine
end

section
/-! PROOF. A contact's debounce, and an input that settles closed: what it latches, the override that a MUSTER input
starts, and the page that waits (R106, R111, R157 to R159, R161). -/

namespace Sys2Proof.Machine

variable {s t u : State} {i d z : Nat}

/-! ## The contact (R157) -/

theorem exec_alarmLevelChange (hrun : s.running = true) (i : Nat) (closed : Bool) :
    exec (.alarmLevelChange i closed) s = .next (s.modInput i fun r => r.change closed s.clock) :=
  congrArg Host.Outcome.next (whenRunning_running hrun _)

theorem exec_debounceExpiry_due (hrun : s.running = true) (hd : (s.input i).debounceDue = some d)
    (hdue : d ≤ s.clock) : exec (.debounceExpiry i) s = .next (settle i s) :=
  congrArg Host.Outcome.next ((whenRunning_running hrun _).trans (by rw [hd, atExpiry_due hdue]))

theorem input_modInput_same (hi : i ≤ 3) (s : State) (f : AlarmInput → AlarmInput) :
    (s.modInput i f).input i = f (s.input i) := (input_modInput s i i f).trans (if_pos ⟨rfl, by omega⟩)

/-! ## The activation (R158, R161) -/

/-- The input is ACTIVE with its meaning of the active map latched, and the host is told; no page is placed yet. -/
def State.activated (s : State) (i : Nat) : State :=
  notify (.alarmChange i true (s.meaning i).mode) (s.modInput i fun r =>
    { r with
      debounceDue := none, active := true, latchedMode := (s.meaning i).mode, latchedSet := (s.meaning i).zones })

/-- A MUSTER input has told the trace, and the override is active (R161). -/
def mustered (s : State) : State :=
  if s.override = true then musterActivation s else startOverride (musterActivation s)

theorem settle_closed (hc : (s.input i).closed = true) :
    settle i s = activate i (s.modInput i fun r => { r with debounceDue := none }) := by
  have hclosed : ((s.modInput i fun r => { r with debounceDue := none }).input i).closed = true := by
    rw [input_modInput]
    split <;> exact hc
  rw [settle]
  simp only [hclosed, if_true]

/-- The activation before its page: one change of the input's record. -/
theorem activated_eq (s : State) (i : Nat) :
    let due := s.modInput i fun r => { r with debounceDue := none }
    notify (.alarmChange i true (due.meaning i).mode) (due.modInput i fun r =>
      { r with active := true, latchedMode := (due.meaning i).mode, latchedSet := (due.meaning i).zones }) =
      s.activated i := by
  intro due
  simp only [due, modInput_modInput]
  rfl

theorem settle_unused (hc : (s.input i).closed = true) (hm : (s.meaning i).mode = .unused) :
    settle i s = s.activated i := by
  have hmode : ((s.modInput i fun r => { r with debounceDue := none }).meaning i).mode = .unused := hm
  rw [settle_closed hc, ← activated_eq]
  simp only [activate, hmode]

/-- An EVACUATE or ALERT input places its page. -/
theorem settle_places (hc : (s.input i).closed = true)
    (hm : (s.meaning i).mode = .evacuate ∨ (s.meaning i).mode = .alert) :
    settle i s = releasingHolds (placeAlarmPage i) (s.activated i) := by
  have hmode : ((s.modInput i fun r => { r with debounceDue := none }).meaning i).mode = .evacuate ∨
    ((s.modInput i fun r => { r with debounceDue := none }).meaning i).mode = .alert := hm
  rw [settle_closed hc, ← activated_eq]
  rcases hmode with hmode | hmode <;> simp only [activate, hmode]

theorem override_musterActivation (s : State) : (musterActivation s).override = s.override := by
  unfold musterActivation freeze
  repeat' split
  all_goals rfl

/-- A MUSTER input places its page once the trace is told and the override is active. -/
theorem settle_musters (hc : (s.input i).closed = true) (hm : (s.meaning i).mode = .muster) :
    settle i s = releasingHolds (placeAlarmPage i) (mustered (s.activated i)) := by
  have hmode : ((s.modInput i fun r => { r with debounceDue := none }).meaning i).mode = .muster := hm
  rw [settle_closed hc, ← activated_eq]
  simp only [activate, hmode, override_musterActivation]
  rfl

theorem input_activated (hi : i ≤ 3) : (s.activated i).input i =
    { s.input i with
      debounceDue := none, active := true, latchedMode := (s.meaning i).mode, latchedSet := (s.meaning i).zones } :=
  input_modInput_same hi s _

/-! ## What the start of the override leaves alone (R35, R179) -/

/-- The pages, the inputs and the map unit are as they were. -/
structure SameAlarms (s t : State) : Prop where
  pages : t.pages = s.pages
  inputs : t.inputs = s.inputs
  map : t.map = s.map

theorem Hunted.sameAlarms (h : Hunted s t) (hmap : t.map = s.map) : SameAlarms s t := ⟨h.pages, h.inputs, hmap⟩

theorem forceGroup_hunted (g : Nat) (s : State) : Hunted s (forceGroup g s) := by
  unfold forceGroup
  dsimp only
  split <;> exact ⟨rfl, rfl, rfl, rfl⟩

theorem startOverride_hunted (s : State) : Hunted s (startOverride s) := by
  have hforced (l : List Nat) : Hunted s (l.foldl (fun s g => forceGroup g s) { s with override := true }) :=
    Hunted.trans (t := { s with override := true }) ⟨rfl, rfl, rfl, rfl⟩
      (Hunted.foldl (fun s g => forceGroup_hunted g s) _ _)
  exact (hforced _).trans (Hunted.foldl (fun s g => service_hunted g s) _ _)

theorem musterActivation_sameAlarms (s : State) : SameAlarms s (musterActivation s) := by
  unfold musterActivation freeze
  repeat' split
  all_goals exact ⟨rfl, rfl, rfl⟩

theorem mustered_sameAlarms (s : State) : SameAlarms s (mustered s) := by
  have htold := musterActivation_sameAlarms s
  unfold mustered
  split
  · exact htold
  · have hstarted := (startOverride_hunted (musterActivation s)).sameAlarms
      (startOverride_steady (hasMap_steady (musterActivation s).map) rfl)
    exact ⟨hstarted.pages.trans htold.pages, hstarted.inputs.trans htold.inputs, hstarted.map.trans htold.map⟩

/-! ## The placing (R106, R111, R159) -/

/-- The zones of an alarm page are the installed ones of its set, the excluded among them (R111, R120). -/
theorem targetOf_alarm (s : State) (r : AlarmInput) (zones : ZoneSet) :
    s.targetOf (alarmRequest i r).cls zones = zonesWhere fun z => zoneIn zones z && s.installed z := by
  have hcls : (alarmRequest i r).cls.ignoresRange = true := by
    simp only [alarmRequest]
    split <;> rfl
  simp [State.targetOf, hcls]

theorem zones_alarmRequest (i : Nat) (r : AlarmInput) : (alarmRequest i r).zones = r.latchedSet := rfl

/-- The placing waits while the input's record is in use. -/
theorem placing_waits (h : u.alarmPage i ≠ none) : releasingHolds (placeAlarmPage i) u =
    u.modInput i fun r => { r with placementPending := true } := by
  obtain ⟨p, hp⟩ := Option.ne_none_iff_exists'.1 h
  have hplaces : placeAlarmPage i u = u.modInput i fun r => { r with placementPending := true } := by
    simp only [placeAlarmPage, hp]
  rw [releasingHolds_same (by rw [hplaces]; rfl) (by rw [hplaces]; rfl) (by rw [hplaces]; rfl), hplaces]

/-- Without an installed zone of the input's set no page is placed. -/
theorem placing_refused (h : u.alarmPage i = none)
    (hz : (zonesWhere fun z => zoneIn (u.input i).latchedSet z && u.installed z) = 0) :
    releasingHolds (placeAlarmPage i) u = u := by
  have hrefusal : u.admissionRefusal (alarmRequest i (u.input i)) = some .allExcluded := by
    rw [State.admissionRefusal, targetOf_alarm]
    exact if_pos hz
  have hplaces : placeAlarmPage i u = u := by simp only [placeAlarmPage, h, requestPage, hrefusal]
  rw [releasingHolds_same (by rw [hplaces]) (by rw [hplaces]) (by rw [hplaces]), hplaces]

/-- The record of an ALERT input's first page, which waits (R106, R159). -/
theorem placing_queues (hm : (u.input i).latchedMode = .alert) (hp : u.pages = []) (hq : u.ZonesQuiet)
    (hz : (zonesWhere fun z => zoneIn (u.input i).latchedSet z && u.installed z) ≠ 0)
    (hfault : ∀ z, zoneIn (zonesWhere fun z => zoneIn (u.input i).latchedSet z && u.installed z) z = true →
      (u.amp z).fault ≠ none) :
    releasingHolds (placeAlarmPage i) u = direct (.pageState (u.lastPageId % 255 + 1) .queued none)
      { u.modInput i fun r => { r with page := some (u.lastPageId % 255 + 1) } with
        lastPageId := u.lastPageId % 255 + 1, nextArrival := u.nextArrival + 1
        pages := [u.firstPage (alarmRequest i (u.input i))] } := by
  have hnone : u.alarmPage i = none := by simp [State.alarmPage, hp]
  have hrefusal := admissionRefusal_none (s := u) (q := alarmRequest i (u.input i))
    (by rwa [zones_alarmRequest, targetOf_alarm]) (.inl rfl)
  have hadmitted : u.admitted (alarmRequest i (u.input i)) = direct (.pageState (u.lastPageId % 255 + 1) .queued none)
      { u.modInput i fun r => { r with page := some (u.lastPageId % 255 + 1) } with
        lastPageId := u.lastPageId % 255 + 1, nextArrival := u.nextArrival + 1
        pages := [u.firstPage (alarmRequest i (u.input i))] } := by
    rw [State.admitted, hp]
    rfl
  rw [releasingHolds_uncovered hq.uncovered, ← hadmitted]
  simp only [placeAlarmPage, hnone, requestPage, hrefusal]
  rw [admitPage_eq (page?_noPages hp _), hadmitted]
  have hwaits : (u.firstPage (alarmRequest i (u.input i))).cls ≠ .emergency := by
    simp [State.firstPage, alarmRequest, hm]
  have htargets : ∀ z ∈ zonesOf (u.firstPage (alarmRequest i (u.input i))).target, (u.amp z).fault ≠ none :=
    fun z hz => by
      rw [target_firstPage, zones_alarmRequest, targetOf_alarm] at hz
      exact hfault z (mem_zonesOf hz)
  have hstate : (u.firstPage (alarmRequest i (u.input i))).state = .queued := rfl
  generalize u.firstPage (alarmRequest i (u.input i)) = page at hwaits htargets hstate
  exact schedule_waits rfl hstate ⟨hq.idle, hq.uncovered⟩
    (canStart_unusable fun z hz => usable_faulted hwaits (htargets z hz))

/-! ## The input that settles closed -/

/-- The installed zones of an input's set (R111, R159). -/
def State.alarmTarget (s : State) (i : Nat) : ZoneSet :=
  zonesWhere fun z => zoneIn (s.meaning i).zones z && s.installed z

/-- While an ACTIVE input is on its way to its page, its set and the installed zones stay. -/
theorem target_sameAlarms (hi : i ≤ 3) (h : SameAlarms (s.activated i) u) :
    (zonesWhere fun z => zoneIn (u.input i).latchedSet z && u.installed z) = s.alarmTarget i := by
  rw [input_congr h.inputs, input_activated hi]
  simp only [State.installed, h.map]
  rfl

theorem alarmPage_congr (h : t.pages = s.pages) (i : Nat) : t.alarmPage i = s.alarmPage i := by
  rw [State.alarmPage, State.alarmPage, h]

theorem alarmPage_mustered (s : State) (i : Nat) : (mustered (s.activated i)).alarmPage i = s.alarmPage i :=
  alarmPage_congr (mustered_sameAlarms (s.activated i)).pages i

theorem settle_waits (hc : (s.input i).closed = true)
    (hm : (s.meaning i).mode = .evacuate ∨ (s.meaning i).mode = .alert) (hused : s.alarmPage i ≠ none) :
    settle i s = (s.activated i).modInput i fun r => { r with placementPending := true } := by
  rw [settle_places hc hm, placing_waits (by exact hused)]

theorem settle_waits_muster (hc : (s.input i).closed = true) (hm : (s.meaning i).mode = .muster)
    (hused : s.alarmPage i ≠ none) :
    settle i s = (mustered (s.activated i)).modInput i fun r => { r with placementPending := true } := by
  rw [settle_musters hc hm, placing_waits (by rwa [alarmPage_mustered])]

theorem settle_unplaced (hi : i ≤ 3) (hc : (s.input i).closed = true)
    (hm : (s.meaning i).mode = .evacuate ∨ (s.meaning i).mode = .alert) (hnone : s.alarmPage i = none)
    (hempty : s.alarmTarget i = 0) : settle i s = s.activated i := by
  rw [settle_places hc hm, placing_refused (by exact hnone)]
  rw [target_sameAlarms hi ⟨rfl, rfl, rfl⟩, hempty]

theorem settle_unplaced_muster (hi : i ≤ 3) (hc : (s.input i).closed = true) (hm : (s.meaning i).mode = .muster)
    (hnone : s.alarmPage i = none) (hempty : s.alarmTarget i = 0) : settle i s = mustered (s.activated i) := by
  rw [settle_musters hc hm, placing_refused (by rwa [alarmPage_mustered])]
  rw [target_sameAlarms hi (mustered_sameAlarms _), hempty]

/-- The first page of an ALERT input (R106, R159). -/
def State.alertPage (s : State) (i : Nat) : PageRecord :=
  { id := s.lastPageId % 255 + 1, alarm := some i, cls := .urgent, source := .prompt (65280 + i)
    requester := .alarm i, target := s.alarmTarget i, mode := .partially, suspendAllowed := true, maxDuration := 0
    arrival := s.nextArrival, state := .queued, channel := none, audioSent := false, durationStarted := false
    durationDue := none, suspensionDue := none, endReason := none }

theorem firstPage_alert (hi : i ≤ 3) (hm : (s.meaning i).mode = .alert) :
    (s.activated i).firstPage (alarmRequest i ((s.activated i).input i)) = s.alertPage i := by
  rw [State.alertPage, ← target_sameAlarms hi ⟨rfl, rfl, rfl⟩,
    ← targetOf_alarm (i := i) _ ((s.activated i).input i), input_activated hi]
  simp only [State.firstPage, alarmRequest, hm, reduceCtorEq, if_false]
  rfl

/-- An ALERT input whose zones are all faulted: its page is the only one, and it waits. -/
theorem settle_queues (hi : i ≤ 3) (hc : (s.input i).closed = true) (hm : (s.meaning i).mode = .alert)
    (hp : s.pages = []) (hq : s.ZonesQuiet) (hsome : s.alarmTarget i ≠ 0)
    (hfault : ∀ z, zoneIn (s.alarmTarget i) z = true → (s.amp z).fault ≠ none) :
    settle i s = direct (.pageState (s.lastPageId % 255 + 1) .queued none)
      { (s.activated i).modInput i fun r => { r with page := some (s.lastPageId % 255 + 1) } with
        lastPageId := s.lastPageId % 255 + 1, nextArrival := s.nextArrival + 1, pages := [s.alertPage i] } := by
  have hlatched : ((s.activated i).input i).latchedMode = .alert := by rw [input_activated hi, hm]
  have htarget := target_sameAlarms (s := s) hi ⟨rfl, rfl, rfl⟩
  rw [settle_places hc (.inr hm), placing_queues hlatched hp ⟨hq.idle, hq.uncovered⟩ (htarget ▸ hsome)
    (htarget ▸ hfault), firstPage_alert hi hm]
  rfl

end Sys2Proof.Machine
end

section
/-! PROOF. An input that settles open: its page is removed or closes, and the last MUSTER input ends the override
(R128, R129, R157, R160, R161). -/

namespace Sys2Proof.Machine

variable {s t u : State} {i d z ch : Nat} {r : PageRecord} {reason : EndReason}

/-! ## The clearing (R160, R161) -/

/-- The input is INACTIVE and the host is told; its page has not ended yet (R160). -/
def State.cleared (s : State) (i : Nat) : State :=
  notify (.alarmChange i false (s.input i).latchedMode) (s.modInput i fun r =>
    { r with debounceDue := none, active := false, placementPending := false })

theorem input_cleared (hi : i ≤ 3) : (s.cleared i).input i =
    { s.input i with debounceDue := none, active := false, placementPending := false } := input_modInput_same hi s _

theorem input_cleared_other {j : Nat} (hj : j ≠ i) : (s.cleared i).input j = s.input j :=
  (input_modInput s i j _).trans (if_neg fun h => hj h.1.symm)

/-- What becomes of an input's page when the input is cleared. -/
def endAlarmPage (i : Nat) (page : Option Nat) (s : State) : State :=
  match page with
  | none => s
  | some p => (releasingHolds (endPage p .alarmCleared) s).modInput i fun r => { r with page := none }

theorem settle_open (hi : i ≤ 3) (hc : (s.input i).closed = false) : settle i s =
    if ((s.input i).latchedMode = .muster && !(endAlarmPage i (s.input i).page (s.cleared i)).musterWanted) = true then
      endOverride (endAlarmPage i (s.input i).page (s.cleared i))
    else endAlarmPage i (s.input i).page (s.cleared i) := by
  have hinput : (s.modInput i fun r => { r with debounceDue := none }).input i =
    { s.input i with debounceDue := none } := input_modInput_same hi s _
  rw [settle]
  simp only [hinput, hc, Bool.false_eq_true, if_false, clearAlarm, modInput_modInput]
  rfl

/-- An ACTIVE MUSTER input remains just when another input than the cleared one is such. -/
theorem musterWanted_cleared (hi : i ≤ 3) : (s.cleared i).musterWanted = true ↔
    ∃ j, j ≤ 3 ∧ j ≠ i ∧ (s.input j).active = true ∧ (s.input j).latchedMode = .muster := by
  have hinput : ∀ j, ((s.cleared i).input j).active = true ∧ ((s.cleared i).input j).latchedMode = .muster ↔
      j ≠ i ∧ (s.input j).active = true ∧ (s.input j).latchedMode = .muster := fun j => by
    by_cases hj : j = i
    · subst hj
      simp [input_cleared hi]
    · simp [input_cleared_other hj, hj]
  simp only [State.musterWanted, List.any_eq_true, List.mem_range, Bool.and_eq_true, decide_eq_true_eq, hinput,
    Nat.lt_succ_iff]

/-! ## A page that waits (R129) -/

theorem modInput_unlinked (h : (s.input i).page = none) : s.modInput i (fun a => { a with page := none }) = s :=
  modInput_self (by rw [← h])

/-- The end of an alarm page is reported to its input, whose link to the page goes (R129, R160). -/
theorem reportEnd_alarm (hr : r.requester = .alarm i) (hp : (s.input i).page = some r.id) :
    reportEnd r s = s.modInput i fun a => { a with page := none } := by
  simp only [reportEnd, hr]
  exact modInput_congr (by simp [hp])

theorem pageEnds_alarm (h : s.pages = [r]) (hr : r.requester = .alarm i)
    (hp : (s.input i).page = some r.id) (reason : EndReason) : pageEnds r.id reason s =
      (offerRecord (r.traceRecord .pageEnd reason.traceCode) s).modInput i fun a => { a with page := none } := by
  simp only [pageEnds, page?_sole h]
  exact reportEnd_alarm hr (by rw [input_congr (offerRecord_kept _ s).inputs, hp])

theorem modInput_offerRecord (record : TraceRecord) (i : Nat) (f : AlarmInput → AlarmInput) (s : State) :
    (offerRecord record s).modInput i f = offerRecord record (s.modInput i f) :=
  apply_offerRecord (F := fun s => s.modInput i f) (fun _ => rfl) rfl rfl

/-- A freed alarm record for which no placement waits (R159). -/
theorem alarmRecordFreed_none (h : (s.input i).placementPending = false) : alarmRecordFreed i s = s := by
  simp [alarmRecordFreed, h]

/-- The only page, of an input that waits for no placement, is removed (R129). -/
theorem removePage_alarm (hi : i ≤ 3) (h : s.pages = [r]) (ha : r.alarm = some i) (hr : r.requester = .alarm i)
    (hp : (s.input i).page = some r.id) (hn : (s.input i).placementPending = false) (reason : EndReason) :
    removePage r.id reason s = offerRecord (r.traceRecord .pageEnd reason.traceCode)
      (direct (.pageState r.id .freed (some reason))
        { s.modInput i fun a => { a with page := none } with pages := [] }) := by
  have hends := pageEnds_alarm (s := direct (.pageState r.id .freed (some reason)) s) h hr hp reason
  have hdrop : ((direct (.pageState r.id .freed (some reason)) s).modInput i fun a => { a with page := none }).dropPage
      r.id = direct (.pageState r.id .freed (some reason))
        { s.modInput i fun a => { a with page := none } with pages := [] } := dropPage_sole h
  simp only [removePage, page?_sole h, pageState, hends, modInput_offerRecord, dropPage_offerRecord, hdrop, reportFreed,
    ha]
  refine alarmRecordFreed_none ?_
  rw [input_congr (offerRecord_kept _ _).inputs]
  exact (congrArg AlarmInput.placementPending (input_modInput_same hi s _)).trans hn

/-- The input's page, which waits over quiet zones, is removed, and the pass that follows finds nothing to do. -/
theorem endAlarmPage_waiting (hi : i ≤ 3) (h : s.pages = [r]) (ha : r.alarm = some i) (hr : r.requester = .alarm i)
    (hp : (s.input i).page = some r.id) (hn : (s.input i).placementPending = false)
    (hs : r.state = .queued ∨ r.state = .suspended) (hq : s.ZonesQuiet) :
    endAlarmPage i (some r.id) s = offerRecord (r.traceRecord .pageEnd 4)
      (direct (.pageState r.id .freed (some .alarmCleared))
        { s.modInput i fun a => { a with page := none } with pages := [] }) := by
  have hremoves : endWithoutPass r.id .alarmCleared s = removePage r.id .alarmCleared s := by
    rcases hs with hs | hs <;> simp only [endWithoutPass, page?_sole h, hs]
  have hends : endPage r.id .alarmCleared s = removePage r.id .alarmCleared s := by
    rw [endPage_sole h (by rcases hs with hs | hs <;> simp [hs]), hremoves, removePage_alarm hi h ha hr hp hn]
    refine schedule_quiet (by simp) ⟨fun z => ?_, ?_⟩
    · rw [zone_of_offerRecord]
      exact hq.idle z
    · rw [covered_of_offerRecord]
      exact hq.uncovered
  rw [endAlarmPage, releasingHolds_uncovered hq.uncovered, hends, removePage_alarm hi h ha hr hp hn]
  refine modInput_unlinked ?_
  rw [input_congr (offerRecord_kept _ _).inputs]
  exact congrArg AlarmInput.page (input_modInput_same hi s _)

/-! ## A page that is LIVE (R118, R128) -/

/-- The only page of an input closes in its only zone, which hangs (R114, R128, R160). -/
theorem closePage_alarm (h : s.pages = [r]) (hr : r.requester = .alarm i)
    (hp : (s.input i).page = some r.id) (hz : s.SoundsOnlyIn r.id z) (hhang : s.paging.hangTime ≠ 0)
    (reason : EndReason) : closePage r.id reason s =
      (closedState r reason s (zoneToClosing z r.id s)).modInput i fun a => { a with page := none } := by
  have hlocal := zoneToClosing_local r.id
  have hmoved := hlocal.moved s z
  have hzone := zone_zoneToClosing hz.lt r.id s
  have hres : ∀ y, ((zoneToClosing z r.id s).zone y).state.reservation ≠ some r.id := fun y => by
    by_cases hy : y = z
    · simp [hy, hzone, ZoneState.reservation]
    · rw [hlocal.zone s z y hy]
      exact hz.unreserved y _
  have hclosed := kept_closedState (r := r) (reason := reason) hmoved.toKept
  generalize hu : zoneToClosing z r.id s = u at hmoved hzone hres hclosed
  have hpages : u.pages = [r] := hmoved.pages.trans h
  let v : State := { u with
    pages := [r.closed reason]
    link := s.link.putAll (r.audioOff ++ [.directive (.pageState r.id .closing (some reason))]) }
  have hends : pageEnds r.id reason v =
      (closedState r reason s u).modInput i fun a => { a with page := none } :=
    pageEnds_alarm (r := r.closed reason) (s := v) rfl hr
      ((congrArg AlarmInput.page (input_congr hmoved.inputs i)).trans hp) reason
  have hclosing : closePage r.id reason s = freeIfDone r.id (skipHang [z] (pageEnds r.id reason v)) := by
    rw [closePage, hz.zones, List.foldl_cons, List.foldl_nil, hu, dropReservations_none hres,
      giveUpChannel_eq (page?_sole hpages), modPage_sole hpages, hmoved.link]
    simp only [State.modPage, pageState, direct, emit, put_putAll, List.map_cons, List.map_nil, BEq.rfl, if_true]
    rfl
  rw [hclosing, hends, skipHang_none _ (hclosed.paging ▸ hhang)]
  refine freeIfDone_owner hz.lt ?_
  rw [zone_of_modInput, zone_closedState, hzone]
  rfl

/-- What the clearing of an input leaves of its page, LIVE in one zone, and of its record (R118, R128, R160). -/
theorem endAlarmPage_live (hi : i ≤ 3) (h : s.pages = [r]) (hr : r.requester = .alarm i)
    (hp : (s.input i).page = some r.id) (hs : r.state = .live) (hz : s.SoundsOnlyIn r.id z)
    (hcov : s.covered = 0) (hhang : s.paging.hangTime ≠ 0) :
    ClosedIn r .alarmCleared z s (endAlarmPage i (some r.id) s) ∧
      (endAlarmPage i (some r.id) s).input i = { s.input i with page := none } := by
  have hclosed := closedIn_closedState (r := r) (s := s) hz.lt .alarmCleared
  have hmoved := (zoneToClosing_local r.id).moved s z
  have hcloses : endWithoutPass r.id .alarmCleared s = closePage r.id .alarmCleared s := by
    simp only [endWithoutPass, page?_sole h, hs]
  have hpage := closePage_alarm h hr hp hz hhang .alarmCleared
  have hkept := kept_closedState (r := r) (reason := .alarmCleared) hmoved.toKept
  have hpages := pages_closedState (r := r) (reason := .alarmCleared) (s := s) (zoneToClosing z r.id s)
  generalize closedState r .alarmCleared s (zoneToClosing z r.id s) = u at hclosed hpage hkept hpages
  have hinput : (u.modInput i fun a => { a with page := none }).input i = { s.input i with page := none } := by
    rw [input_modInput_same hi, input_congr hkept.inputs]
  have hended : endAlarmPage i (some r.id) s = signalCoverage (u.modInput i fun a => { a with page := none }) := by
    rw [endAlarmPage, releasingHolds_uncovered hcov, endPage_sole h (by simp [hs]), hcloses, hpage,
      schedule_closing (s := u.modInput i fun a => { a with page := none }) hpages rfl]
    exact modInput_unlinked (congrArg AlarmInput.page hinput)
  rw [hended]
  exact ⟨⟨hclosed.pages, hclosed.link, hclosed.trace, hclosed.zone, hclosed.others, hclosed.commanded⟩, hinput⟩

/-- The three frames of a clearing find their places in the output queue (R190). -/
theorem output_cleared {n : Notice} {ds : List Directive} (hl : t.link = ((s.link.put (.notice n)).putAll
      (ds.map .directive))) (hroom : s.link.output.length + ds.length < 48)
    (hu : unsolicitedCount s.link.output + ds.length < 40) :
    t.link.output = s.link.output ++ .notice n :: ds.map .directive := by
  have hall : (s.link.put (.notice n)).putAll (ds.map .directive) =
      s.link.putAll (.notice n :: ds.map .directive) := rfl
  rw [hl, hall, putAll_output]
  · intro f hf
    rcases List.mem_cons.1 hf with rfl | hf
    · rfl
    · obtain ⟨d, -, rfl⟩ := List.mem_map.1 hf
      rfl
  · simp only [List.length_cons, List.length_map]; omega
  · simp only [List.length_cons, List.length_map]; omega

/-! ## The debounce -/

/-- Without a page the clearing is all, while the override may stay. -/
theorem settle_clears (hi : i ≤ 3) (hc : (s.input i).closed = false) (hp : (s.input i).page = none)
    (h : (s.input i).latchedMode ≠ .muster ∨
      ∃ j, j ≤ 3 ∧ j ≠ i ∧ (s.input j).active = true ∧ (s.input j).latchedMode = .muster) :
    settle i s = s.cleared i := by
  rw [settle_open hi hc, hp, if_neg]
  · rfl
  · rcases h with hm | hothers
    · simp [hm]
    · simp [endAlarmPage, (musterWanted_cleared hi).2 hothers]

/-- The last MUSTER input ends the override (R161). -/
theorem settle_endsOverride (hi : i ≤ 3) (hc : (s.input i).closed = false) (hp : (s.input i).page = none)
    (hm : (s.input i).latchedMode = .muster)
    (h : ¬∃ j, j ≤ 3 ∧ j ≠ i ∧ (s.input j).active = true ∧ (s.input j).latchedMode = .muster) :
    settle i s = endOverride (s.cleared i) := by
  have hunwanted : (s.cleared i).musterWanted = false := by
    rw [Bool.eq_false_iff]
    exact fun hwanted => h ((musterWanted_cleared hi).1 hwanted)
  rw [settle_open hi hc, hp, if_pos]
  · rfl
  · simp [endAlarmPage, hunwanted, hm]

/-- An input that is no MUSTER input ends its page and nothing else. -/
theorem settle_endsPage {p : Nat} (hi : i ≤ 3) (hc : (s.input i).closed = false) (hp : (s.input i).page = some p)
    (hm : (s.input i).latchedMode ≠ .muster) : settle i s = endAlarmPage i (some p) (s.cleared i) := by
  rw [settle_open hi hc, hp, if_neg (by simp [hm])]

/-- Settles O53: the debounce, the input that settles closed in each mode, and the one that settles open. -/
theorem alarmContactDebounces : Obligations.AlarmContactDebounces := by
  intro i s hrun hi
  refine ⟨exec_alarmLevelChange hrun i, fun d m hd hdue hc hm => ?_, fun d hd hdue hc => ?_⟩
  · intro active musters target
    subst hm
    have hactive : s.activated i = active false := by simp [active, State.activated]
    have hpending : (s.activated i).modInput i (fun r => { r with placementPending := true }) = active true := by
      simp only [active, Bool.or_true, State.activated, notify, emit, State.modInput, tabModify_tabModify]
    have hmusters : mustered (s.activated i) = musters (active false) := by rw [← hactive]; rfl
    rw [exec_debounceExpiry_due hrun hd hdue]
    refine ⟨fun hmode => ?_, fun hmode hused => ?_, fun hmode hused => ?_, fun hmode hnone hempty => ?_,
      fun hmode hnone hempty => ?_, fun hmode hnone hq hsome hfault => ?_⟩
    · rw [settle_unused hc hmode, hactive]
    · rw [settle_waits hc hmode hused, hpending]
    · rw [settle_waits_muster hc hmode hused, hmusters]
    · rw [settle_unplaced hi hc hmode hnone hempty, hactive]
    · rw [settle_unplaced_muster hi hc hmode hnone hempty, hmusters]
    · rw [settle_queues hi hc hmode hnone hq hsome hfault, hactive]
      rfl
  · intro mode cleared others
    have hinput := input_cleared (s := s) hi
    rw [exec_debounceExpiry_due hrun hd hdue]
    refine ⟨fun hp hkeeps => ?_, fun hp hmode hlast => ?_, fun r hmode hp h ha hr => ⟨fun hs hq => ?_,
      fun z ch _ hs _ hch haudio hz hidle hcov hhang hroom hu => ?_⟩⟩
    · exact congrArg Host.Outcome.next (settle_clears hi hc hp hkeeps)
    · exact congrArg Host.Outcome.next (settle_endsOverride hi hc hp hmode hlast)
    · rw [settle_endsPage hi hc hp hmode, endAlarmPage_waiting (s := s.cleared i) hi h ha hr (by rw [hinput, hp])
        (by rw [hinput]) hs ⟨hq.idle, hq.uncovered⟩]
      rfl
    · obtain ⟨hclosed, hrecord⟩ := endAlarmPage_live (s := s.cleared i) hi h hr (by rw [hinput, hp]) hs
        ⟨.inr hz, hidle⟩ hcov hhang
      rw [settle_endsPage hi hc hp hmode]
      refine ⟨_, rfl, by rw [hrecord, hinput], hclosed.zone, hclosed.pages, ?_⟩
      have hlink := hclosed.link
      simp only [PageRecord.audioOff, haudio, hch, if_true] at hlink
      exact output_cleared (n := .alarmChange i false mode) (ds := [.pageAudio r.id ch r.source false,
        .pageState r.id .closing (some .alarmCleared)]) hlink (by simp; omega) (by simp; omega)

end Sys2Proof.Machine
end

section
/-! PROOF. The trace: the encoding of its elapsed counts, what it keeps, how it freezes, and its three requests (R173 to
R175, R177 to R179, R181 to R184). -/

namespace Sys2Proof.Machine

variable {s : State} {r : TraceRecord} {through : List Nat} {c g h b : Nat} {tag : Byte}
  {p : List Byte} {o : TraceSetOp}

/-! ## Elapsed counts (R178) -/

theorem elapsedExponent_small (hc : c < 1024) : elapsedExponent c = 0 := if_pos hc

theorem elapsedMantissa_small (hc : c < 1024) : elapsedMantissa c = c := if_pos hc

theorem elapsedMantissa_large (hc : 1024 ≤ c) :
    elapsedMantissa c = c / 2 ^ (elapsedExponent c - 1) - 1024 := if_neg (by omega)

/-- The exponent is given by the position of the highest one bit. -/
theorem elapsedExponent_large (hc : 1024 ≤ c) (hlow : 2 ^ b ≤ c) (hhigh : c < 2 ^ (b + 1)) :
    elapsedExponent c = b - 9 := by
  have hlog : Nat.log2 c = b := (Nat.log2_eq_iff (by omega)).2 ⟨hlow, hhigh⟩
  rw [elapsedExponent, if_neg (by omega), hlog]

/-- A large count is `1024` to `2047` times the unit of its exponent, and a part of a unit. -/
theorem elapsed_quotient (hc : 1024 ≤ c) :
    1 ≤ elapsedExponent c ∧ 1024 ≤ c / 2 ^ (elapsedExponent c - 1) ∧ c / 2 ^ (elapsedExponent c - 1) ≤ 2047 := by
  have hne : c ≠ 0 := by omega
  have hlow : 2 ^ Nat.log2 c ≤ c := Nat.log2_self_le hne
  have hhigh : c < 2 ^ (Nat.log2 c + 1) := Nat.lt_log2_self
  have hten : 10 ≤ Nat.log2 c := (Nat.le_log2 hne).2 hc
  obtain ⟨k, hk⟩ : ∃ k, Nat.log2 c = k + 10 := ⟨Nat.log2 c - 10, by omega⟩
  have hexponent : elapsedExponent c = k + 1 := by rw [elapsedExponent_large hc hlow hhigh]; omega
  rw [hk] at hlow hhigh
  have hunit : 0 < 2 ^ k := Nat.two_pow_pos k
  have hten' : 2 ^ (k + 10) = 1024 * 2 ^ k := by rw [Nat.pow_add, Nat.mul_comm]
  have heleven : 2 ^ (k + 10 + 1) = 2048 * 2 ^ k := by rw [Nat.pow_succ, hten']; omega
  rw [hexponent, Nat.add_sub_cancel]
  refine ⟨by omega, (Nat.le_div_iff_mul_le hunit).2 (by omega), Nat.le_of_lt_succ ?_⟩
  exact (Nat.div_lt_iff_lt_mul hunit).2 (by omega)

theorem elapsedExponent_le (hc : c ≤ 131071) : elapsedExponent c ≤ 7 := by
  unfold elapsedExponent
  split
  · omega
  · have hlog : Nat.log2 c < 17 := (Nat.log2_lt (by omega)).2 (by omega)
    omega

theorem elapsedMantissa_le (c : Nat) : elapsedMantissa c ≤ 1023 := by
  by_cases hc : c < 1024
  · rw [elapsedMantissa_small hc]; omega
  · obtain ⟨-, -, hmost⟩ := elapsed_quotient (c := c) (by omega)
    rw [elapsedMantissa_large (by omega)]; omega

/-- What the host decodes of a large count is its whole units (R178). -/
theorem elapsedDecoded_encoded (hc : 1024 ≤ c) :
    elapsedDecoded (elapsedExponent c) (elapsedMantissa c) =
      c / 2 ^ (elapsedExponent c - 1) * 2 ^ (elapsedExponent c - 1) := by
  obtain ⟨hexponent, hleast, -⟩ := elapsed_quotient hc
  rw [elapsedDecoded, if_neg (by omega), elapsedMantissa_large hc, Nat.add_sub_cancel' hleast]

/-- Settles O58: the highest one bit gives the exponent, and the mantissa counts whole units. -/
theorem elapsedCountEncodes : Obligations.ElapsedCountEncodes := by
  refine ⟨fun c hc => ⟨elapsedExponent_small hc, elapsedMantissa_small hc⟩,
    fun c p hc hlow hhigh => ⟨elapsedExponent_large hc hlow hhigh, elapsedMantissa_large hc⟩, fun m => rfl,
    fun e m he => if_neg he, fun c hc => ?_, fun c hc _ => elapsedDecoded_encoded (by omega),
    fun c hc => ⟨elapsedExponent_le hc, elapsedMantissa_le c⟩, fun c _ hexponent hmantissa => ?_, by decide, by decide,
    by decide⟩
  · by_cases hsmall : c < 1024
    · rw [elapsedExponent_small hsmall, elapsedMantissa_small hsmall]
      rfl
    · have hone : elapsedExponent c = 1 := elapsedExponent_large (b := 10) (by omega) (by omega) (by omega)
      rw [elapsedDecoded_encoded (by omega), hone]
      simp
  · have hlarge : 1024 ≤ c := by
      by_contra hsmall
      rw [elapsedExponent_small (by omega)] at hexponent
      omega
    rw [elapsedMantissa_large hlarge, hexponent] at hmantissa
    omega

/-! ## Records that are kept (R173 to R175, R177) -/

theorem offerThrough_drops (hq : qualify s r through = none) : offerThrough r through s = s := by
  rw [offerThrough, hq]

theorem offerThrough_keeps {kept : TraceRecord} (hq : qualify s r through = some kept) :
    offerThrough r through s = { s with trace := s.trace.keep kept } := by
  rw [offerThrough, hq]

/-- A frozen trace, or one whose filter leaves the kind out, takes no record (R174, R179). -/
theorem qualify_shut (hshut : s.trace.frozen = true ∨ s.trace.filter.getLsbD r.kind.code = false) :
    qualify s r through = none := by
  rw [qualify, if_pos (by simpa using hshut)]

/-- Past the filter a record with a group is admitted by the group's trace-enable flag (R174). -/
theorem qualify_grouped (hopen : ¬(s.trace.frozen = true ∨ s.trace.filter.getLsbD r.kind.code = false))
    (hkind : r.kind ≠ .overflow) (hg : r.group = some g) :
    qualify s r through = if (s.group g).traceEnable = true then some r else none := by
  rw [qualify, if_neg (by simpa using hopen), if_neg hkind, hg]

/-- Past the filter a record without a group is admitted by the ungrouped flag (R174). -/
theorem qualify_ungrouped (hopen : ¬(s.trace.frozen = true ∨ s.trace.filter.getLsbD r.kind.code = false))
    (hkind : r.kind ≠ .overflow) (hg : r.group = none) :
    qualify s r through = if s.trace.ungrouped = true then some r else none := by
  rw [qualify, if_neg (by simpa using hopen), if_neg hkind, hg]

theorem qualify_overflow (hopen : ¬(s.trace.frozen = true ∨ s.trace.filter.getLsbD r.kind.code = false))
    (hkind : r.kind = .overflow) : qualify s r through = qualifyOverflow s r through := by
  rw [qualify, if_neg (by simpa using hopen), if_pos hkind]

/-- The form of an OVERFLOW record between two groups, by the flags of both ends (R175). -/
theorem qualifyOverflow_between (hg : r.group = some g) (hh : r.target = some h) : qualifyOverflow s r through =
    if (s.group h).traceEnable = true then
      some (if (s.group g).traceEnable = true then r else { r with group := none })
    else if (s.group g).traceEnable = true ∧ (s.group h).traceAccept = true ∧
        ∀ i ∈ through, (s.group i).traceThrough = true then some { r with target := none }
    else none := by
  simp only [qualifyOverflow, hg, hh, Option.map_some, Option.getD_some, Bool.and_eq_true, List.all_eq_true]
  cases (s.group g).traceEnable <;> cases (s.group h).traceEnable <;> simp

theorem offerThrough_ite {flag : Prop} [Decidable flag] (hq : qualify s r through = if flag then some r else none) :
    offerThrough r through s = if flag then { s with trace := s.trace.keep r } else s := by
  by_cases hflag : flag
  · rw [if_pos hflag] at hq ⊢
    exact offerThrough_keeps hq
  · rw [if_neg hflag] at hq ⊢
    exact offerThrough_drops hq

/-! ## Freezing (R179, R182) -/

theorem musterActivation_eq (s : State) :
    musterActivation s = if s.trace.freezeOnAlarm = true then freeze .muster s else s := rfl

theorem offerPageStart_eq (p : PageRecord) (resumed : Bool) (s : State) : offerPageStart p resumed s =
    if p.cls = .emergency ∧ s.trace.freezeOnAlarm = true then freeze .emergencyPage s
    else offerThrough (p.traceRecord .pageStart (if resumed = true then 1 else 0)) [] s := by
  simp [offerPageStart, offerRecord]

/-! ## TRACE-SET (R181, R182) -/

/-- The trace with the depth that a TRACE-SET selects; a new depth clears it (R181). -/
def TraceUnit.withDepth (t : TraceUnit) (depth : Nat) : TraceUnit :=
  if depth = t.depth then t
  else { t with depth := depth, records := [], sequence := 0, elapsed := 0, nextValid := false }

@[simp] theorem TraceUnit.depth_withDepth (t : TraceUnit) (depth : Nat) : (t.withDepth depth).depth = depth := by
  unfold withDepth
  split
  · exact Eq.symm ‹_›
  · rfl

@[simp] theorem TraceUnit.frozen_withDepth (t : TraceUnit) (depth : Nat) : (t.withDepth depth).frozen = t.frozen := by
  unfold withDepth
  split <;> rfl

theorem selectDepth_eq (depth : Nat) (s : State) :
    selectDepth depth s = { s with trace := s.trace.withDepth depth } := by
  unfold selectDepth TraceUnit.withDepth
  split <;> rfl

/-- The trace that a TRACE-SET leaves before its freeze control acts (R181). -/
def TraceUnit.setBy (t : TraceUnit) (o : TraceSetOp) : TraceUnit :=
  { t.withDepth (supportedDepth o.depth) with
    filter := o.filter, ungrouped := o.ungrouped = 1, freezeOnAlarm := o.freezeOnAlarm = 1 }

/-- The state that a TRACE-SET leaves before it is answered (R181, R182). -/
def TraceSetOp.written (o : TraceSetOp) (s : State) : State :=
  freezeControl o.control { s with trace := s.trace.setBy o }

/-- A field of the TRACE-SET is out of its range (R174, R181). -/
def TraceSetOp.Bad (o : TraceSetOp) : Prop :=
  1 < o.ungrouped ∨ 1 < o.freezeOnAlarm ∨ o.filter.getLsbD 0 = true ∨ o.filter.getLsbD 15 = true ∨
    ∃ n, o.control = some n ∧ 1 < n

theorem traceSet_refuses (hbad : o.Bad) : traceSet o s = (s, .refused .outOfRange) := by
  unfold traceSet
  simp only [readFlag_eq]
  by_cases hu : 1 < o.ungrouped
  · simp only [hu, if_true]
  by_cases hf : 1 < o.freezeOnAlarm
  · simp only [hu, hf, if_true, if_false]
  have hfields : o.filter.getLsbD 0 = true ∨ o.filter.getLsbD 15 = true ∨ ∃ n, o.control = some n ∧ 1 < n := by
    simpa only [TraceSetOp.Bad, hu, hf, false_or] using hbad
  simp only [hu, hf, if_false, Bool.or_eq_true, beyond_iff, or_assoc, hfields, if_true]

/-- With its fields in range a TRACE-SET writes them, then its freeze control acts (R181). -/
theorem traceSet_writes (hgood : ¬o.Bad) : traceSet o s =
    (o.written s, .okWith (.traceDepth (o.written s).trace.depth (o.written s).trace.frozen)) := by
  simp only [TraceSetOp.Bad, not_or] at hgood
  obtain ⟨hu, hf, hrest⟩ := hgood
  have hfields : ¬(o.filter.getLsbD 0 = true ∨ o.filter.getLsbD 15 = true ∨ ∃ n, o.control = some n ∧ 1 < n) := by
    simpa only [not_or] using hrest
  simp only [traceSet, readFlag_eq, hu, hf, if_false, Bool.or_eq_true, beyond_iff, or_assoc, hfields, selectDepth_eq]
  rfl

@[simp] theorem freezeControl_none (s : State) : freezeControl none s = s := rfl

theorem freezeControl_thaw (s : State) :
    freezeControl (some 1) s = { s with trace := { s.trace with nextValid := false, frozen := false } } := rfl

theorem freezeControl_freeze (s : State) : freezeControl (some 0) s =
    if s.trace.frozen = true then { s with trace := { s.trace with nextValid := false } }
    else notify (.traceFrozen .host) { s with trace := { s.trace with nextValid := false, frozen := true } } := rfl

theorem depth_freeze (cause : FreezeCause) (s : State) : (freeze cause s).trace.depth = s.trace.depth := by
  unfold freeze
  split <;> rfl

theorem depth_freezeControl (control : Option Nat) (s : State) :
    (freezeControl control s).trace.depth = s.trace.depth := by
  cases control with
  | none => rfl
  | some n =>
    unfold freezeControl
    dsimp only
    split
    · exact depth_freeze _ _
    · rfl

theorem frozen_freezeControl_freeze (s : State) : (freezeControl (some 0) s).trace.frozen = true := by
  rw [freezeControl_freeze]
  split
  · assumption
  · rfl

theorem exec_traceSet_answers {t : State} {a : Answer} (hr : TraceSetOp.read p = some o)
    (ht : s.Takes ⟨0x1E, tag, p⟩) (ha : traceSet o s = (t, a)) :
    exec (.traceSet tag p) s = .next (answered ⟨0x1E, tag, p⟩ a.verdict a.body t) :=
  congrArg Host.Outcome.next (takeKind_answers ht hr ha)

/-- A TRACE-SET in range answers with the depth it selected and whether the trace is frozen (R181). -/
theorem exec_traceSet_writes (hr : TraceSetOp.read p = some o) (ht : s.Takes ⟨0x1E, tag, p⟩)
    (hgood : ¬o.Bad) : exec (.traceSet tag p) s = .next (answered ⟨0x1E, tag, p⟩ .ok
      (.traceDepth (supportedDepth o.depth) (o.written s).trace.frozen) (o.written s)) := by
  have hdepth : (o.written s).trace.depth = supportedDepth o.depth :=
    (depth_freezeControl _ _).trans (TraceUnit.depth_withDepth _ _)
  rw [exec_traceSet_answers hr ht (traceSet_writes hgood), hdepth]
  rfl

/-! ## TRACE-CLEAR and TRACE-READ (R183, R184) -/

/-- Settles O59: the request is handled by the clearing of the trace. -/
theorem traceClearEmptiesTrace : Obligations.TraceClearEmptiesTrace := by
  intro tag s ht
  exact congrArg Host.Outcome.next (takeKind_answers (owner := traceClear) (read := readNothing) ht rfl rfl)

theorem traceRead_answers (o : TraceReadOp) (s : State) : traceRead o s =
    if o.count = 0 ∨ 8 < o.count then (s, .refused .outOfRange)
    else (s, .okWith (.traceEntries o.start o.count s.trace.depth s.trace.records.length s.trace.frozen
      s.trace.sequence ((List.range o.count).map fun i => s.trace.records[o.start + i]?))) := by
  simp only [traceRead, Bool.or_eq_true, decide_eq_true_eq]

/-- Settles O60: the admission of a record by the flags it meets, the freezes, and the two requests. -/
theorem traceKeepsAndReads : Obligations.TraceKeepsAndReads := by
  refine ⟨fun r s => ⟨rfl, fun hshut through => offerThrough_drops (qualify_shut hshut),
    fun hopen hkind through => ⟨fun g hg => offerThrough_ite (qualify_grouped hopen hkind hg),
      fun hg => offerThrough_ite (qualify_ungrouped hopen hkind hg)⟩, ?_⟩,
    fun s => ⟨musterActivation_eq s, fun p resumed => offerPageStart_eq p resumed s⟩, ?_, ?_⟩
  · intro hopen hkind through g h hg hh source target named
    have hform := (qualify_overflow (through := through) hopen hkind).trans (qualifyOverflow_between hg hh)
    refine ⟨fun hs ht => offerThrough_keeps (hform.trans ?_), fun hs ht => offerThrough_keeps (hform.trans ?_),
      fun hs ht hn => offerThrough_keeps (hform.trans ?_), fun hs ht hn => offerThrough_drops (hform.trans ?_),
      fun hs ht => offerThrough_drops (hform.trans ?_)⟩
    · rw [if_pos ht, if_pos hs]
    · rw [if_pos ht, if_neg (Bool.eq_false_iff.1 hs)]
    · rw [if_neg (Bool.eq_false_iff.1 ht), if_pos ⟨hs, hn⟩]
    · rw [if_neg (Bool.eq_false_iff.1 ht), if_neg fun hall => hn hall.2]
    · rw [if_neg (Bool.eq_false_iff.1 ht), if_neg fun hall => Bool.eq_false_iff.1 hs hall.1]
  · intro tag p o s hr ht depth kept written bad
    have hfrozen : (s.trace.setBy o).frozen = s.trace.frozen := TraceUnit.frozen_withDepth _ _
    refine ⟨fun hbad => exec_traceSet_answers hr ht (traceSet_refuses hbad), fun hgood hc => ?_, fun hgood hc => ?_,
      fun hgood hc => ?_⟩ <;> rw [exec_traceSet_writes hr ht hgood, TraceSetOp.written, hc]
    · rw [freezeControl_none, hfrozen]
      rfl
    · rw [freezeControl_thaw]
      rfl
    · rw [frozen_freezeControl_freeze, freezeControl_freeze, hfrozen]
      rfl
  · intro tag p o s hr ht
    refine congrArg Host.Outcome.next ((takeKind_takes ht hr _).trans ?_)
    rw [traceRead_answers, answered_ite]
    rfl

end Sys2Proof.Machine
end

section
/-! PROOF. The output queue: which frames join it, what a departure leaves, and the bytes of every frame that leaves
(R184, R186, R187, R189 to R194). -/

namespace Sys2Proof.Machine

variable {l : LinkUnit} {f : OutFrame} {q rest : List OutFrame}

/-! ## Joining and leaving (R190, R193) -/

theorem mayJoin_iff :
    mayJoin q f = true ↔ q.length < 48 ∧ (f.unsolicited = false ∨ unsolicitedCount q < 40) := by
  show (decide (q.length < 48) && (!f.unsolicited || decide (unsolicitedCount q < 40))) = true ↔ _
  simp only [Bool.and_eq_true, Bool.or_eq_true, Bool.not_eq_true', decide_eq_true_eq]

theorem put_full (h : 48 ≤ l.output.length ∨ (f.unsolicited = true ∧ 40 ≤ unsolicitedCount l.output)) :
    l.put f = { l with lost := min (l.lost + 1) 255 } := by
  refine put_drops (Bool.eq_false_iff.2 fun hjoins => ?_)
  obtain ⟨hplaces, hkind⟩ := mayJoin_iff.1 hjoins
  rcases h with hfull | ⟨hunsolicited, hfull⟩
  · omega
  · rcases hkind with hreply | hroom
    · simp [hunsolicited] at hreply
    · omega

theorem reportLost_nothing (h : l.lost = 0 ∨ 40 ≤ unsolicitedCount l.output) : reportLost l = l := by
  refine if_neg fun hreports => ?_
  simp only [Bool.and_eq_true, decide_eq_true_eq, mayJoin_iff] at hreports
  obtain ⟨hlost, -, hkind⟩ := hreports
  rcases hkind with hreply | hroom
  · simp [OutFrame.unsolicited] at hreply
  · omega

theorem reportLost_joins (hlost : l.lost ≠ 0) (hplaces : l.output.length < 48)
    (hroom : unsolicitedCount l.output < 40) :
    reportLost l = { l with output := l.output ++ [.notice (.outputLost l.lost)], lost := 0 } :=
  if_pos (by simp only [Bool.and_eq_true, decide_eq_true_eq, mayJoin_iff]; exact ⟨hlost, hplaces, .inr hroom⟩)

/-- What a departure leaves before a loss is reported (R190, R193). -/
theorem depart_cons (ho : l.output = f :: rest) (hr : l.resetAfter ≠ some 0) : l.depart =
    reportLost { l with output := rest, sentBytes := f.bytes, resetAfter := l.resetAfter.map fun n => n - 1 } := by
  simp only [LinkUnit.depart, ho, if_neg hr]

theorem depart_stays (h : l.output = [] ∨ l.resetAfter = some 0) : l.depart = l := by
  unfold LinkUnit.depart
  split
  · rfl
  · rename_i ho
    exact if_pos (h.resolve_left (by simp [ho]))

theorem exec_outputDepart_running {s : State} (hrun : s.running = true) :
    exec .outputDepart s = .next { s with link := s.link.depart } :=
  congrArg Host.Outcome.next (whenRunning_running hrun _)

/-! ## The CRC (R186) -/

theorem crcBit_eq (r : Word16) (bit : Bool) :
    crcBit r bit = (r <<< 1) ^^^ (if r.getLsbD 15 = bit then 0 else 0x1021) := by
  have hmsb : r.msb = r.getLsbD 15 := BitVec.msb_eq_getLsbD_last r
  rw [crcBit, hmsb]
  by_cases h : r.getLsbD 15 = bit
  · rw [if_pos h, if_neg (by simp only [h, bne_self_eq_false, Bool.false_eq_true, not_false_eq_true])]
    exact BitVec.xor_zero.symm
  · rw [if_neg h, if_pos (by simpa only [bne_iff_ne] using h)]
    rfl

/-- The CRC takes in the bits of the bytes one after another, each byte from its most significant bit on. -/
theorem crc16_eq_foldl_bits (bytes : List Byte) :
    crc16 bytes = (bytes.flatMap fun b => (List.range 8).map fun i => b.getLsbD (7 - i)).foldl
      (fun (r : Word16) bit => (r <<< 1) ^^^ (if r.getLsbD 15 = bit then 0 else 0x1021)) 0xFFFF := by
  have hbyte (r : Word16) (b : Byte) : crcByte r b =
      ((List.range 8).map fun i => b.getLsbD (7 - i)).foldl
        (fun (r : Word16) bit => (r <<< 1) ^^^ (if r.getLsbD 15 = bit then 0 else 0x1021)) r := by
    simp only [← crcBit_eq]
    rfl
  rw [List.foldl_flatMap]
  simp only [← hbyte]
  rfl

/-! ## Fields (R186) -/

theorem putOpt1_getD (n : Option Nat) : putOpt1 n = [(n.map (BitVec.ofNat 8)).getD 0xFF] := by cases n <;> rfl

theorem putOpt2_getD (n : Option Nat) :
    putOpt2 n = (n.map fun n => [BitVec.ofNat 8 (n / 256), BitVec.ofNat 8 n]).getD [0xFF, 0xFF] := by cases n <;> rfl

theorem elapsedWord_eq (r : TraceRecord) :
    r.elapsedWord = (if r.valid = true then 32768 else 0) + 1024 * r.exponent + r.mantissa := by
  rw [TraceRecord.elapsedWord, Nat.mul_comm]

/-! ## Named values stand in their tables' order (R184, R186, R189, R191) -/

theorem CallKind.code_eq (k : CallKind) : k.code = [CallKind.hunt, .direct, .recalled].idxOf k := by cases k <;> rfl

theorem QueriedState.code_eq (q : QueriedState) : q.code = [QueriedState.waitingQueued, .waitingRinging,
    .ringingDirect, .recallRinging, .connected, .parked].idxOf q := by cases q <;> rfl

theorem Presence.code_eq (p : Presence) :
    p.code = [Presence.available, .standby, .paused, .signedOff].idxOf p := by cases p <;> rfl

theorem Disposition.code_eq (d : Disposition) : d.code = [Disposition.offered, .waiting, .diverted].idxOf d := by
  cases d <;> rfl

theorem Announcement.code_eq (a : Announcement) :
    a.code = [Announcement.placed, .notAsked, .noZoneSet, .notPlaced].idxOf a := by cases a <;> rfl

theorem PageState.code_eq (p : PageState) :
    p.code = [PageState.queued, .opening, .live, .closing, .suspended].idxOf p := by cases p <;> rfl

theorem PageReport.code_eq (p : PageReport) :
    p.code = [PageReport.queued, .opening, .live, .closing, .suspended, .freed].idxOf p := by cases p <;> rfl

theorem EndReason.code_eq (r : EndReason) : r.code = [EndReason.stopped, .duration, .sourceGone, .alarmCleared,
    .released, .preempted, .suspendTimeout, .allExcluded, .uninstalled].idxOf r := by cases r <;> rfl

theorem FaultCause.code_eq (c : FaultCause) :
    c.code = [FaultCause.noReply, .amplifier, .lineOpen, .overtemperature].idxOf c := by cases c <;> rfl

theorem AlarmMode.code_eq (m : AlarmMode) : m.code = [AlarmMode.unused, .evacuate, .muster, .alert].idxOf m := by
  cases m <;> rfl

theorem Protection.code_eq (p : Protection) : p.code = [Protection.anyone, .line, .permanent].idxOf p := by
  cases p <;> rfl

theorem MapStatus.code_eq (m : MapStatus) :
    m.code = [MapStatus.valid, .default, .writing, .storeInvalid].idxOf m := by cases m <;> rfl

theorem ResetCause.code_eq (c : ResetCause) : c.code = [ResetCause.powerOn, .pin, .link].idxOf c := by
  cases c <;> rfl

theorem Cadence.code_eq (k : Cadence) : k.code = [Cadence.hunt, .recall, .direct].idxOf k := by cases k <;> rfl

theorem StopReason.code_eq (r : StopReason) : r.code = [StopReason.answeredElsewhere, .noAnswer, .pickedUp,
    .callerGone, .withdrawn, .overflowed, .retrieved].idxOf r := by cases r <;> rfl

theorem FreezeCause.code_eq (c : FreezeCause) : c.code = [FreezeCause.emergencyPage, .muster, .host].idxOf c := by
  cases c <;> rfl

theorem Reason.code_eq (r : Reason) : r.code = 1 + [Reason.unknownKind, .badLength, .outOfRange, .notConfigured,
    .tableFull, .duplicate, .noSuchCall, .wrongState, .tooLate, .nothingToPick, .notPermitted, .empty, .limit,
    .commitPending, .notArmed, .protectedMap, .held, .allExcluded].idxOf r := by cases r <;> rfl

theorem TraceKind.code_eq (k : TraceKind) : k.code = 1 + [TraceKind.offer, .answer, .noAnswer, .wait, .abandon,
    .overflow, .divert, .pickup, .park, .retrieve, .recall, .pageStart, .pageSuspend, .pageEnd].idxOf k := by
  cases k <;> rfl

/-- Settles O9: a frame joins or is dropped, a departure reports a loss when it may, and the model's fields are the
statement's, one by one. -/
theorem outputQueueJoinsAndDeparts : Obligations.OutputQueueJoinsAndDeparts := by
  refine ⟨fun l f => ⟨fun hplaces hkind => put_joins (mayJoin_iff.2 ⟨hplaces, hkind⟩), put_full⟩, ?_, ?_, ?_⟩
  · intro f rest s hrun hreset houtput hplaces left
    rw [exec_outputDepart_running hrun, depart_cons houtput hreset]
    refine ⟨fun h => ?_, fun hlost hroom => ?_⟩
    · rw [reportLost_nothing (l := left) h]
    · rw [reportLost_joins (l := left) hlost hplaces hroom]
  · intro s hrun h
    rw [exec_outputDepart_running hrun, depart_stays h]
  intro crc frame n1 n2 o1 o2 yes z8 kindOf presence fault mode protection status cause ended range entry fields
  have hframe (kind tag : Byte) (p : List Byte) : frameBytes kind tag p = frame kind tag p := by
    simp only [frameBytes, crc16_eq_foldl_bits]
    rfl
  -- the field encodings of R186
  have hn1 (n : Nat) : put1 n = [n1 n] := rfl
  have hn2 : put2 = n2 := rfl
  have ho1 (n : Option Nat) : putOpt1 n = [o1 n] := putOpt1_getD n
  have ho2 (n : Option Nat) : putOpt2 n = o2 n := putOpt2_getD n
  have hyes (b : Bool) : putFlag b = [yes b] := rfl
  have hnot (b : Bool) : yes (!b) = if b = true then 0 else 1 := by cases b <;> rfl
  have hz8 : putZones = z8 := rfl
  -- the named values
  have hkind (k : CallKind) : n1 k.code = kindOf k := congrArg n1 k.code_eq
  have hpresence (p : Presence) : n1 p.code = presence p := congrArg n1 p.code_eq
  have hfault (c : FaultCause) : n1 c.code = fault c := congrArg n1 c.code_eq
  have hmode (m : AlarmMode) : n1 m.code = mode m := congrArg n1 m.code_eq
  have hprotection (p : Protection) : n1 p.code = protection p := congrArg n1 p.code_eq
  have hstatus (m : MapStatus) : n1 m.code = status m := congrArg n1 m.code_eq
  have hcause (c : ResetCause) : n1 c.code = cause c := congrArg n1 c.code_eq
  have hended : EndReason.code = ended := funext EndReason.code_eq
  have hoption {α : Type} {code : α → Nat} {byte : α → Byte} (h : ∀ a, n1 (code a) = byte a) (a : Option α) :
      o1 (a.map code) = (a.map byte).getD 0xFF := by
    cases a with
    | none => rfl
    | some a => exact h a
  -- the parts of payloads
  have hrange (r : ExclusionRange) : r.bytes = range r := rfl
  have hentry : traceEntryBytes = entry := by
    funext e
    cases e with
    | none => rfl
    | some r =>
      simp only [traceEntryBytes, entry, hn1, hn2, ho1, ho2, TraceKind.code_eq, elapsedWord_eq, List.append_assoc,
        List.cons_append, List.nil_append]
  have hlevels (l : List Nat) : l.flatMap (fun n => [n1 (n - 140)]) = l.map fun n => n1 (n - 140) :=
    List.map_eq_flatMap.symm
  have hfields (b : ReplyBody) : b.bytes = fields b := by
    unfold ReplyBody.bytes MemberReport.bytes InputReport.bytes
    cases b <;> simp only [fields, EmergencyMap.bytes, putSigned2, hn1, hn2, ho1, ho2, hyes, hnot, hz8, hkind,
      hpresence, hmode, hprotection, hstatus, hcause, hoption hpresence, hoption hmode, hoption hfault, hrange, hentry,
      hlevels, QueriedState.code_eq, Disposition.code_eq, Announcement.code_eq, PageState.code_eq, List.append_assoc,
      List.cons_append, List.nil_append]
  have hreply (k t : Byte) (v : Verdict) (b : ReplyBody) :
      (OutFrame.reply k t v b).bytes = frame k t (put1 v.code ++ v.reasonByte ++ fields b) := by
    rw [OutFrame.bytes, hframe, hfields]
  refine ⟨fun k t b => ⟨hreply k t .ok b, hreply k t .pending b, hreply k t .busy b, fun r => ?_⟩,
    ⟨hframe _ _ _, hframe _ _ _⟩, fun d => ?_, fun n => ?_⟩
  · rw [hreply, Verdict.reasonByte, r.code_eq]
    rfl
  · rw [OutFrame.bytes, hframe]
    cases d with
    | pageAudio p ch source on =>
      simp only [Directive.frame, hyes, hnot]
      cases source <;> rfl
    | _ => simp only [Directive.frame, hn1, hn2, ho1, ho2, hended, Cadence.code_eq, StopReason.code_eq,
        PageReport.code_eq, List.append_assoc, List.cons_append, List.nil_append]
  · rw [OutFrame.bytes, hframe]
    cases n <;> simp only [Notice.frame, hn1, hyes, hnot, hcause, hstatus, hprotection, hmode, hfault,
      FreezeCause.code_eq, List.cons_append, List.nil_append]

end Sys2Proof.Machine
end

section
/-! PROOF. The receiver: what one byte and a whole frame do to it, and what becomes of good, damaged and broken-off
frames (R187, R188). -/

namespace Sys2Proof.Machine

variable {s : State} {kind tag n c1 c0 : Byte} {p body : List Byte}

/-! ## The receiver reads bytes (R187) -/

theorem setReceiver_hunting (h : s.link.receiver = .hunting) : setReceiver .hunting s = s := by
  rw [setReceiver, ← h]

theorem receiveBytes_cons (b : Byte) (l : List Byte) (s : State) :
    receiveBytes (b :: l) s = receiveBytes l (receiveByte b s) := rfl

theorem receiveBytes_append (l m : List Byte) (s : State) :
    receiveBytes (l ++ m) s = receiveBytes m (receiveBytes l s) := List.foldl_append

theorem receiveByte_start (h : s.link.receiver = .hunting) :
    receiveByte startByte s = setReceiver (.inFrame [] s.clock) s := by
  rw [receiveByte, h]
  exact if_pos rfl

/-- A byte that follows without a gap joins the frame, which goes on, is complete, or has a length byte out of range. -/
theorem receiveByte_inFrame (b : Byte) (bytes : List Byte) (s : State) :
    receiveByte b (setReceiver (.inFrame bytes s.clock) s) =
      let length := ((bytes ++ [b]).headD 0).toNat
      if length < 2 || 248 < length then rejectFrame true (setReceiver .hunting s)
      else if (bytes ++ [b]).length = length + 3 then judgeFrame (bytes ++ [b]) (setReceiver .hunting s)
      else setReceiver (.inFrame (bytes ++ [b]) s.clock) s :=
  if_neg (Nat.not_lt.2 (Nat.le_add_right s.clock Config.receiveGapMs))

/-- A length byte out of range ends the frame. -/
theorem receiveBytes_badLength (hr : s.link.receiver = .hunting) (hn : n.toNat < 2 ∨ 248 < n.toNat) :
    receiveBytes [startByte, n] s = rejectFrame true s := by
  have hbad : (decide (n.toNat < 2) || decide (248 < n.toNat)) = true := by simpa using hn
  calc receiveBytes [startByte, n] s = receiveByte n (receiveByte startByte s) := rfl
    _ = rejectFrame true s := by
      rw [receiveByte_start hr, receiveByte_inFrame, setReceiver_hunting hr]
      exact if_pos hbad

section
variable (hmin : 2 ≤ n.toNat) (hmax : n.toNat ≤ 248)
include hmin hmax

theorem length_inRange : ¬ (decide (n.toNat < 2) || decide (248 < n.toNat)) = true := by
  simp only [Bool.or_eq_true, decide_eq_true_eq]
  omega

/-- Behind a length byte in range a byte that does not complete the frame is kept, and one that does has it judged. -/
theorem receiveByte_behindLength (b : Byte) (bytes : List Byte) (s : State) :
    receiveByte b (setReceiver (.inFrame (n :: bytes) s.clock) s) =
      if bytes.length = n.toNat + 1 then judgeFrame (n :: (bytes ++ [b])) (setReceiver .hunting s)
      else setReceiver (.inFrame (n :: (bytes ++ [b])) s.clock) s := by
  have hlength : (n :: bytes ++ [b]).length = n.toNat + 3 ↔ bytes.length = n.toNat + 1 := by
    simp only [List.cons_append, List.length_cons, List.length_append, List.length_nil]
    omega
  rw [receiveByte_inFrame]
  exact (if_neg (length_inRange hmin hmax)).trans (if_congr hlength rfl rfl)

theorem receiveBytes_unfinished (l bytes : List Byte) (s : State) (hshort : bytes.length + l.length ≤ n.toNat + 1) :
    receiveBytes l (setReceiver (.inFrame (n :: bytes) s.clock) s) =
      setReceiver (.inFrame (n :: (bytes ++ l)) s.clock) s := by
  induction l generalizing bytes with
  | nil => rw [List.append_nil]; rfl
  | cons b l ih =>
    have hmore : bytes.length ≠ n.toNat + 1 := by
      simp only [List.length_cons] at hshort
      omega
    have hrest : (bytes ++ [b]).length + l.length ≤ n.toNat + 1 := by
      simp only [List.length_cons, List.length_append, List.length_nil] at hshort ⊢
      omega
    rw [receiveBytes_cons, receiveByte_behindLength hmin hmax, if_neg hmore, ih _ hrest, List.append_assoc,
      List.singleton_append]

/-- The bytes of a frame, read one by one, are judged when the last has come. -/
theorem receiveBytes_frame (hr : s.link.receiver = .hunting) (hbody : body.length = n.toNat) :
    receiveBytes (startByte :: n :: (body ++ [c1, c0])) s = judgeFrame (n :: body ++ [c1, c0]) s := by
  have hlength : receiveByte n (receiveByte startByte s) = setReceiver (.inFrame [n] s.clock) s := by
    rw [receiveByte_start hr, receiveByte_inFrame]
    exact (if_neg (length_inRange hmin hmax)).trans (if_neg (show ¬ 1 = n.toNat + 3 by omega))
  have hkept : (body ++ [c1]).length = n.toNat + 1 := by simp [hbody]
  calc receiveBytes (startByte :: n :: (body ++ [c1, c0])) s
      = receiveBytes (body ++ [c1] ++ [c0]) (setReceiver (.inFrame [n] s.clock) s) := by
        rw [receiveBytes_cons, receiveBytes_cons, hlength, List.append_assoc, List.singleton_append]
    _ = receiveByte c0 (setReceiver (.inFrame (n :: (body ++ [c1])) s.clock) s) := by
        rw [receiveBytes_append, receiveBytes_unfinished hmin hmax _ [] s (by simp [hbody])]
        rfl
    _ = judgeFrame (n :: body ++ [c1, c0]) s := by
        rw [receiveByte_behindLength hmin hmax, if_pos hkept, setReceiver_hunting hr, List.append_assoc]
        rfl

end

/-! ## Frames are judged (R187) -/

theorem judgeFrame_crcFits (n kind tag : Byte) (p : List Byte) (s : State) :
    judgeFrame (n :: kind :: tag :: p ++
      [highByte (crc16 (n :: kind :: tag :: p)), lowByte (crc16 (n :: kind :: tag :: p))]) s =
      acceptFrame ⟨kind, tag, p⟩ s := by
  simp only [judgeFrame, List.length_append, List.length_cons, List.length_nil, Nat.add_sub_cancel,
    List.take_left', List.drop_left', if_true]

theorem judgeFrame_crcDiffers (h : crc16 body ≠ c1 ++ c0) : judgeFrame (body ++ [c1, c0]) s = rejectFrame false s := by
  have hbytes : [c1, c0] ≠ [highByte (crc16 body), lowByte (crc16 body)] := by
    intro heq
    simp only [List.cons.injEq, and_true] at heq
    obtain ⟨rfl, rfl⟩ := heq
    exact h (halves_append (crc16 body)).symm
  simp only [judgeFrame, List.length_append, List.length_cons, List.length_nil, Nat.add_sub_cancel,
    List.take_left', List.drop_left', if_neg hbytes]

/-! ## What arrives, and what becomes of it (R187, R188, R193) -/

theorem exec_frameReceive_running (hrun : s.running = true) (hr : s.link.receiver = .hunting) (hp : p.length ≤ 246) :
    exec (.frameReceive kind tag p) s = .next (acceptFrame ⟨kind, tag, p⟩ s) := by
  have hlength : (BitVec.ofNat 8 (p.length + 2)).toNat = p.length + 2 := by
    rw [BitVec.toNat_ofNat]
    omega
  have hread := receiveBytes_frame (n := BitVec.ofNat 8 (p.length + 2)) (body := kind :: tag :: p)
    (c1 := highByte (crc16 (BitVec.ofNat 8 (p.length + 2) :: kind :: tag :: p)))
    (c0 := lowByte (crc16 (BitVec.ofNat 8 (p.length + 2) :: kind :: tag :: p)))
    (by omega) (by omega) hr hlength.symm
  calc exec (.frameReceive kind tag p) s = .next (receiveBytes (frameBytes kind tag p) s) :=
        congrArg Host.Outcome.next (whenRunning_running hrun _)
    _ = .next (acceptFrame ⟨kind, tag, p⟩ s) :=
        congrArg Host.Outcome.next (hread.trans (judgeFrame_crcFits _ kind tag p s))

theorem exec_frameError_crcDiffers (hrun : s.running = true) (hr : s.link.receiver = .hunting) (hmin : 2 ≤ n.toNat)
    (hmax : n.toNat ≤ 248) (hbody : body.length = n.toNat) (hcrc : crc16 (n :: body) ≠ c1 ++ c0) :
    exec (.frameError (startByte :: n :: (body ++ [c1, c0]))) s = .next (rejectFrame false s) :=
  congrArg Host.Outcome.next ((whenRunning_running hrun _).trans
    ((receiveBytes_frame hmin hmax hr hbody).trans (judgeFrame_crcDiffers hcrc)))

theorem exec_frameError_badLength (hrun : s.running = true) (hr : s.link.receiver = .hunting)
    (hn : n.toNat < 2 ∨ 248 < n.toNat) : exec (.frameError [startByte, n]) s = .next (rejectFrame true s) :=
  congrArg Host.Outcome.next ((whenRunning_running hrun _).trans (receiveBytes_badLength hr hn))

theorem acceptFrame_queues (f : Frame) (h : s.link.resetAfter = none) (hroom : s.link.requests.length < 4) :
    acceptFrame f s = { s with link := { s.link with requests := s.link.requests ++ [f] } } := by
  rw [acceptFrame, h]
  exact if_neg (Nat.not_le.2 hroom)

theorem acceptFrame_full (f : Frame) (h : s.link.resetAfter = none) (hfull : 4 ≤ s.link.requests.length) :
    acceptFrame f s = emit (.reply (replyKind f.kind) f.tag .busy .nothing) s := by
  rw [acceptFrame, h]
  exact if_pos hfull

theorem acceptFrame_due (f : Frame) (h : s.link.resetAfter.isSome = true) : acceptFrame f s = s := if_pos h

theorem rejectFrame_reports (b : Bool) (h : s.link.resetAfter = none) : rejectFrame b s = emit (.frameError b) s :=
  if_neg (by simp [h])

theorem rejectFrame_due (b : Bool) (h : s.link.resetAfter.isSome = true) : rejectFrame b s = s := if_pos h

theorem replyKind_eq (k : Byte) : replyKind k = if 1 ≤ k.toNat ∧ k.toNat ≤ 36 then k + 0x80 else 0xFF := by
  simp [replyKind, isRequestKind]

/-- Settles O11: the bytes are read, judged good, and the frame finds a place or none. -/
theorem frameReceiveQueuesRequest : Obligations.FrameReceiveQueuesRequest := by
  intro kind tag p s hrun hreset hr hp
  rw [exec_frameReceive_running hrun hr hp]
  refine ⟨fun hroom => ?_, fun hfull => ?_⟩
  · rw [acceptFrame_queues _ hreset hroom]
  · rw [acceptFrame_full _ hreset hfull, replyKind_eq]
    rfl

/-! ## A frame that breaks off (R187) -/

theorem link_elapse (ms : Nat) (s : State) : (elapse ms s).link = s.link := by
  unfold elapse
  dsimp only
  split <;> rfl

theorem exec_receiveGapTimeout_inFrame {bytes : List Byte} {lastAt : Nat} (hrun : s.running = true)
    (hr : s.link.receiver = .inFrame bytes lastAt) :
    exec .receiveGapTimeout s = .next (setReceiver .hunting (elapseTo (lastAt + 21) s)) := by
  refine congrArg Host.Outcome.next ((whenRunning_running hrun _).trans ?_)
  rw [hr]
  rfl

/-- Settles O12: a wrong CRC is found when the last byte has come, a wrong length at once, and a gap ends the frame. -/
theorem damagedFramesAreDiscarded : Obligations.DamagedFramesAreDiscarded := by
  refine ⟨fun s hrun hreset hr => ⟨fun n body c1 c0 hmin hmax hbody hcrc => ?_, fun n hn => ?_⟩,
    fun bytes lastAt s hrun hr => ⟨_, exec_receiveGapTimeout_inFrame hrun hr, ?_, elapseTo_clock _ s⟩⟩
  · exact (exec_frameError_crcDiffers hrun hr hmin hmax hbody hcrc).trans
      (congrArg Host.Outcome.next (rejectFrame_reports false hreset))
  · exact (exec_frameError_badLength hrun hr hn).trans (congrArg Host.Outcome.next (rejectFrame_reports true hreset))
  · rw [setReceiver, elapseTo, link_elapse]

end Sys2Proof.Machine
end

section
/-! PROOF. Which commands are requests and when the Link Controller takes them, and the requests that are its own:
STATUS-QUERY, RESET-PREPARE and RESET-NOW (R188, R189, R192, R193). -/

namespace Sys2Proof.Machine

variable {s : State} {c : Instr} {f : Frame} {kind tag : Byte} {p : List Byte}

/-! ## Request commands (R188, R191) -/

/-- The frame that a request command takes. -/
def requestFrame : Instr → Option Frame
  | .unknownKind k t p => if isRequestKind k then none else some ⟨k, t, p⟩
  | .lineReport t p => some ⟨0x01, t, p⟩
  | .callArrive t p => some ⟨0x02, t, p⟩
  | .directRing t p => some ⟨0x03, t, p⟩
  | .callAnswer t p => some ⟨0x04, t, p⟩
  | .callGone t p => some ⟨0x05, t, p⟩
  | .pickupAsk t p => some ⟨0x06, t, p⟩
  | .parkAsk t p => some ⟨0x07, t, p⟩
  | .retrieveAsk t p => some ⟨0x08, t, p⟩
  | .pageAsk t p => some ⟨0x09, t, p⟩
  | .pageStop t p => some ⟨0x0A, t, p⟩
  | .extSet t p => some ⟨0x0B, t, p⟩
  | .groupSet t p => some ⟨0x0C, t, p⟩
  | .membersSet t p => some ⟨0x0D, t, p⟩
  | .fallbackSet t p => some ⟨0x0E, t, p⟩
  | .presenceStage t p => some ⟨0x0F, t, p⟩
  | .rosterCommit t p => some ⟨0x10, t, p⟩
  | .rosterQuery t p => some ⟨0x11, t, p⟩
  | .pickgroupSet t p => some ⟨0x12, t, p⟩
  | .orbitSet t p => some ⟨0x13, t, p⟩
  | .zonesetSet t p => some ⟨0x14, t, p⟩
  | .zoneSet t p => some ⟨0x15, t, p⟩
  | .pagingSet t p => some ⟨0x16, t, p⟩
  | .levelQuery t p => some ⟨0x17, t, p⟩
  | .excludeSet t p => some ⟨0x18, t, p⟩
  | .rangeHold t p => some ⟨0x19, t, p⟩
  | .mapArm t p => some ⟨0x1A, t, p⟩
  | .mapWrite _ t p => some ⟨0x1B, t, p⟩
  | .mapProtect _ t p => some ⟨0x1C, t, p⟩
  | .mapRead _ t p => some ⟨0x1D, t, p⟩
  | .traceSet t p => some ⟨0x1E, t, p⟩
  | .traceRead t p => some ⟨0x1F, t, p⟩
  | .traceClear t p => some ⟨0x20, t, p⟩
  | .callQuery t p => some ⟨0x21, t, p⟩
  | .statusQuery t p => some ⟨0x22, t, p⟩
  | .resetPrepare t p => some ⟨0x23, t, p⟩
  | .resetNow t p => some ⟨0x24, t, p⟩
  | _ => none

theorem isRequestKind_eq_false (h : kind.toNat = 0 ∨ 36 < kind.toNat) : isRequestKind kind = false := by
  simp only [isRequestKind, Bool.and_eq_false_iff, decide_eq_false_iff_not]
  omega

theorem exec_unknownKind_takes (h : isRequestKind kind = false) (s : State) : exec (.unknownKind kind tag p) s =
    .next (takeRequest ⟨kind, tag, p⟩ (fun s => (s, .refused .unknownKind)) s) :=
  congrArg Host.Outcome.next (if_neg (by simp [h]))

theorem exec_unknownKind_requestKind (h : isRequestKind kind = true) (s : State) :
    exec (.unknownKind kind tag p) s = .next s := congrArg Host.Outcome.next (if_pos h)

/-- Every request command asks the Link Controller to take its frame, and differs from the others in the frame's owner
alone. -/
theorem exec_eq_takeRequest (h : requestFrame c = some f) :
    ∃ owner, ∀ s, exec c s = .next (takeRequest f owner s) := by
  cases c with
  | unknownKind k t p =>
    rw [requestFrame] at h
    split at h
    · cases h
    · rename_i hk
      cases h
      exact ⟨_, exec_unknownKind_takes (Bool.eq_false_iff.2 hk)⟩
  | powerOn | pinReset | linkReset | frameReceive | frameError | receiveGapTimeout | outputDepart | noAnswerExpiry
  | maximumWaitExpiry | autoPageDue | parkTimerExpiry | recallRingExpiry | chimeTimerExpiry | hangTimerExpiry
  | suspensionTimerExpiry | durationExpiry | zoneReply | zoneReplyTimeout | staleTimeExpiry | alarmLevelChange
  | debounceExpiry | mapWriteComplete | resetLineAsserted | powerLoss => cases h
  | _ => cases h; exact ⟨_, fun _ => rfl⟩

/-! ## When a request is taken (R188, R193; log entry 9) -/

/-- Once a link reset is due no request is taken (R193). -/
theorem takeRequest_due (h : s.link.resetAfter.isSome = true) (f : Frame) (owner : State → State × Answer) :
    takeRequest f owner s = s := if_pos (by simp [State.takesNone, h])

theorem exec_request_due (h : s.link.resetAfter.isSome = true) (hc : (requestFrame c).isSome = true) :
    exec c s = .next s := by
  obtain ⟨f, hf⟩ := Option.isSome_iff_exists.1 hc
  obtain ⟨owner, howner⟩ := exec_eq_takeRequest hf
  rw [howner, takeRequest_due h]

/-- On an empty request queue the frame arrives with its command. -/
theorem takeRequest_arrives (hrun : s.running = true) (hreset : s.link.resetAfter = none)
    (hempty : s.link.requests = []) (f : Frame) (owner : State → State × Answer) :
    takeRequest f owner s = takeRequest f owner { s with link := { s.link with requests := [f] } } := by
  have hs : standInQueue f s = { s with link := { s.link with requests := [f] } } := if_pos (by simp [hempty])
  have htakes : s.takesNone = false := by simp [State.takesNone, hrun, hreset]
  have htakes' : ({ s with link := { s.link with requests := [f] } } : State).takesNone = false := htakes
  simp only [takeRequest, htakes, htakes', hs]
  rfl

/-- What a request command does of the request queue: it waits, its frame arrives and waits, or its frame arrives. -/
theorem exec_request_inOrder (hrun : s.running = true) (hreset : s.link.resetAfter = none)
    (hf : requestFrame c = some f) :
    (s.link.requests ≠ [] → s.link.requests.head? ≠ some f ∨ 40 ≤ s.link.output.length → exec c s = .next s) ∧
    (s.link.requests = [] → 40 ≤ s.link.output.length →
      exec c s = .next { s with link := { s.link with requests := [f] } }) ∧
    (s.link.requests = [] → s.link.output.length < 40 →
      exec c s = exec c { s with link := { s.link with requests := [f] } }) := by
  obtain ⟨owner, howner⟩ := exec_eq_takeRequest hf
  simp only [howner]
  refine ⟨fun hne hw => ?_, fun hempty hfull => ?_, fun hempty _ => ?_⟩
  · rw [takeRequest_waits owner hne hw]
  · exact congrArg Host.Outcome.next ((takeRequest_arrives hrun hreset hempty f owner).trans
      (takeRequest_waits owner (List.cons_ne_nil f []) (.inr hfull)))
  · rw [takeRequest_arrives hrun hreset hempty]

/-- Settles O10: payloads that cannot be read, and the front of the request queue. -/
theorem requestsAreTakenInOrder : Obligations.RequestsAreTakenInOrder := by
  intro tag p s
  refine ⟨fun hp ht => ?_, fun hp ht => ?_, ?_, ?_⟩
  · have hread : readNothing p = none := by
      cases p with
      | nil => exact absurd rfl hp
      | cons b p => rfl
    exact congrArg Host.Outcome.next (takeKind_badLength ht hread _)
  · have hread : LineReportOp.read p = none := by
      unfold LineReportOp.read
      split
      · exact absurd rfl hp
      · rfl
    exact congrArg Host.Outcome.next (takeKind_badLength ht hread _)
  · rintro g n rest rfl hrest ht
    exact congrArg Host.Outcome.next (takeKind_badLength ht (if_neg hrest) _)
  · intro hrun hreset other line hother r hr
    have hframe : requestFrame r.2 = some ⟨r.1, tag, p⟩ := by
      revert r
      simp [requestFrame, isRequestKind_eq_false hother]
    exact exec_request_inOrder hrun hreset hframe

/-! ## The Link Controller's answers (R189, R192, R193) -/

theorem answered_joins (h : s.link.output.length < 48) (f : Frame) (v : Verdict) (b : ReplyBody) :
    answered f v b s = { s with
      link := { s.link with
        output := s.link.output ++ [.reply (replyKind f.kind) f.tag v b]
        requests := s.link.requests.drop 1, prepared := f.kind = 0x23 && v = .ok }
      map := { s.map with armed := f.kind = 0x1A && v = .ok } } := by
  rw [answered, put_joins (mayJoin_reply h _ _ _ _)]

/-- Where a request is taken the output queue has a place for its reply (R188, R190). -/
theorem output_taken (ht : s.Takes f) : s.link.output.length < 48 := Nat.lt_trans ht.room (by decide)

/-- Settles O13: a taken frame of no request kind has no owner but the Link Controller. -/
theorem unknownKindIsRefused : Obligations.UnknownKindIsRefused := by
  intro kind tag p s hkind ht
  have hk := isRequestKind_eq_false hkind
  rw [exec_unknownKind_takes hk, takeRequest_takes ht, answered_joins (output_taken ht)]
  simp [replyKind, hk, Answer.refused]

theorem toList_eq_map_tabGet {α : Type} {n : Nat} (v : Vector α n) (d : α) :
    v.toList = (List.range n).map fun i => tabGet v i d := by
  refine List.ext_getElem (by simp) fun i hi _ => ?_
  have hn : i < n := by simpa using hi
  simp [tabGet_lt v d hn]

/-- The fields of a STATUS-QUERY reply, the inputs and the pages read one by one (R192). -/
theorem statusReport_eq (s : State) : s.statusReport =
    { cause := s.link.cause, mapStatus := s.map.status, protection := s.map.copy.protection, locked := s.map.locked
      rangeHeld := s.map.rangeHeld, armed := s.map.armed
      inputs := (List.range 4).map fun i => (s.input i).report
      override := s.override, frozen := s.trace.frozen, calls := s.calls.length
      generalPages := (s.pages.filter fun p => p.alarm.isNone).length
      alarmPages := (s.pages.filter fun p => p.alarm.isSome).length, lost := s.link.lost } := by
  have hinputs : s.inputs.toList.map AlarmInput.report = (List.range 4).map fun i => (s.input i).report := by
    rw [toList_eq_map_tabGet s.inputs (AlarmInput.sampled false 0), List.map_map]
    rfl
  have hpages : s.pages.length - s.generalPages = (s.pages.filter fun p => p.alarm.isSome).length := by
    rw [State.generalPages, s.pages.length_eq_length_filter_add fun p => p.alarm.isNone]
    simp
  rw [State.statusReport, hinputs, hpages]
  rfl

/-- Settles O14: the owner changes nothing, and its report reads the state it finds. -/
theorem statusQueryReports : Obligations.StatusQueryReports := by
  intro tag s ht
  refine congrArg Host.Outcome.next ((takeKind_takes (read := readNothing) ht rfl _).trans ?_)
  exact congrArg (fun r => answered ⟨0x22, tag, []⟩ .ok (.status r) s) (statusReport_eq s)

theorem exec_resetPrepare_taken (ht : s.Takes ⟨0x23, tag, []⟩) :
    exec (.resetPrepare tag []) s = .next (answered ⟨0x23, tag, []⟩ .ok .nothing s) :=
  congrArg Host.Outcome.next (takeKind_takes (read := readNothing) ht rfl _)

theorem exec_resetNow_unprepared (ht : s.Takes ⟨0x24, tag, []⟩) (h : s.link.prepared = false) :
    exec (.resetNow tag []) s = .next (refusedWith ⟨0x24, tag, []⟩ .notArmed s) := by
  refine congrArg Host.Outcome.next ((takeKind_takes (read := readNothing) ht rfl _).trans ?_)
  simp only [resetNow, h]
  rfl

/-- The link reset becomes due when the reply that joins behind the waiting frames has left (R193). -/
theorem exec_resetNow_prepared (ht : s.Takes ⟨0x24, tag, []⟩) (h : s.link.prepared = true) :
    exec (.resetNow tag []) s = .next (answered ⟨0x24, tag, []⟩ .ok .nothing { s with
      link := { s.link with requests := [], resetAfter := some (s.link.output.length + 1) } }) := by
  have hdepartures : s.link.departuresOfReply = s.link.output.length + 1 := if_pos (output_taken ht)
  refine congrArg Host.Outcome.next ((takeKind_takes (read := readNothing) ht rfl _).trans ?_)
  simp only [resetNow, h, hdepartures]
  rfl

/-- Settles O15: the two requests as they are answered, and a due link reset that discards what arrives. -/
theorem linkResetIsPreparedFirst : Obligations.LinkResetIsPreparedFirst := by
  intro tag s
  refine ⟨fun ht => ?_, fun ht hprepared => ?_, exec_resetNow_unprepared, fun n hrun hreset => ⟨?_, fun hr => ?_⟩⟩
  · rw [exec_resetPrepare_taken ht, answered_joins (output_taken ht)]
    rfl
  · have hroom : s.link.output.length < 48 := output_taken ht
    refine (exec_resetNow_prepared ht hprepared).trans (congrArg Host.Outcome.next (answered_joins ?_ _ .ok .nothing))
    exact hroom
  · intro kind line p
    have hdue : s.link.resetAfter.isSome = true := by rw [hreset]; rfl
    refine List.forall_mem_cons.2 ⟨?_, fun i hi => exec_request_due hdue ?_⟩
    · cases hk : isRequestKind kind with
      | true => exact exec_unknownKind_requestKind hk s
      | false => rw [exec_unknownKind_takes hk, takeRequest_due hdue]
    · revert i
      simp [requestFrame]
  · have hdue : s.link.resetAfter.isSome = true := by rw [hreset]; rfl
    refine ⟨fun kind p hp => ?_, fun b body c1 c0 hmin hmax hbody hcrc => ?_, fun b hb => ?_⟩
    · rw [exec_frameReceive_running hrun hr hp, acceptFrame_due _ hdue]
    · exact (exec_frameError_crcDiffers hrun hr hmin hmax hbody hcrc).trans
        (congrArg Host.Outcome.next (rejectFrame_due false hdue))
    · exact (exec_frameError_badLength hrun hr hb).trans (congrArg Host.Outcome.next (rejectFrame_due true hdue))

end Sys2Proof.Machine
end

section
/-! PROOF. A step takes the command at the front of the queue, and no command touches the queue of those that wait
(00_scope.md, Where events arrive). -/

namespace Sys2Proof.Machine

variable {s t : State} {c : Instr} {q rest : List Instr}

/-! ## The step of a waiting command -/

theorem step_front (h : s.pending = c :: rest) : step s = exec c { s with pending := rest } := by
  simp only [step, h]

/-- Settles O1: the step's own case of a queue that is not empty. -/
theorem stepRunsFrontCommand : Obligations.StepRunsFrontCommand := fun _ _ _ => step_front

/-! ## The queue under the shared operations -/

/-- These commands are waiting. -/
def HasPending (q : List Instr) (s : State) : Prop := s.pending = q

theorem hasPending_elapse (ms : Nat) (h : HasPending q s) : HasPending q (elapse ms s) := by
  unfold elapse
  dsimp only
  split <;> exact h

/-- Neither a primitive change of the blocks nor a change of the link, the map, the trace, the levels, the supply or
the time touches the queue of waiting commands. -/
theorem hasPending_loose (q : List Instr) : Loose (HasPending q) where
  modExt _ _ _ h := h
  modGroup _ _ _ h := h
  modOrbit _ _ _ h := h
  modCall _ _ _ h := h
  freeCall _ _ h := h
  setPages _ _ h := h
  setIds _ _ _ h := h
  modZone _ _ _ h := h
  modAmp _ _ _ h := h
  limit _ _ h := h
  modInput _ _ _ h := h
  emit _ _ h := h
  keep _ _ h := h
  freezeTrace _ h := h
  setOverride _ _ h := h
  setCovered _ _ h := h
  setExchange _ _ _ h := h
  setLink _ _ _ h := h
  setMap _ _ _ h := h
  setTrace _ _ _ h := h
  setLevel _ _ _ _ h := h
  addCall _ _ _ h := h
  setSupply _ _ h := h
  elapse ms _ h := hasPending_elapse ms h

/-! ## The queue under the start-ups, the setting requests and a verified write -/

/-- A start-up puts every block at its reset values, yet keeps the commands that wait (R194). -/
theorem startUp_hasPending (cause : ResetCause) (sample : StartSample) (h : HasPending q s) :
    HasPending q (startUp cause sample s) := by
  obtain ⟨e, r, hstarted⟩ := startUp_eq cause sample s
  rw [hstarted]
  exact h

theorem fallbackSet_hasPending (code : Option Nat) (h : HasPending q s) : HasPending q (fallbackSet code s).1 := by
  unfold fallbackSet
  split <;> exact h

theorem pickgroupSet_hasPending (o : PickgroupSetOp) (h : HasPending q s) : HasPending q (pickgroupSet o s).1 := by
  unfold pickgroupSet
  repeat' split
  all_goals exact h

theorem zonesetSet_hasPending (o : ZoneSetSetOp) (h : HasPending q s) : HasPending q (zonesetSet o s).1 := by
  unfold zonesetSet
  split
  · exact h
  · exact releasingHolds_steady (hasPending_loose q).toSteady h

theorem pagingSet_hasPending (o : PagingSetOp) (h : HasPending q s) : HasPending q (pagingSet o s).1 := h

theorem verified_hasPending (w : MapWriting) (h : HasPending q s) : HasPending q (verified w s) :=
  verified_steady (hasPending_loose q).toSteady (fun _ _ h => h) w h

/-! ## Every command -/

theorem exec_hasPending (he : exec c s = .next t) (h : HasPending q s) : HasPending q t := by
  have hL := hasPending_loose q
  by_cases hc : Instr.keepsLoose c
  · exact exec_loose hL c hc he h
  have done {u : State} (hu : HasPending q u)
      (hut : (Host.Outcome.next u : Host.Outcome State Fault Refusal) = .next t) : HasPending q t := by
    injection hut with hut
    exact hut ▸ hu
  cases c with
  | powerOn sample =>
    have hstopped := stopActivity_loose hL h
    exact done (ite_steady (hL.setSupply _ _ hstopped) (startUp_hasPending _ _ hstopped)) he
  | pinReset sample =>
    exact done (ite_steady (startUp_hasPending _ _ (stopActivity_loose hL h)) (hL.setSupply _ _ h)) he
  | linkReset sample => exact done (whenRunning_loose (fun _ h => ite_steady (startUp_hasPending _ _ h) h) h) he
  | fallbackSet tag p => exact done (takeKind_loose hL _ _ _ _ (fun o _ => fallbackSet_hasPending o) h) he
  | pickgroupSet tag p => exact done (takeKind_loose hL _ _ _ _ (fun o _ => pickgroupSet_hasPending o) h) he
  | zonesetSet tag p => exact done (takeKind_loose hL _ _ _ _ (fun o _ => zonesetSet_hasPending o) h) he
  | pagingSet tag p => exact done (takeKind_loose hL _ _ _ _ (fun o _ => pagingSet_hasPending o) h) he
  | mapWriteComplete verifies =>
    refine done (whenRunning_loose (fun s h => ?_) h) he
    split
    · exact h
    · exact atExpiry_loose hL _ (fun _ h => ite_steady (verified_hasPending _ h) (unverified_loose hL h)) h
  | _ => exact absurd trivial hc

/-- Settles O2: the primitive changes leave the queue alone, so every command does, and a start-up carries it over. -/
theorem execKeepsQueue : Obligations.ExecKeepsQueue := fun _ _ _ he => exec_hasPending he rfl

end Sys2Proof.Machine
end
